-- ==== Sys2Proof/Word.lean ====
section
/-! DEFINITION. The byte type, the saturating counter of section 6 of the introduction, clamping, and a table built
from a function. -/

namespace Sys2Proof

/-- One byte of a line or trunk frame. -/
abbrev Byte := BitVec 8

/-- A counter stops at its largest value unless its rule says that it wraps (introduction, section 6). -/
def satInc (top n : Nat) : Nat := if n < top then n + 1 else top

/-- A clamped value is stored as the nearest bound (introduction, section 6). -/
def clampTo (lo hi n : Nat) : Nat := max lo (min hi n)

/-- The vector whose entry at place `i` is `f i`. -/
def tab {n : Nat} {α : Type} (f : Fin n → α) : Vector α n :=
  ⟨((List.finRange n).map f).toArray, by simp⟩

/-- The best entry of a list, the earliest of equals: a later entry replaces it only when strictly `better`. -/
def pickBest {α : Type} (better : α → α → Bool) : List α → Option α
  | [] => none
  | a :: rest => some (rest.foldl (fun best x => if better x best then x else best) a)

end Sys2Proof
end

