-- ==== Sys2Proof/Syntax.lean ====
section
/-! DEFINITION. The commands of the gateway: one constructor of `Instr` for each row of spec/opcode_table.json, with the
operands the row's rule gives it. A value that a frame could carry outside its range or list is a plain `Nat` here, since
the rule that owns it judges it (R161, R173). -/

namespace Sys2Proof

/-- Line number: A, B, C, D are 0 to 3. -/
abbrev LineId := Fin 4
/-- Lift index, line × 16 + car slot. -/
abbrev LiftIdx := Fin 64
/-- Panel index, line × 4 + (panel slot − 16). -/
abbrev PanelIdx := Fin 16
/-- Case record number. -/
abbrev CaseNo := Fin 16
/-- Crew record number. -/
abbrev CrewNo := Fin 8
/-- Slot on a line: car slots 0 to 15, panel slots 16 to 19. -/
abbrev Slot := Fin 20

/-- The two trunk sides (R147). -/
inductive Side where
  | near
  | far
  deriving DecidableEq, Repr

/-- Where a trunk frame came from: its source address and its tag, which its answer carries back (R151, R160). -/
structure Origin where
  source : BitVec 16
  tag : BitVec 8
  deriving DecidableEq, Repr

/-- The two routes of a crew request (section 5.3). -/
inductive Route where
  | trunk (origin : Origin)
  | panel (p : PanelIdx)
  deriving DecidableEq, Repr

/-- What an answer window held when it closed (R7). A wake burst is a command of its own (R14). -/
inductive WindowHeld where
  | nothing
  /-- A frame begun but not complete when the window ran out. -/
  | unfinished
  /-- A burst that ended in the window, byte for byte. -/
  | frame (bytes : List Byte)
  deriving DecidableEq, Repr

/-- The record of a WRITE to the lift table, as its bytes give it (section 11.4). -/
structure LiftWrite where
  enabled : Nat
  identity : Nat
  landings : List Nat
  doorZone : Nat
  creep : Nat
  debounce : Nat
  silence : Nat
  balance : Nat
  step : Nat
  reach : Nat
  cap : Nat
  stall : Nat
  alarm : Nat
  shared : Nat
  silent : Nat
  manual : Nat
  page : Nat
  forwarding : Nat
  deriving DecidableEq, Repr

/-- The record of a WRITE to the panel table: bit n of a map is car slot n (section 11.4). -/
structure PanelWrite where
  enabled : Nat
  map0 : Nat
  map1 : Nat
  map2 : Nat
  map3 : Nat
  deriving DecidableEq, Repr

/-- The record of a WRITE to the crew table (section 11.4). -/
structure CrewWrite where
  enabled : Nat
  tag : Nat
  coverage : Nat
  post : Nat
  deriving DecidableEq, Repr

/-- The record of a WRITE to the class table (section 11.4). -/
structure ClassWrite where
  base : Nat
  interval : Nat
  clear : Nat
  stop : Nat
  limit : Nat
  skip : Nat
  closeOnAccept : Nat
  deriving DecidableEq, Repr

/-- The record of a WRITE to a procedure step: five bytes read as four fields (section 11.3). -/
structure StepWrite where
  action : Nat
  argument : Nat
  limit : Nat
  branch : Nat
  deriving DecidableEq, Repr

/-- The per-line part of a WRITE of the sector settings. -/
structure LineWrite where
  defaultMode : Nat
  cycleInterval : Nat
  quietCeiling : Nat
  answerWindow : Nat
  deriving DecidableEq, Repr

/-- The record of a WRITE of the sector settings (section 11.4, R164). -/
structure SettingsWrite where
  d1 : Nat
  d2 : Nat
  offerTimeout : Nat
  tieMode : Nat
  settleLimit : Nat
  lines : Vector LineWrite 4
  deriving DecidableEq, Repr

/-- The commands, in the order of spec/opcode_table.json. -/
inductive Instr where
  /-- POWER_ON_RESET (R142): the reset pin. -/
  | powerOnReset
  /-- STRAP_CHANGE (R158): the straps now read `address`. -/
  | strapChange (address : BitVec 12)
  /-- TICK_END (R142). -/
  | tickEnd
  /-- INTERVAL_TIMER_EXPIRY (R12). -/
  | intervalTimerExpiry (l : LineId)
  /-- CEILING_TIMER_EXPIRY (R13). -/
  | ceilingTimerExpiry (l : LineId)
  /-- ESCALATION_TIMER_EXPIRY (R71). -/
  | escalationTimerExpiry (c : CaseNo)
  /-- OFFER_TIMER_EXPIRY (R98). -/
  | offerTimerExpiry (k : CrewNo)
  /-- MIN_TIMER_EXPIRY (R102). -/
  | minTimerExpiry (c : CaseNo)
  /-- MAX_TIMER_EXPIRY (R104). -/
  | maxTimerExpiry (c : CaseNo)
  /-- STEP_TIMER_EXPIRY (R111). -/
  | stepTimerExpiry (c : CaseNo)
  /-- SETTLE_TIMER_EXPIRY (R136). -/
  | settleTimerExpiry (c : CaseNo)
  /-- ANSWER_WINDOW_CLOSE (R7): the open window of the line closes, having held `held`. -/
  | answerWindowClose (l : LineId) (held : WindowHeld)
  /-- WAKE (R13): a burst on the pair, byte for byte. -/
  | wake (l : LineId) (burst : List Byte)
  /-- WAKE_BURST_IN_CYCLE (R14). -/
  | wakeBurstInCycle (l : LineId)
  /-- NEAR_FRAME_RECEIVED (R148), byte for byte. -/
  | nearFrameReceived (bytes : List Byte)
  /-- FAR_FRAME_RECEIVED (R150), byte for byte. -/
  | farFrameReceived (bytes : List Byte)
  /-- LINK_STATE_CHANGE (R147): the side's receive signal is now present or not. -/
  | linkStateChange (side : Side) (up : Bool)
  /-- NEAR_TRANSMIT_COMPLETE (R155). -/
  | nearTransmitComplete
  /-- FAR_TRANSMIT_COMPLETE (R149). -/
  | farTransmitComplete
  /-- READ (R162): table code and index of section 11.4. -/
  | read (o : Origin) (table : Nat) (index : Nat)
  /-- WRITE_LIFT (R32). -/
  | writeLift (o : Origin) (index : Nat) (w : LiftWrite)
  /-- WRITE_PANEL (R37). -/
  | writePanel (o : Origin) (index : Nat) (w : PanelWrite)
  /-- WRITE_CREW (R86). -/
  | writeCrew (o : Origin) (index : Nat) (w : CrewWrite)
  /-- WRITE_CLASS (R60). -/
  | writeClass (o : Origin) (index : Nat) (w : ClassWrite)
  /-- WRITE_TRAVEL (R91). -/
  | writeTravel (o : Origin) (index : Nat) (min : Nat) (max : Nat)
  /-- WRITE_STEP (R109): index is page × 16 + step. -/
  | writeStep (o : Origin) (index : Nat) (w : StepWrite)
  /-- WRITE_SECTOR_SETTINGS (R164). -/
  | writeSectorSettings (o : Origin) (index : Nat) (w : SettingsWrite)
  /-- SET_FORWARD (R27). -/
  | setForward (o : Origin) (index : Nat) (mode : Nat)
  /-- LINE_ENABLE (R19). -/
  | lineEnable (o : Origin) (line : Nat)
  /-- LINE_DISABLE (R20). -/
  | lineDisable (o : Origin) (line : Nat)
  /-- LINE_RESET (R21). -/
  | lineReset (o : Origin) (line : Nat)
  /-- SET_BOTTOM (R92). -/
  | setBottom (o : Origin) (index : Nat)
  /-- SURVEY (R107). -/
  | survey (o : Origin) (crew : Nat)
  /-- CASE_OPEN (R166). -/
  | caseOpen (o : Origin) (identity : Nat)
  /-- CASE_CLOSE (R167). -/
  | caseClose (o : Origin) (serial : BitVec 16)
  /-- READ_CASE (R168). -/
  | readCase (o : Origin) (record : Nat)
  /-- READ_COUNTERS (R169). -/
  | readCounters (o : Origin)
  /-- WARM_RESTART (R171): the force byte. -/
  | warmRestart (o : Origin) (force : Nat)
  /-- CONTROL with INHIBIT (R156). -/
  | controlInhibit (o : Origin) (identity : Nat)
  /-- CONTROL with RESTORE (R156). -/
  | controlRestore (o : Origin) (identity : Nat)
  /-- CONTROL with ANNOUNCE (R156). -/
  | controlAnnounce (o : Origin) (identity : Nat) (message : Nat)
  /-- CONTROL with SERVICE (R156). -/
  | controlService (o : Origin) (identity : Nat) (code : Nat)
  /-- DUTY_ON (R90). -/
  | dutyOn (r : Route) (tag : Nat)
  /-- DUTY_OFF (R90). -/
  | dutyOff (r : Route) (tag : Nat)
  /-- SWEEP_ON (R90). -/
  | sweepOn (r : Route) (tag : Nat)
  /-- SWEEP_OFF (R90). -/
  | sweepOff (r : Route) (tag : Nat)
  /-- JOB (R93). -/
  | job (r : Route) (tag : Nat)
  /-- ACCEPT (R96). -/
  | accept (r : Route) (tag : Nat) (serial : Option (BitVec 16))
  /-- DECLINE (R97). -/
  | decline (r : Route) (tag : Nat) (serial : Option (BitVec 16))
  /-- ARRIVED (R103). -/
  | arrived (r : Route) (tag : Nat) (serial : Option (BitVec 16))
  /-- VOICE (R105). -/
  | voice (r : Route) (tag : Nat) (serial : Option (BitVec 16))
  /-- STAND_DOWN (R106). -/
  | standDown (r : Route) (tag : Nat) (serial : Option (BitVec 16))
  /-- FIRST_STAGE_CARRY (R142). -/
  | firstStageCarry
  deriving DecidableEq, Repr

end Sys2Proof
end

