-- ==== Sys2Proof/Decode.lean ====
section
/-! DEFINITION. The command a table word spells. No row of spec/opcode_table.json gives bits (its rows are events and
requests, not encoded words), so no word spells a command. The byte layouts of chapter 11, which the frames of
NEAR_FRAME_RECEIVED and ANSWER_WINDOW_CLOSE are decoded by, stand in Machine/Formats.lean. -/

namespace Sys2Proof

/-- The command the `nbits` bits of `w` spell by the table: none, since no row of the table gives bits. -/
def decodeTableWord (_nbits _w : Nat) : Option Instr := none

end Sys2Proof
end

