-- ==== Sys2Proof/Config.lean ====
section
/-! DEFINITION. The fixed sizes of the part, and the one family of free values. -/

namespace Sys2Proof.Config

/-- The own upstream queue holds up to 32 frames (R151). -/
def ownCapacity : Nat := 32
/-- The relay queue holds up to 16 frames (R150). -/
def relayCapacity : Nat := 16
/-- The forward queue holds up to 16 frames (R149). -/
def forwardCapacity : Nat := 16
/-- A line's routine queue holds up to 8 commands (R17). -/
def routineCapacity : Nat := 8
/-- A crew holds at most three cases (R101). -/
def heldCapacity : Nat := 3
/-- An activation begins at most 16 steps (R113). -/
def stepBudget : Nat := 16
/-- The common page of the procedure store (section 6.1). -/
def commonPage : Fin 16 := 15
/-- The broadcast address (R148). -/
def broadcast : BitVec 16 := 0xFFFF#16

/-- How many internal jobs one handling may take before it is stopped by a fault. The sizes of the case table and of the own
queue bound every handling far below it. DESIGN CHOICE (log 4), safe. -/
def cascadeBudget : Nat := 10000

/-- Free bytes, drawn in order: the spec states no value for them (log 10). Nothing is known of any of them. -/
opaque freeByte : Nat → BitVec 8

/-- The code of the release reason NO_TARGET in a RELEASE_ABORTED notice: section 11.2 numbers the other fourteen reasons
and gives none for it (log 10). Nothing is known of it. -/
opaque noTargetCode : BitVec 8

end Sys2Proof.Config
end

