-- ==== Sys2Proof/Machine/State.lean ====
section
/-! DEFINITION. The state of the gateway as plain data, every piece the spec names, and its value after a power-on
reset. -/

namespace Sys2Proof.Machine

/-! ### Timers (chapter 8) -/

/-- A sector timer (R145): stopped, or running with a remaining count. `due` is a stopped one too, with the MODEL's own mark that
its expiry has been handed to its owner and is not yet taken (log 1); a stop or a start takes such an expiry away (R71, R97,
R117). -/
inductive Timer where
  | stopped
  | running (remaining : Nat)
  | due
  deriving DecidableEq, Repr

/-! ### Line frames and lines (chapter 1) -/

/-- CONTINUOUS or QUIET. -/
inductive CycleMode where
  | continuous
  | quiet
  deriving DecidableEq, Repr

/-- The four line states (section 1.4). -/
inductive LineState where
  | off
  | cycle
  | waitInterval
  | quietIdle
  deriving DecidableEq, Repr

/-- The drift direction of a release and of a BRAKE_PULSE. -/
inductive Direction where
  | up
  | down
  deriving DecidableEq, Repr

/-- The commands a START can carry to a car (section 1.3). -/
inductive CarCommand where
  | inhibit
  | restore
  | announce (message : Nat)
  | brakePulse (sequence : Nat) (direction : Direction)
  | service (code : Nat)
  deriving DecidableEq, Repr

/-- The answer codes of section 10.7, in the order of section 11.3. -/
inductive AnswerCode where
  | ok
  | clamped
  | queued
  | badIndex
  | badValue
  | locked
  | busy
  | full
  | wrongState
  | notHeld
  | gone
  | noCase
  | implausible
  | offer
  deriving DecidableEq, Repr

/-- A pending PANEL_ANSWER with the tick stamp at which it became pending (R16). -/
structure PanelAnswer where
  code : AnswerCode
  crewTag : Nat
  serial : Option (BitVec 16)
  stamp : BitVec 32
  deriving DecidableEq, Repr

/-- An entry of a routine queue: a target car slot and a command (R17). -/
structure RoutineEntry where
  slot : Fin 16
  command : CarCommand
  deriving DecidableEq, Repr

/-- The wake source of a START: a slot, or UNKNOWN (R4). -/
inductive WakeSource where
  | slot (s : Slot)
  | unknown
  deriving DecidableEq, Repr

/-- The command field of a START (R4). -/
inductive LineCommand where
  | toCar (slot : Fin 16) (command : CarCommand)
  | toPanel (place : Fin 4) (answer : PanelAnswer)
  deriving DecidableEq, Repr

/-- The fields of a START frame (R4). -/
structure StartFrame where
  cycleNumber : BitVec 8
  mode : CycleMode
  slotSet : List Slot
  wake : Option WakeSource
  command : Option LineCommand
  deriving DecidableEq, Repr

/-- One line controller's record (section 1.2). `windowMs` is the length the windows of the cycle in progress keep (R3),
`collided` marks the open window as hit by a wake burst (R14), `lastStart` and `lastStop` are the frames the line carried
last (log 5). -/
structure Line where
  state : LineState
  cycleNumber : BitVec 8
  mode : CycleMode
  slotSet : List Slot
  currentSlot : Option Slot
  windowMs : Nat
  collided : Bool
  intervalTimer : Timer
  ceilingTimer : Timer
  routine : List RoutineEntry
  answers : Vector (Option PanelAnswer) 4
  errors : Nat
  cycles : BitVec 32
  lastStart : Option StartFrame
  lastStop : Option CycleMode
  deriving DecidableEq, Repr

/-- The per-line sector settings (section 1.2). -/
structure LineSettings where
  defaultMode : CycleMode
  cycleInterval : Nat
  quietCeiling : Nat
  answerWindow : Nat
  deriving DecidableEq, Repr

/-- The tie mode of the dispatch arbiter (R91). -/
inductive TieMode where
  | oldest
  | rotate
  deriving DecidableEq, Repr

/-- The sector settings (R164); `d1` and `d2` are the written divisors. -/
structure Settings where
  d1 : Nat
  d2 : Nat
  offerTimeout : Nat
  tieMode : TieMode
  settleLimit : Nat
  lines : Vector LineSettings 4
  deriving DecidableEq, Repr

/-! ### Cars and lifts (chapters 2 and 3) -/

/-- Car mode. -/
inductive CarMode where
  | normal
  | inhibited
  | maint
  deriving DecidableEq, Repr

/-- Occupancy. -/
inductive Occupancy where
  | unknown
  | empty
  | occupied
  deriving DecidableEq, Repr

/-- Doors. -/
inductive Doors where
  | closed
  | opened
  | obstructed
  deriving DecidableEq, Repr

/-- The car record as a REPORT carries it (section 3.1). -/
structure CarReport where
  mode : CarMode
  position : Nat
  velocityCode : Nat
  load : Nat
  occupancy : Occupancy
  doors : Doors
  alarm : Bool
  presses : Nat
  chainOpen : Bool
  brakeLifted : Bool
  echo : Nat
  deriving DecidableEq, Repr

/-- The last report of a lift in its decoded form (R38): the velocity in mm/s and the load at most 200. `inZone` is the
result of R41 at this report, which R118 and R120 read later (log 29). -/
structure CarRecord where
  mode : CarMode
  position : Nat
  velocity : Int
  load : Nat
  occupancy : Occupancy
  doors : Doors
  alarm : Bool
  presses : Nat
  chainOpen : Bool
  brakeLifted : Bool
  echo : Nat
  inZone : Bool
  deriving DecidableEq, Repr

/-- The five causes, in the fixed order of R62. -/
inductive Cause where
  | stall
  | alarm
  | shared
  | silent
  | manual
  deriving DecidableEq, Repr

/-- A set of causes, one truth value for each. -/
structure CauseSet where
  stall : Bool
  alarm : Bool
  shared : Bool
  silent : Bool
  manual : Bool
  deriving DecidableEq, Repr

/-- The empty set of causes. -/
def CauseSet.empty : CauseSet := ⟨false, false, false, false, false⟩

/-- EDGE or LEVEL (R26). -/
inductive Trigger where
  | edge
  | level
  deriving DecidableEq, Repr

/-- The enable and the trigger of one cause (R26). -/
structure CauseSetting where
  enabled : Bool
  trigger : Trigger
  deriving DecidableEq, Repr

/-- The forwarding mode of a lift (R27). -/
inductive Forwarding where
  | all
  | changes
  | none
  deriving DecidableEq, Repr

/-- The nine lift states (section 3.3). -/
inductive LiftState where
  | disabled
  | offline
  | unseen
  | running
  | parked
  | halted
  | stalled
  | maintenance
  | silent
  deriving DecidableEq, Repr

/-- The configuration part of a lift record (section 2.1). -/
structure LiftConfig where
  enabled : Bool
  identity : Nat
  landings : List Nat
  doorZone : Nat
  creep : Nat
  debounce : Nat
  silence : Nat
  balance : Nat
  step : Nat
  reach : Nat
  cap : Nat
  stall : CauseSetting
  alarm : CauseSetting
  shared : CauseSetting
  silent : CauseSetting
  manual : CauseSetting
  page : Fin 16
  forwarding : Forwarding
  deriving DecidableEq, Repr

/-- The dynamic part of a lift record (section 2.2). An empty `latch` is an absent one. `keptTruth` is the cause truth that a
LINE_RESET has kept, which stands until the first taken report after it (R21, R28, R46, R74, log 34); it means nothing while
there is a last report. -/
structure LiftDynamic where
  state : LiftState
  lastReport : Option CarRecord
  nearest : Nat
  stopCount : Nat
  silenceCount : Nat
  truth : CauseSet
  latch : CauseSet
  pressBaseline : Option Nat
  openCase : Option CaseNo
  keptTruth : CauseSet
  deriving DecidableEq, Repr

/-- A lift record. -/
structure Lift where
  config : LiftConfig
  dyn : LiftDynamic
  deriving DecidableEq, Repr

/-- The configuration part of a panel record: the map of each input is a set of car slots, bit n for slot n. -/
structure PanelConfig where
  enabled : Bool
  map : Vector (BitVec 16) 4
  deriving DecidableEq, Repr

/-- The dynamic fields of a panel record (section 2.3). `toggle` is none while unset; bit n of `inputs` is input n. -/
structure PanelDynamic where
  logged : Option Nat
  toggle : Option Bool
  hold : Bool
  pressNumber : Nat
  inputs : BitVec 4
  deriving DecidableEq, Repr

/-- A panel record. -/
structure Panel where
  config : PanelConfig
  dyn : PanelDynamic
  deriving DecidableEq, Repr

/-! ### Cases (chapters 4, 6 and 7) -/

/-- FREE, OPEN or CLOSING (section 4.1). -/
inductive RecordState where
  | free
  | opened
  | closing
  deriving DecidableEq, Repr

/-- The dispatch state of a case. -/
inductive DispatchState where
  | waiting
  | offered
  | assigned
  | onSite
  | cleared
  deriving DecidableEq, Repr

/-- The six named events of a case (section 4.6). -/
inductive NamedEvent where
  | voiceContact
  | crewArrived
  | carMoved
  | doorsOpen
  | inZone
  | evacuated
  deriving DecidableEq, Repr

/-- A set of named events. -/
structure EventSet where
  voiceContact : Bool
  crewArrived : Bool
  carMoved : Bool
  doorsOpen : Bool
  inZone : Bool
  evacuated : Bool
  deriving DecidableEq, Repr

/-- The empty event-seen set. -/
def EventSet.empty : EventSet := ⟨false, false, false, false, false, false⟩

/-- The reasons of a close (section 4.8). -/
inductive CloseReason where
  | stoodDown
  | centre
  | acknowledged
  | withdrawn
  | clearedUnattended
  deriving DecidableEq, Repr

/-- The status of a procedure (section 6.2). -/
inductive ProcStatus where
  | running
  | finished
  | handedOver
  deriving DecidableEq, Repr

/-- What a RUNNING procedure stands waiting for (section 6.2). -/
inductive Wait where
  | none
  | event (e : NamedEvent)
  | delivery
  | release
  deriving DecidableEq, Repr

/-- The procedure part of a case record (section 6.2). -/
structure Procedure where
  ownPage : Fin 16
  step : Fin 16
  onCommon : Bool
  status : ProcStatus
  wait : Wait
  retry : Nat
  timer : Timer
  deriving DecidableEq, Repr

/-- The block that set a pending command (section 6.2). -/
inductive CommandOwner where
  | procedure
  | release
  deriving DecidableEq, Repr

/-- The pending command of a case, addressed to the car slot of its lift (R116, R134). -/
structure PendingCommand where
  command : CarCommand
  owner : CommandOwner
  deriving DecidableEq, Repr

/-- The waiting sub-states of a release (section 7.1). -/
inductive SubState where
  | awaitHold
  | awaitChain
  | pulsePending
  | settling
  deriving DecidableEq, Repr

/-- The release record (section 7.1). -/
structure Release where
  sub : SubState
  panel : PanelIdx
  direction : Direction
  target : Nat
  distance : Nat
  needed : Nat
  lastPress : Nat
  sequence : Nat
  repeats : Nat
  settle : Timer
  deriving DecidableEq, Repr

/-- The arrival window of a case: two timers, each with its run-out mark (R102). -/
structure Window where
  minTimer : Timer
  maxTimer : Timer
  minRunOut : Bool
  maxRunOut : Bool
  deriving DecidableEq, Repr

/-- A case record (section 4.1, R127). A source of NONE is `none`. `closeTag`, `closedIdentity` and `closedAt` are the crew tag, the
lift identity and the stamp of the close, with which its CLOSED notice is made (R82, R154, log 12). -/
structure Case where
  record : RecordState
  serial : BitVec 16
  lift : LiftIdx
  causes : CauseSet
  urgency : Nat
  occupancyCounted : Bool
  dispatch : DispatchState
  crew : Option CrewNo
  declined : List CrewNo
  openedAt : BitVec 32
  acceptedAt : Option (BitVec 32)
  interval : Nat
  escalation : Timer
  escalations : Nat
  clear : Option NamedEvent
  stop : Option NamedEvent
  limit : Nat
  late : Bool
  seen : EventSet
  presses : Nat
  procedure : Procedure
  release : Option Release
  pending : Option PendingCommand
  owed : Bool
  closeReason : Option CloseReason
  pulses : Nat
  window : Window
  closeTag : Option Nat
  closedIdentity : Option Nat
  closedAt : Option (BitVec 32)
  deriving DecidableEq, Repr

/-- An entry of the class table (section 4.2). -/
structure ClassEntry where
  base : Nat
  interval : Nat
  clear : Option NamedEvent
  stop : Option NamedEvent
  limit : Nat
  skip : Nat
  closeOnAccept : Bool
  deriving DecidableEq, Repr

/-! ### Crews (chapter 5) -/

/-- An outstanding offer: the case record offered and the offer timer (section 5.1). -/
structure Offer where
  case : CaseNo
  timer : Timer
  deriving DecidableEq, Repr

/-- The configuration part of a crew record; bit n of `coverage` is line n. -/
structure CrewConfig where
  enabled : Bool
  tag : Nat
  coverage : Vector Bool 4
  post : LineId
  deriving DecidableEq, Repr

/-- The dynamic part of a crew record. -/
structure CrewDynamic where
  onDuty : Bool
  sweep : Bool
  held : List CaseNo
  offer : Option Offer
  offerLost : Option (BitVec 16)
  logged : Option PanelIdx
  implausible : Nat
  deriving DecidableEq, Repr

/-- A crew record (section 5.1). -/
structure Crew where
  config : CrewConfig
  dyn : CrewDynamic
  deriving DecidableEq, Repr

/-- A travel entry (section 5.4). -/
structure Travel where
  min : Nat
  max : Nat
  deriving DecidableEq, Repr

/-- A step record of the procedure store (section 6.1): the action and argument bytes as written (R109). -/
structure StepRecord where
  action : Nat
  argument : Nat
  limit : Nat
  common : Bool
  target : Fin 16
  deriving DecidableEq, Repr

/-! ### Trunk frames (chapter 9) -/

/-- The reasons of a HANDOVER notice (R115), in the order of section 11.2. -/
inductive HandoverReason where
  | escalation
  | ended
  | loop
  | badStep
  deriving DecidableEq, Repr

/-- The reasons of a RELEASE_ABORTED notice, in the order of section 11.2. -/
inductive AbortReason where
  | chain
  | mode
  | overshoot
  | balanced
  | tooFar
  | tooMany
  | noEcho
  | crewLeft
  | lineReset
  | timeout
  | notOnSite
  | noReport
  | noCrew
  | notNeeded
  | noTarget
  deriving DecidableEq, Repr

/-- The source a CLEARED notice names (R75). -/
inductive ClearedSource where
  | evacuated
  | procedure
  deriving DecidableEq, Repr

/-- The notice kinds, in the order of section 11.2. -/
inductive NoticeKind where
  | opened
  | causeAdded
  | call
  | offered
  | accepted
  | declined
  | offerExpired
  | arrived
  | implausible
  | late
  | escalated
  | handover
  | note
  | releasePulse
  | releaseDone
  | releaseAborted
  | cleared
  | closed
  | snapshot
  | tableFull
  | restarted
  deriving DecidableEq, Repr

/-- The argument of a notice (section 9.7). -/
inductive NoticeArg where
  | none
  | causes (set : CauseSet)
  | tags (list : List Nat)
  | tag (t : Nat)
  | count (n : Nat)
  | handover (r : HandoverReason)
  | code (n : Nat)
  | pulse (k : Nat) (p : Option Nat)
  | aborted (r : AbortReason) (k : Nat)
  | source (s : ClearedSource)
  | closed (r : CloseReason)
  | snapshot (set : CauseSet) (escalations : Nat) (seen : EventSet)
  | serials (list : List (BitVec 16))
  deriving DecidableEq, Repr

/-- A NOTICE or CALL body (R82, section 9.7): serial and record number, lift identity, stamp, urgency and dispatch state,
crew tag, argument. -/
structure Notice where
  kind : NoticeKind
  case : Option (BitVec 16 × CaseNo)
  identity : Option Nat
  stamp : BitVec 32
  rank : Option (Nat × DispatchState)
  crewTag : Option Nat
  arg : NoticeArg
  deriving DecidableEq, Repr

/-- A SUMMARY body (R53, section 9.7). -/
structure Summary where
  identity : Nat
  stamp : BitVec 32
  state : LiftState
  report : Option CarRecord
  deriving DecidableEq, Repr

/-- A crew record as READ carries it (R162): the held list in the order of R101, each case with its serial. -/
structure CrewView where
  config : CrewConfig
  onDuty : Bool
  sweep : Bool
  held : List (CaseNo × BitVec 16)
  offer : Option (CaseNo × BitVec 16 × Timer)
  offerLost : Option (BitVec 16)
  logged : Option PanelIdx
  implausible : Nat
  deriving DecidableEq, Repr

/-- The per-line values of READ_COUNTERS (R169). -/
structure LineCounters where
  state : LineState
  mode : CycleMode
  cycleNumber : BitVec 8
  errors : Nat
  cycles : BitVec 32
  routine : Nat
  answers : Nat
  deriving DecidableEq, Repr

/-- The trunk counters (R157). -/
structure TrunkCounters where
  nearCheck : Nat
  nearKind : Nat
  farCheck : Nat
  forwardDrops : Nat
  relayDrops : Nat
  summaryDrops : Nat
  answersLost : Nat
  noticesLost : Nat
  deriving DecidableEq, Repr

/-- The values of READ_COUNTERS (R169). -/
structure CountersView where
  lines : Vector LineCounters 4
  nearUp : Bool
  farUp : Bool
  trunk : TrunkCounters
  forward : Nat
  relay : Nat
  own : Nat
  sequence : BitVec 8
  stamp : BitVec 32
  serial : BitVec 16
  openCases : Nat
  closingCases : Nat
  someLatch : Bool
  implausible : Vector Nat 8
  deriving DecidableEq, Repr

/-- The data of an ANSWER (section 11.4). -/
inductive AnswerData where
  | none
  | lift (r : Lift)
  | liftEcho (c : LiftConfig)
  | panel (p : Panel)
  | crew (v : CrewView)
  | crewEcho (c : CrewConfig)
  | classEntry (e : ClassEntry)
  | travel (t : Travel)
  | step (r : StepRecord)
  | settings (v : Settings)
  | named (serial : BitVec 16) (record : CaseNo)
  | ended (n : Nat)
  | surveyed (serial : BitVec 16) (identity urgency line : Nat)
  | case (c : Case) (identity : Nat)
  | counters (v : CountersView)
  deriving DecidableEq, Repr

/-- The further fields of an OFFER answer sent upstream (R89). -/
structure OfferInfo where
  identity : Nat
  urgency : Nat
  line : LineId
  deriving DecidableEq, Repr

/-- The body of a frame of the gateway's own (section 9.4). -/
inductive OwnBody where
  | answer (request : Byte) (code : AnswerCode) (data : AnswerData)
  | crewAnswer (code : AnswerCode) (tag : Byte) (serial : Option (BitVec 16)) (offer : Option OfferInfo)
  | notice (n : Notice)
  | call (n : Notice)
  | summary (m : Summary)
  deriving DecidableEq, Repr

/-- A frame of the gateway's own (R151). -/
structure OwnFrame where
  destination : BitVec 16
  source : BitVec 16
  tag : BitVec 8
  body : OwnBody
  deriving DecidableEq, Repr

/-- A frame in transmission out of NEAR (R155). -/
inductive NearFrame where
  | own (f : OwnFrame)
  | relayed (bytes : List Byte)
  deriving DecidableEq, Repr

/-- The turn mark of the NEAR transmitter (R155). -/
inductive Turn where
  | relay
  | own
  deriving DecidableEq, Repr

/-- The state of the trunk port (chapter 9). A transmitter is idle when its frame is none. -/
structure Trunk where
  nearUp : Bool
  farUp : Bool
  own : List OwnFrame
  relay : List (List Byte)
  forward : List (List Byte)
  counters : TrunkCounters
  sequence : BitVec 8
  turn : Turn
  nearTx : Option NearFrame
  farTx : Option (List Byte)
  deriving DecidableEq, Repr

/-- The state of the time base (section 8.1) but for the written divisors, which are sector settings. `tickDue` is the
MODEL's own mark that a carry has ended the tick and the TICK_END that reports that end is still to come (log 2). -/
structure TimeBase where
  runningD1 : Nat
  runningD2 : Nat
  firstStage : Nat
  secondStage : Nat
  tickDue : Bool
  stamp : BitVec 32
  deriving DecidableEq, Repr

/-- The whole state of the gateway, with the queue of waiting commands. `freeDraws` counts the free values drawn
(log 10). -/
structure State where
  straps : BitVec 12
  lamp : Bool
  time : TimeBase
  settings : Settings
  lines : Vector Line 4
  lifts : Vector Lift 64
  panels : Vector Panel 16
  cases : Vector Case 16
  classes : Vector ClassEntry 5
  serial : BitVec 16
  crews : Vector Crew 8
  travel : Vector Travel 16
  rotation : List LiftIdx
  store : Vector StepRecord 256
  trunk : Trunk
  freeDraws : Nat
  pending : List Instr
  deriving DecidableEq, Repr

/-- Why a handling stops. The spec gives the block no fault of its own. -/
inductive Fault where
  /-- Raised by `runJobs` when one handling would take more internal jobs than `Config.cascadeBudget`. SAFE: the model stops
  where the part would go on; a bound on the cascades shows that no handling reaches it (log 4). -/
  | cascadeTooLong
  deriving DecidableEq, Repr

/-- Why a command is rejected. -/
inductive Refusal where
  /-- Raised by an arm of `exec` that has no meaning yet; no arm is left that raises it. SAFE. -/
  | notModelled (mnemonic : String)
  deriving DecidableEq, Repr

/-! ### The values after a power-on reset -/

/-- Section 2.2: the dynamic part on an entry into `st` from outside the car monitor (the first three rows of R28). -/
def LiftDynamic.entered (st : LiftState) : LiftDynamic where
  state := st
  lastReport := none
  nearest := 0
  stopCount := 0
  silenceCount := 0
  truth := .empty
  latch := .empty
  pressBaseline := none
  openCase := none
  keptTruth := .empty

/-- The default configuration of lift record `i` (section 2.1, R23). -/
def LiftConfig.reset (i : LiftIdx) : LiftConfig where
  enabled := false
  identity := 65534 - i.val
  landings := [0, 3000]
  doorZone := 75
  creep := 2
  debounce := 4
  silence := 3
  balance := 45
  step := 400
  reach := 12000
  cap := 40
  stall := ⟨true, .level⟩
  alarm := ⟨true, .edge⟩
  shared := ⟨true, .level⟩
  silent := ⟨true, .level⟩
  manual := ⟨true, .edge⟩
  page := Config.commonPage
  forwarding := .changes

/-- The cleared dynamic fields of a panel record (R31). -/
def PanelDynamic.cleared : PanelDynamic := ⟨none, none, false, 0, 0#4⟩

/-- A panel record after a power-on reset (R30). -/
def Panel.reset : Panel := ⟨⟨false, Vector.replicate 4 0#16⟩, .cleared⟩

/-- The procedure part of a FREE record (section 6.2). -/
def Procedure.free : Procedure := ⟨0, 0, false, .finished, .none, 0, .stopped⟩

/-- The arrival window of a FREE record (R102). -/
def Window.free : Window := ⟨.stopped, .stopped, false, false⟩

/-- A FREE case record (the last column of section 4.1, R57, R110, R127). -/
def Case.free : Case where
  record := .free
  serial := 0#16
  lift := 0
  causes := .empty
  urgency := 7
  occupancyCounted := false
  dispatch := .waiting
  crew := none
  declined := []
  openedAt := 0#32
  acceptedAt := none
  interval := 10
  escalation := .stopped
  escalations := 0
  clear := none
  stop := none
  limit := 15
  late := false
  seen := .empty
  presses := 0
  procedure := .free
  release := none
  pending := none
  owed := false
  closeReason := none
  pulses := 0
  window := .free
  closeTag := none
  closedIdentity := none
  closedAt := none

/-- The default class table (section 4.2, R59): STALL, ALARM, SHARED, SILENT, MANUAL. -/
def classDefaults : Vector ClassEntry 5 :=
  #v[⟨3, 1800, some .voiceContact, some .crewArrived, 3, 4, false⟩,
     ⟨2, 1200, some .voiceContact, some .crewArrived, 3, 4, false⟩,
     ⟨3, 1200, some .voiceContact, some .crewArrived, 3, 4, false⟩,
     ⟨5, 3000, none, some .crewArrived, 2, 4, false⟩,
     ⟨4, 1800, none, some .crewArrived, 3, 4, false⟩]

/-- Crew record `k` after a power-on reset (R84). -/
def Crew.reset (k : CrewNo) : Crew :=
  ⟨⟨false, k.val + 1, Vector.replicate 4 true, 0⟩, ⟨false, false, [], none, none, none, 0⟩⟩

/-- The power-on step: END with HANDOVER (R108, section 11.3). -/
def StepRecord.reset : StepRecord := ⟨12, 2, 0, false, 0⟩

/-- The default sector settings (R164). -/
def Settings.reset : Settings :=
  ⟨2048, 100, 300, .oldest, 50, Vector.replicate 4 ⟨.continuous, 5, 50, 6⟩⟩

/-- A line after a power-on reset (R2). The window length is a DESIGN CHOICE (log 9). -/
def Line.reset : Line where
  state := .off
  cycleNumber := 0#8
  mode := .continuous
  slotSet := []
  currentSlot := none
  windowMs := 6
  collided := false
  intervalTimer := .stopped
  ceilingTimer := .stopped
  routine := []
  answers := Vector.replicate 4 none
  errors := 0
  cycles := 0#32
  lastStart := none
  lastStop := none

/-- All eight trunk counters at 0 (R158). -/
def TrunkCounters.zero : TrunkCounters := ⟨0, 0, 0, 0, 0, 0, 0, 0⟩

/-- The trunk port after a power-on reset (R158), with the given link states. -/
def Trunk.reset (nearUp farUp : Bool) : Trunk :=
  ⟨nearUp, farUp, [], [], [], .zero, 0#8, .relay, none, none⟩

/-- The time base after a power-on reset (R142). -/
def TimeBase.reset : TimeBase := ⟨2048, 100, 0, 0, false, 0#32⟩

/-- Every block at its power-on values, with the pins as given and the given waiting commands. -/
def State.powerOn (straps : BitVec 12) (nearUp farUp : Bool) (draws : Nat) (pending : List Instr) : State where
  straps := straps
  lamp := false
  time := .reset
  settings := .reset
  lines := Vector.replicate 4 .reset
  lifts := tab fun i => ⟨.reset i, .entered .disabled⟩
  panels := Vector.replicate 16 .reset
  cases := Vector.replicate 16 .free
  classes := classDefaults
  serial := 0#16
  crews := tab Crew.reset
  travel := Vector.replicate 16 ⟨0, 9000⟩
  rotation := List.finRange 64
  store := Vector.replicate 256 .reset
  trunk := .reset nearUp farUp
  freeDraws := draws
  pending := pending

/-- The machine right after a power-on reset: straps 0 and both links DOWN are DESIGN CHOICES (log 7, log 8), since both
follow pins the spec gives no value for. -/
def State.reset : State := .powerOn 0#12 false false 0 []

end Sys2Proof.Machine
end

