-- ==== Sys2Proof/Machine/Ops.lean ====
section
/-! DEFINITION. The named operations over the state: places and indices, reading and writing one record, timers, sets,
and the sequence of frames offered to the own upstream queue. -/

namespace Sys2Proof.Machine

/-! ### Indices (introduction, section 5) -/

/-- The line of a lift: lift index divided by 16. -/
def lineOf (i : LiftIdx) : LineId := ⟨i.val / 16, by omega⟩
/-- The car slot of a lift: lift index modulo 16. -/
def carSlotOf (i : LiftIdx) : Fin 16 := ⟨i.val % 16, by omega⟩
/-- The lift at a car slot of a line. -/
def liftAt (l : LineId) (slot : Fin 16) : LiftIdx := ⟨l.val * 16 + slot.val, by omega⟩
/-- The line of a panel: panel index divided by 4. -/
def panelLine (p : PanelIdx) : LineId := ⟨p.val / 4, by omega⟩
/-- The place of a panel among the four of its line: panel slot − 16. -/
def panelPlace (p : PanelIdx) : Fin 4 := ⟨p.val % 4, by omega⟩
/-- The panel at a place of a line. -/
def panelAt (l : LineId) (place : Fin 4) : PanelIdx := ⟨l.val * 4 + place.val, by omega⟩
/-- A car slot as a slot of the line. -/
def carSlot (k : Fin 16) : Slot := ⟨k.val, by omega⟩
/-- A panel place as a slot of the line. -/
def panelSlot (place : Fin 4) : Slot := ⟨16 + place.val, by omega⟩

/-- A natural number as an index, where it lies in the range. -/
def toIdx (n k : Nat) : Option (Fin n) := if h : k < n then some ⟨k, h⟩ else none

/-! ### Reading and writing one record -/

namespace State

/-- The record of line `l`. -/
def line (s : State) (l : LineId) : Line := s.lines[l.val]
/-- The record of lift `i`. -/
def lift (s : State) (i : LiftIdx) : Lift := s.lifts[i.val]
/-- The record of panel `p`. -/
def panel (s : State) (p : PanelIdx) : Panel := s.panels[p.val]
/-- Case record `c`. -/
def caseAt (s : State) (c : CaseNo) : Case := s.cases[c.val]
/-- Crew record `k`. -/
def crew (s : State) (k : CrewNo) : Crew := s.crews[k.val]

/-- Stores the record of line `l`. -/
def setLine (s : State) (l : LineId) (r : Line) : State := { s with lines := s.lines.set l.val r }
/-- Stores the record of lift `i`. -/
def setLift (s : State) (i : LiftIdx) (r : Lift) : State := { s with lifts := s.lifts.set i.val r }
/-- Stores the record of panel `p`. -/
def setPanel (s : State) (p : PanelIdx) (r : Panel) : State := { s with panels := s.panels.set p.val r }
/-- Stores case record `c`. -/
def setCase (s : State) (c : CaseNo) (r : Case) : State := { s with cases := s.cases.set c.val r }
/-- Stores crew record `k`. -/
def setCrew (s : State) (k : CrewNo) (r : Crew) : State := { s with crews := s.crews.set k.val r }

/-- Changes the dynamic part of lift `i`. -/
def setDyn (s : State) (i : LiftIdx) (d : LiftDynamic) : State := s.setLift i { s.lift i with dyn := d }
/-- Changes the dynamic fields of panel `p`. -/
def setPanelDyn (s : State) (p : PanelIdx) (d : PanelDynamic) : State := s.setPanel p { s.panel p with dyn := d }
/-- Changes the dynamic part of crew `k`. -/
def setCrewDyn (s : State) (k : CrewNo) (d : CrewDynamic) : State := s.setCrew k { s.crew k with dyn := d }

/-- The per-line settings of line `l`. -/
def lineSettings (s : State) (l : LineId) : LineSettings := s.settings.lines[l.val]
/-- The tick stamp at this moment (R144). -/
def stamp (s : State) : BitVec 32 := s.time.stamp

end State

/-! ### Sets of causes and of events -/

/-- Whether the set holds the cause. -/
def CauseSet.has (a : CauseSet) : Cause → Bool
  | .stall => a.stall
  | .alarm => a.alarm
  | .shared => a.shared
  | .silent => a.silent
  | .manual => a.manual

/-- The set of the causes that meet `p`. -/
def CauseSet.filter (p : Cause → Bool) : CauseSet := ⟨p .stall, p .alarm, p .shared, p .silent, p .manual⟩

/-- The causes of either set. -/
def CauseSet.union (a b : CauseSet) : CauseSet := .filter fun c => a.has c || b.has c
/-- The causes of `a` that are not in `b`. -/
def CauseSet.diff (a b : CauseSet) : CauseSet := .filter fun c => a.has c && !b.has c
/-- Whether the set holds no cause. -/
def CauseSet.isEmpty (a : CauseSet) : Bool := a == .empty

/-- The fixed order STALL, ALARM, SHARED, SILENT, MANUAL (R62). -/
def causeOrder : List Cause := [.stall, .alarm, .shared, .silent, .manual]

/-- The causes of the set in the fixed order. -/
def CauseSet.toList (a : CauseSet) : List Cause := causeOrder.filter a.has

/-- The index of a cause in the class table (section 10.2). -/
def Cause.index : Cause → Fin 5
  | .stall => 0
  | .alarm => 1
  | .shared => 2
  | .silent => 3
  | .manual => 4

/-- Whether the set holds the event. -/
def EventSet.has (a : EventSet) : NamedEvent → Bool
  | .voiceContact => a.voiceContact
  | .crewArrived => a.crewArrived
  | .carMoved => a.carMoved
  | .doorsOpen => a.doorsOpen
  | .inZone => a.inZone
  | .evacuated => a.evacuated

/-- The set with the event added; an event already there is not repeated (R73). -/
def EventSet.insert (a : EventSet) : NamedEvent → EventSet
  | .voiceContact => { a with voiceContact := true }
  | .crewArrived => { a with crewArrived := true }
  | .carMoved => { a with carMoved := true }
  | .doorsOpen => { a with doorsOpen := true }
  | .inZone => { a with inZone := true }
  | .evacuated => { a with evacuated := true }

/-- The class table's entry for a cause (section 4.2). -/
def State.classOf (s : State) (c : Cause) : ClassEntry := s.classes[c.index.val]

/-- The settings of a cause in a lift's configuration (R26). -/
def LiftConfig.cause (g : LiftConfig) : Cause → CauseSetting
  | .stall => g.stall
  | .alarm => g.alarm
  | .shared => g.shared
  | .silent => g.silent
  | .manual => g.manual

/-! ### Timers (R145) -/

/-- One tick's end at a timer: a running timer lowers its count, and one that reaches 0 runs out. -/
def Timer.tick : Timer → Timer
  | .stopped => .stopped
  | .due => .due
  | .running n => if n ≤ 1 then .due else .running (n - 1)

/-- Whether a timer has an expiry that no stop or start has taken away: it is running or due. -/
def Timer.live : Timer → Bool
  | .stopped => false
  | .running _ => true
  | .due => true

/-- Whether a timer still runs. -/
def Timer.isRunning : Timer → Bool
  | .running _ => true
  | .stopped => false
  | .due => false

/-- A step timer is started with the limit where the limit is above 0 (R116, R120, R124). -/
def Timer.ofLimit (limit : Nat) : Timer := if limit = 0 then .stopped else .running limit

/-! ### The case table -/

/-- "Improve by one": subtract one, stopping at 0 (introduction, section 6). -/
def improve (u : Nat) : Nat := u - 1

/-- Whether record `c` is OPEN. -/
def State.isOpen (s : State) (c : CaseNo) : Bool := (s.caseAt c).record == .opened

/-- Whether record `c` is OPEN and still holds the case of that serial. -/
def State.holds (s : State) (c : CaseNo) (serial : BitVec 16) : Bool := s.isOpen c && (s.caseAt c).serial == serial

/-- The OPEN records in ascending order. -/
def State.openRecords (s : State) : List CaseNo := (List.finRange 16).filter s.isOpen

/-- Whether any case record is OPEN. -/
def State.anyOpen (s : State) : Bool := (List.finRange 16).any s.isOpen

/-- The lowest-numbered FREE record (R61). -/
def State.lowestFree (s : State) : Option CaseNo :=
  (List.finRange 16).find? fun c => (s.caseAt c).record == .free

/-- The OPEN records whose lift is on line `l`. -/
def State.openOn (s : State) (l : LineId) : List CaseNo :=
  s.openRecords.filter fun c => lineOf (s.caseAt c).lift == l

/-- Whether at least one lift's latch is present: the condition "some latch set" (R65). -/
def State.someLatch (s : State) : Bool := (List.finRange 64).any fun i => !(s.lift i).dyn.latch.isEmpty

/-! ### The own upstream queue (R151 to R153) -/

/-- A summary, as against a notice-class frame (section 9.4). -/
def OwnFrame.isSummary (f : OwnFrame) : Bool :=
  match f.body with
  | .summary _ => true
  | _ => false

/-- The queue without its oldest summary, the one nearest the head, where it holds one. -/
def dropOldestSummary : List OwnFrame → Option (List OwnFrame)
  | [] => none
  | f :: rest => if f.isSummary then some rest else (dropOldestSummary rest).map (f :: ·)

/-- What became of a frame offered to the own queue. -/
inductive Offering where
  /-- It joined the tail. -/
  | entered
  /-- It did not. -/
  | kept
  deriving DecidableEq, Repr

/-- A frame joins the tail where the queue has room, or displaces the oldest summary (R151, R152). `none` where the queue
is full and holds no summary. -/
def Trunk.join (t : Trunk) (f : OwnFrame) : Option Trunk :=
  if t.own.length < Config.ownCapacity then some { t with own := t.own ++ [f] }
  else match dropOldestSummary t.own with
    | some rest => some { t with
        own := rest ++ [f]
        counters := { t.counters with summaryDrops := satInc 65535 t.counters.summaryDrops } }
    | none => none

/-- The sector address as the source of an own frame (R151). -/
def State.sector (s : State) : BitVec 16 := s.straps.setWidth 16

/-- The upstream sequence is consumed by each NOTICE, CALL or SUMMARY offered (R151). -/
def State.bumpSequence (s : State) : State := { s with trunk := { s.trunk with sequence := s.trunk.sequence + 1 } }

/-- A frame of the gateway's own to the broadcast address, tagged with the upstream sequence (R151). -/
def State.broadcastFrame (s : State) (b : OwnBody) : OwnFrame := ⟨Config.broadcast, s.sector, s.trunk.sequence, b⟩

/-- An ANSWER or CREW_ANSWER is offered: it carries the request's source as destination and its tag, and is lost, counted,
where the queue is full of notice-class frames (R151, R152). -/
def State.offerAnswer (s : State) (o : Origin) (b : OwnBody) : State :=
  match s.trunk.join ⟨o.source, s.sector, o.tag, b⟩ with
  | some t => { s with trunk := t }
  | none => { s with trunk := { s.trunk with
      counters := { s.trunk.counters with answersLost := satInc 65535 s.trunk.counters.answersLost } } }

/-- A CALL, TABLE_FULL or RESTARTED frame is offered: where it finds no room it is dropped and counted (R152). -/
def State.offerLoose (s : State) (b : OwnBody) : State :=
  match s.trunk.join (s.broadcastFrame b) with
  | some t => { s with trunk := t }.bumpSequence
  | none => { s with trunk := { s.trunk with
      counters := { s.trunk.counters with noticesLost := satInc 65535 s.trunk.counters.noticesLost } } }.bumpSequence

/-- A summary is offered: it is dropped and counted where the queue is full (R152). -/
def State.offerSummary (s : State) (m : Summary) : State :=
  if s.trunk.own.length < Config.ownCapacity then
    { s with trunk := { s.trunk with own := s.trunk.own ++ [s.broadcastFrame (.summary m)] } }.bumpSequence
  else { s with trunk := { s.trunk with
      counters := { s.trunk.counters with summaryDrops := satInc 65535 s.trunk.counters.summaryDrops } } }.bumpSequence

/-- A NOTICE concerning case record `c` is offered: folded while the record's owed flag is set (R153), queued where it can
join (R151, R152), and otherwise owed. -/
def State.offerCase (s : State) (c : CaseNo) (n : Notice) : State × Offering :=
  if (s.caseAt c).owed then (s.bumpSequence, .kept)
  else match s.trunk.join (s.broadcastFrame (.notice n)) with
    | some t => ({ s with trunk := t }.bumpSequence, .entered)
    | none => ((s.setCase c { s.caseAt c with owed := true }).bumpSequence, .kept)

/-! ### Notices (R82) -/

/-- The tag of a crew as it stands (R85). -/
def State.tagOf (s : State) (k : Option CrewNo) : Option Nat := k.map fun k => (s.crew k).config.tag

/-- The identity of a lift as it stands (R25). -/
def State.identityOf (s : State) (i : LiftIdx) : Nat := (s.lift i).config.identity

/-- A notice with the common fields of case record `c` as they stand (R82). -/
def State.noticeOf (s : State) (c : CaseNo) (kind : NoticeKind) (arg : NoticeArg) : Notice :=
  let r := s.caseAt c
  { kind := kind
    case := some (r.serial, c)
    identity := some (s.identityOf r.lift)
    stamp := s.stamp
    rank := some (r.urgency, r.dispatch)
    crewTag := s.tagOf r.crew
    arg := arg }

/-- A NOTICE of the kind and argument is made for case record `c` and offered (R82). -/
def State.notify (s : State) (c : CaseNo) (kind : NoticeKind) (arg : NoticeArg) : State :=
  (s.offerCase c (s.noticeOf c kind arg)).1

/-- The TABLE_FULL notice for a lift (R65, R82). -/
def State.notifyFull (s : State) (i : LiftIdx) : State :=
  s.offerLoose (.notice ⟨.tableFull, none, some (s.identityOf i), s.stamp, none, none, .none⟩)

/-- Every free value is drawn once (log 10). -/
def State.drawFree (s : State) : Byte × State := (Config.freeByte s.freeDraws, { s with freeDraws := s.freeDraws + 1 })

/-- An ANSWER of the request kind, code and data is offered (R160). -/
def State.answer (s : State) (o : Origin) (request : Byte) (code : AnswerCode) (data : AnswerData) : State :=
  s.offerAnswer o (.answer request code data)

end Sys2Proof.Machine
end

