-- ==== Sys2Proof/Machine/Operands.lean ====
section
/-! DEFINITION. The operand forms of the commands: identities, tags and serials resolved to records (R25, R58, R85), and
the records that a WRITE carries, judged for decoding, structure and clamping (R33, R34, R37, R60, R86, R91, R109, R164). -/

namespace Sys2Proof

open Machine

/-! ### Names resolved to records -/

/-- The one enabled lift record that holds the identity (R25). -/
def Machine.State.resolveIdentity (s : State) (identity : Nat) : Option LiftIdx :=
  (List.finRange 64).find? fun i => (s.lift i).config.enabled && (s.lift i).config.identity == identity

/-- The OPEN record of the serial, the lowest where two hold it (R58). -/
def Machine.State.resolveSerial (s : State) (serial : BitVec 16) : Option CaseNo :=
  s.openRecords.find? fun c => (s.caseAt c).serial == serial

/-- The one enabled crew record that holds the tag (R85). -/
def Machine.State.resolveTag (s : State) (tag : Nat) : Option CrewNo :=
  (List.finRange 8).find? fun k => (s.crew k).config.enabled && (s.crew k).config.tag == tag

/-- The lowest enabled panel whose logged crew is the tag (R87). -/
def Machine.State.findLogged (s : State) (tag : Nat) : Option PanelIdx :=
  (List.finRange 16).find? fun p => (s.panel p).config.enabled && (s.panel p).dyn.logged == some tag

/-! ### Enumerated bytes (sections 11.3 and 11.4) -/

/-- A yes-or-no byte: 0 no, 1 yes (section 11.4). -/
def Machine.decodeYesNo : Nat → Option Bool
  | 0 => some false
  | 1 => some true
  | _ => none

/-- A forwarding mode byte. -/
def Machine.decodeForwarding : Nat → Option Forwarding
  | 0 => some .all
  | 1 => some .changes
  | 2 => some .none
  | _ => none

/-- A default mode byte. -/
def Machine.decodeCycleMode : Nat → Option CycleMode
  | 0 => some .continuous
  | 1 => some .quiet
  | _ => none

/-- A tie mode byte. -/
def Machine.decodeTieMode : Nat → Option TieMode
  | 0 => some .oldest
  | 1 => some .rotate
  | _ => none

/-- A source byte of a class entry: `some none` is NONE. -/
def Machine.decodeSource : Nat → Option (Option NamedEvent)
  | 0 => some none
  | 1 => some (some .voiceContact)
  | 2 => some (some .crewArrived)
  | 3 => some (some .carMoved)
  | 4 => some (some .doorsOpen)
  | 5 => some (some .evacuated)
  | _ => none

/-- A cause's byte: bit 0 enabled, bit 1 trigger, `none` with any of bits 7 to 2 set (R173). -/
def Machine.decodeCauseByte : Nat → Option CauseSetting
  | 0 => some ⟨false, .edge⟩
  | 1 => some ⟨true, .edge⟩
  | 2 => some ⟨false, .level⟩
  | 3 => some ⟨true, .level⟩
  | _ => none

/-- The argument byte of WAIT (section 11.3). -/
def Machine.decodeEvent : Nat → Option NamedEvent
  | 1 => some .voiceContact
  | 2 => some .crewArrived
  | 3 => some .carMoved
  | 4 => some .doorsOpen
  | 5 => some .inZone
  | 6 => some .evacuated
  | _ => none

/-! ### The lift record (R32 to R34) -/

/-- Whether a lift record's cause bytes decode (R173). -/
def LiftWrite.decodes (w : LiftWrite) : Bool :=
  (decodeCauseByte w.stall).isSome && (decodeCauseByte w.alarm).isSome && (decodeCauseByte w.shared).isSome &&
  (decodeCauseByte w.silent).isSome && (decodeCauseByte w.manual).isSome

/-- A list of heights is strictly ascending (R33). -/
def Machine.ascending : List Nat → Bool
  | [] => true
  | [_] => true
  | a :: b :: rest => a < b && Machine.ascending (b :: rest)

/-- The landing list of a write is without fault (R33). -/
def Machine.landingsOk (hs : List Nat) : Bool :=
  2 ≤ hs.length && hs.length ≤ 24 && ascending hs && hs.all (· ≤ 1048575)

/-- Another enabled lift record holds the identity (R25, R33). -/
def Machine.State.identityTaken (s : State) (i : LiftIdx) (identity : Nat) : Bool :=
  (List.finRange 64).any fun j => j != i && (s.lift j).config.enabled && (s.lift j).config.identity == identity

/-- The configuration a lift write stores, its numeric fields clamped (R34); `none` for a structural fault of R33 that the
record alone shows. -/
def LiftWrite.config (w : LiftWrite) : Option LiftConfig :=
  match decodeYesNo w.enabled, decodeForwarding w.forwarding, decodeCauseByte w.stall, decodeCauseByte w.alarm,
      decodeCauseByte w.shared, decodeCauseByte w.silent, decodeCauseByte w.manual with
  | some enabled, some forwarding, some stall, some alarm, some shared, some silent, some manual =>
    if landingsOk w.landings && w.identity < 65535 && shared.trigger == .level && manual.trigger == .edge then
      some {
        enabled := enabled
        identity := w.identity
        landings := w.landings
        doorZone := clampTo 25 300 w.doorZone
        creep := clampTo 1 20 w.creep
        debounce := clampTo 1 15 w.debounce
        silence := clampTo 1 15 w.silence
        balance := clampTo 30 60 w.balance
        step := clampTo 50 2000 w.step
        reach := clampTo 500 60000 w.reach
        cap := clampTo 1 63 w.cap
        stall := stall
        alarm := alarm
        shared := shared
        silent := silent
        manual := manual
        page := ⟨min 15 w.page, by omega⟩
        forwarding := forwarding }
    else none
  | _, _, _, _, _, _, _ => none

/-- Whether any numeric field was clamped (R34). -/
def LiftWrite.clamps (w : LiftWrite) (g : LiftConfig) : Bool :=
  g.doorZone != w.doorZone || g.creep != w.creep || g.debounce != w.debounce || g.silence != w.silence ||
  g.balance != w.balance || g.step != w.step || g.reach != w.reach || g.cap != w.cap || g.page.val != w.page

/-! ### The panel record (R37) -/

/-- The configuration a panel write stores; `none` for a map naming a slot outside 0 to 15 or an enabled byte outside its
list. -/
def PanelWrite.config (w : PanelWrite) : Option PanelConfig :=
  match decodeYesNo w.enabled with
  | some enabled =>
    if w.map0 < 65536 && w.map1 < 65536 && w.map2 < 65536 && w.map3 < 65536 then
      some ⟨enabled, #v[BitVec.ofNat 16 w.map0, BitVec.ofNat 16 w.map1, BitVec.ofNat 16 w.map2, BitVec.ofNat 16 w.map3]⟩
    else none
  | none => none

/-! ### The crew record (R86) -/

/-- A coverage byte with any of bits 7 to 4 set does not decode (R173). -/
def CrewWrite.decodes (w : CrewWrite) : Bool := w.coverage < 16

/-- Another enabled crew record holds the tag (R85, R86). -/
def Machine.State.tagTaken (s : State) (k : CrewNo) (tag : Nat) : Bool :=
  (List.finRange 8).any fun j => j != k && (s.crew j).config.enabled && (s.crew j).config.tag == tag

/-- The configuration a crew write stores, its post line clamped; `none` for a structural fault that the record alone
shows (R86). -/
def CrewWrite.config (w : CrewWrite) : Option CrewConfig :=
  match decodeYesNo w.enabled with
  | some enabled =>
    if 1 ≤ w.tag && w.tag ≤ 254 && w.coverage != 0 then
      some ⟨enabled, w.tag, tab fun l => (BitVec.ofNat 4 w.coverage).getLsbD l.val, ⟨min 3 w.post, by omega⟩⟩
    else none
  | none => none

/-! ### The class entry (R60) -/

/-- The entry a class write stores, its numeric fields clamped; `none` for a source or a close on accept outside its
list. -/
def ClassWrite.entry (w : ClassWrite) : Option ClassEntry :=
  match decodeSource w.clear, decodeSource w.stop, decodeYesNo w.closeOnAccept with
  | some clear, some stop, some coa =>
    some ⟨min 7 w.base, clampTo 10 65535 w.interval, clear, stop, clampTo 1 15 w.limit, clampTo 1 8 w.skip, coa⟩
  | _, _, _ => none

/-- Whether any numeric field was clamped (R60). -/
def ClassWrite.clamps (w : ClassWrite) (e : ClassEntry) : Bool :=
  e.base != w.base || e.interval != w.interval || e.limit != w.limit || e.skip != w.skip

/-! ### Travel entry, step record, sector settings (R91, R109, R164) -/

/-- The travel entry stored: each value clamped, and a max below the min raised to it (R91). -/
def Machine.travelStored (lo hi : Nat) : Travel :=
  let m := min 65535 lo
  ⟨m, max m (min 65535 hi)⟩

/-- The step record stored: action, argument and limit as written, the spare branch bits dropped (R109, R173). -/
def StepWrite.record (w : StepWrite) : StepRecord :=
  ⟨w.action, w.argument, w.limit, 128 ≤ w.branch, ⟨w.branch % 16, by omega⟩⟩

/-- One line's settings, clamped; `none` for a default mode outside its list (R164). -/
def LineWrite.settings (w : LineWrite) : Option LineSettings :=
  match decodeCycleMode w.defaultMode with
  | some m =>
    some ⟨m, clampTo 1 50 w.cycleInterval, clampTo 10 600 w.quietCeiling, clampTo 2 20 w.answerWindow⟩
  | none => none

/-- Whether any numeric setting of a line was clamped. -/
def LineWrite.clamps (w : LineWrite) (v : LineSettings) : Bool :=
  v.cycleInterval != w.cycleInterval || v.quietCeiling != w.quietCeiling || v.answerWindow != w.answerWindow

/-- The settings a write stores, every numeric one clamped; `none` for a mode outside its list (R164). -/
def SettingsWrite.settings (w : SettingsWrite) : Option Settings :=
  match decodeTieMode w.tieMode, w.lines[0].settings, w.lines[1].settings, w.lines[2].settings, w.lines[3].settings with
  | some tie, some a, some b, some c, some d =>
    some ⟨clampTo 2 65535 w.d1, clampTo 2 65535 w.d2, clampTo 10 6000 w.offerTimeout, tie, clampTo 1 600 w.settleLimit,
      #v[a, b, c, d]⟩
  | _, _, _, _, _ => none

/-- Whether any setting was clamped (R164). -/
def SettingsWrite.clamps (w : SettingsWrite) (v : Settings) : Bool :=
  v.d1 != w.d1 || v.d2 != w.d2 || v.offerTimeout != w.offerTimeout || v.settleLimit != w.settleLimit ||
  (List.finRange 4).any fun l => w.lines[l.val].clamps v.lines[l.val]

end Sys2Proof
end

