-- ==== Sys2Proof/Machine/Flags.lean ====
section
/-! DEFINITION. The computed conditions of the car monitor and the case manager: the arithmetic of one report
(section 3.2), the lift state (R44), the cause truth set (R46), and the tests on sets of causes. -/

namespace Sys2Proof.Machine

/-- The magnitude of a difference of two natural numbers. -/
def distance (a b : Nat) : Nat := (a - b) + (b - a)

/-! ### The arithmetic of one report -/

/-- The car is moving when the magnitude of (velocity code − 512) is at or above the creep threshold (R39). -/
def moving (creep velocityCode : Nat) : Bool := creep ≤ distance velocityCode 512

/-- The index of the nearest height, where `best` at distance `d` is the nearest of those before place `i`: only a strictly
smaller distance replaces it, so the lower landing wins a tie (R40). -/
def nearestFrom (p : Nat) : (i best d : Nat) → List Nat → Nat
  | _, best, _, [] => best
  | i, best, d, h :: rest =>
    if distance p h < d then nearestFrom p (i + 1) i (distance p h) rest else nearestFrom p (i + 1) best d rest

/-- The nearest landing of a position (R40). -/
def nearestLanding (landings : List Nat) (p : Nat) : Nat :=
  match landings with
  | [] => 0
  | h :: rest => nearestFrom p 1 0 (distance p h) rest

/-- The car is in the door zone when its distance from the nearest landing is at most the half-width (R41). -/
def inDoorZone (landings : List Nat) (dz p : Nat) : Bool :=
  match landings[nearestLanding landings p]? with
  | some h => distance p h ≤ dz
  | none => false

/-- The number of new presses, modulo 16; none while the baseline is absent (R42). -/
def newPresses (baseline : Option Nat) (count : Nat) : Nat :=
  match baseline with
  | some b => (count + 16 - b) % 16
  | none => 0

/-- The stop count after a taken report (R43). -/
def stopCountAfter (count : Nat) (moves zone : Bool) : Nat := if moves || zone then 0 else satInc 15 count

/-- The lift state of a taken report, the first line of the table that applies (R44). -/
def liftStateOf (mode : CarMode) (moves zone : Bool) (stopCount debounce : Nat) : LiftState :=
  if mode = .maint then .maintenance
  else if moves then .running
  else if zone then .parked
  else if stopCount < debounce then .halted
  else .stalled

/-- The car record in its decoded form (R38): velocity (code − 512) × 10 and load at most 200. -/
def CarReport.decoded (r : CarReport) (zone : Bool) : CarRecord where
  mode := r.mode
  position := r.position
  velocity := ((r.velocityCode : Int) - 512) * 10
  load := min 200 r.load
  occupancy := r.occupancy
  doors := r.doors
  alarm := r.alarm
  presses := r.presses
  chainOpen := r.chainOpen
  brakeLifted := r.brakeLifted
  echo := r.echo
  inZone := zone

/-- Whether the last report is present and meets `p`. -/
def Lift.reports (r : Lift) (p : CarRecord → Bool) : Bool :=
  match r.dyn.lastReport with
  | some c => p c
  | none => false

/-! ### Cause truth (R46) -/

/-- Whether an active input of an enabled panel of line `l` maps to the car slot (R30, R46). -/
def State.sharedActive (s : State) (l : LineId) (slot : Fin 16) : Bool :=
  (List.finRange 4).any fun place =>
    let r := s.panel (panelAt l place)
    r.config.enabled && (List.finRange 4).any fun k =>
      r.dyn.inputs.getLsbD k.val && r.config.map[k.val].getLsbD slot.val

/-- The truth that is held while the lift has no last report: what a LINE_RESET has kept (R21, R28), and nothing after every other
entry into UNSEEN, OFFLINE or DISABLED (R46). -/
def LiftDynamic.heldTruth (d : LiftDynamic) : CauseSet := if d.lastReport.isSome then .empty else d.keptTruth

/-- The cause truth set of lift `i`, computed whole (R46). A cause that is not enabled is false. While the lift has no last
report, STALL and ALARM are held; SHARED and SILENT follow their conditions in every state but DISABLED and OFFLINE. -/
def State.truthOf (s : State) (i : LiftIdx) : CauseSet :=
  let r := s.lift i
  if r.dyn.state = .disabled || r.dyn.state = .offline then .empty
  else
    let held := r.dyn.heldTruth
    let raw : Cause → Bool
      | .stall => if r.dyn.lastReport.isSome then r.dyn.state == .stalled else held.stall
      | .alarm => if r.dyn.lastReport.isSome then r.reports CarRecord.alarm else held.alarm
      | .shared => s.sharedActive (lineOf i) (carSlotOf i)
      | .silent => r.dyn.state == .silent
      | .manual => false
    .filter fun c => (r.config.cause c).enabled && raw c

/-- The causes that are true, or that a LINE_RESET has kept true until the first taken report: where the case manager asks whether
a cause of a case or of a latch is now false (R61, R66, R67, R74), what was kept stands, so that a reset withdraws no case and
forgets no lift waiting for a record before the car is heard again (R21, R28, R74), though R46 computes SHARED and SILENT afresh
there (DESIGN CHOICE, log 34). Raises, READ and a reopening (R49, R78) read the set itself. -/
def Lift.standingTruth (r : Lift) : CauseSet :=
  .filter fun c => (r.config.cause c).enabled && (r.dyn.truth.has c || r.dyn.heldTruth.has c)

/-- The causes that meet their trigger at an evaluation from `old` to `new` (R49): an EDGE cause that became true, a LEVEL
cause that is true. -/
def raisedCauses (g : LiftConfig) (old new : CauseSet) : CauseSet :=
  .filter fun c => (g.cause c).enabled && new.has c &&
    (match (g.cause c).trigger with
     | .edge => !old.has c
     | .level => true)

/-- A LEVEL cause of the lift that is now false (R66, R67, R74). -/
def Lift.levelFalse (r : Lift) (c : Cause) : Bool := (r.config.cause c).trigger == .level && !r.standingTruth.has c

/-- Every cause of the set is LEVEL for the lift and now false (R67, R74). -/
def Lift.allLevelFalse (r : Lift) (set : CauseSet) : Bool := set.toList.all r.levelFalse

/-- The set without its LEVEL causes that are now false (R61, R66). -/
def Lift.dropFalse (r : Lift) (set : CauseSet) : CauseSet := .filter fun c => set.has c && !r.levelFalse c

/-- The lift's enabled LEVEL causes that are in its cause truth set (R78). -/
def Lift.trueLevel (r : Lift) : CauseSet :=
  .filter fun c => (r.config.cause c).enabled && (r.config.cause c).trigger == .level && r.dyn.truth.has c

/-- Whether the last report is present and shows OCCUPIED (R62, R66, R122). -/
def Lift.occupied (r : Lift) : Bool := r.reports fun c => c.occupancy == .occupied

/-! ### Values of a set of causes in the class table (R62, R66) -/

/-- The smallest of a class field over a set of causes; `top` where the set is empty. -/
def State.smallest (s : State) (field : ClassEntry → Nat) (top : Nat) (set : CauseSet) : Nat :=
  set.toList.foldl (fun m c => min m (field (s.classOf c))) top

/-- The urgency a case of these causes opens with: the smallest base, improved by one for OCCUPIED (R62). -/
def State.openingUrgency (s : State) (i : LiftIdx) (set : CauseSet) : Nat :=
  let base := s.smallest ClassEntry.base 7 set
  if (s.lift i).occupied then improve base else base

/-- The class entry of the first cause of a set in the fixed order (R62, R64). -/
def State.firstClass (s : State) (set : CauseSet) : Option ClassEntry := set.toList.head?.map s.classOf

end Sys2Proof.Machine
end

