-- ==== Sys2Proof/Machine/Job.lean ====
section
/-! DEFINITION. The internal jobs of one handling. A command's handling is whole and indivisible; inside it the blocks hand
work on to one another (00_scope 3, 95). A job is one such piece of work, and a handling is a list of jobs done in order, the
jobs that a job gives rise to before those that stood behind it. -/

namespace Sys2Proof.Machine

/-- The ten crew requests (section 5.3). -/
inductive CrewRequest where
  | dutyOn
  | dutyOff
  | sweepOn
  | sweepOff
  | job
  | accept
  | decline
  | arrived
  | voice
  | standDown
  deriving DecidableEq, Repr

/-- A panel's report (section 1.3). `request` is none before the panel's first request. -/
structure PanelReport where
  logged : Option Nat
  toggle : Bool
  request : Option CrewRequest
  serial : Option (BitVec 16)
  hold : Bool
  pressNumber : Nat
  inputs : BitVec 4
  deriving DecidableEq, Repr

/-- The internal jobs. A job that concerns a case names its record and its serial, so that it does not reach a fresh case
that has opened in the record meanwhile (R51, log 17). -/
inductive Job where
  /-- START is sent on the line (R6). -/
  | start (l : LineId) (wake : Option WakeSource)
  /-- STOP is sent on the line (R11). -/
  | stop (l : LineId)
  /-- Work that needs the line: a line in QUIET_IDLE leaves it (R13). -/
  | lineWork (l : LineId)
  /-- The window of the slot has closed: the next opens, or the cycle ends (R7). -/
  | advance (l : LineId) (slot : Slot)
  /-- The case is told that its command was delivered (R18). -/
  | delivered (c : CaseNo) (serial : BitVec 16) (p : PendingCommand)
  /-- The case is told that its command was lost (R21, step 2). -/
  | lost (c : CaseNo) (serial : BitVec 16) (owner : CommandOwner)
  /-- The car monitor handles a taken report (R54). -/
  | takenReport (i : LiftIdx) (r : CarReport)
  /-- The car monitor handles a silent slot (R45, R54). -/
  | silentSlot (i : LiftIdx)
  /-- The case manager is told of the lift's new cause truth set (R47). -/
  | truthTold (i : LiftIdx)
  /-- A raise is taken by the case manager (R61). -/
  | raise (i : LiftIdx) (causes : CauseSet)
  /-- The report reaches the release controller (R134). -/
  | releaseReport (c : CaseNo) (serial : BitVec 16) (moves : Bool)
  /-- A named event reaches the case (R73). -/
  | event (c : CaseNo) (serial : BitVec 16) (e : NamedEvent)
  /-- An occupancy change reaches the case (R68). -/
  | occupancy (c : CaseNo) (serial : BitVec 16)
  /-- New presses reach the case (R69). -/
  | presses (c : CaseNo) (serial : BitVec 16) (n : Nat)
  /-- The summary decision of a taken report, against the state and the report before it (R52). -/
  | summaryReport (i : LiftIdx) (before : LiftState) (previous : Option CarRecord)
  /-- The summary decision of a change of lift state made without a report (R52). -/
  | summaryChange (i : LiftIdx)
  /-- The activation goes on to a step, `begun` steps having been begun in it (R112, R113). -/
  | go (c : CaseNo) (begun target : Nat) (common : Bool)
  /-- The handover test of R72. -/
  | handoverTest (c : CaseNo)
  /-- END(CLEARED) reaches the case manager (R75). -/
  | clearing (c : CaseNo)
  /-- The case closes (R76). -/
  | close (c : CaseNo) (reason : CloseReason)
  /-- Latch arbitration (R66). -/
  | arbitrate
  /-- Step 1 of a taken panel answer: the logged crew (R9). -/
  | panelLogged (p : PanelIdx) (logged : Option Nat)
  /-- Step 2 of a taken panel answer: the request (R9). -/
  | panelRequest (p : PanelIdx) (toggle : Bool) (request : Option CrewRequest) (serial : Option (BitVec 16))
  /-- Step 3 of a taken panel answer: the hold (R9). -/
  | panelHold (p : PanelIdx) (hold : Bool) (pressNumber : Nat)
  /-- Step 4 of a taken panel answer: the alarm inputs (R9). -/
  | panelInputs (p : PanelIdx) (inputs : BitVec 4)
  /-- A silent panel slot (R10). -/
  | panelSilent (p : PanelIdx)
  /-- The panel's dynamic fields are cleared (R31). -/
  | clearPanel (p : PanelIdx)
  /-- The tag is reported to the arbiter as having left the panel (R88). -/
  | crewLeft (p : PanelIdx) (tag : Nat)
  /-- The tag is reported to the arbiter as logged in at the panel (R88). -/
  | crewLogin (p : PanelIdx) (tag : Nat)
  /-- The login of crew `k` at panel `p` is tested for arrival (R88, R103). -/
  | loginArrival (p : PanelIdx) (k : CrewNo)
  /-- The release controller is told that the crew has left the panel, for one case record (R137). -/
  | releaseCrewLeft (c : CaseNo) (p : PanelIdx) (k : CrewNo)
  /-- A hold change is handed to the release controller, for one case record (R133). -/
  | holdChange (c : CaseNo) (p : PanelIdx) (wasActive hold : Bool) (pressNumber : Nat)
  /-- SHARED is re-evaluated for one lift (R48). -/
  | sharedEval (i : LiftIdx)
  /-- The release of a case on a line that is reset aborts (R21 step 3, R138). -/
  | releaseReset (c : CaseNo) (l : LineId)
  /-- A lift of a line that is reset becomes UNSEEN (R21 step 4, R28). -/
  | resetLift (i : LiftIdx)
  /-- An enabled lift enters OFFLINE or UNSEEN with its line (R19, R20, R28). -/
  | enterLift (i : LiftIdx) (st : LiftState)
  /-- The line restarts with a START, its cycle number 0 and its mode CONTINUOUS (R19, R21, R22). -/
  | restartLine (l : LineId)
  deriving DecidableEq, Repr

/-- What a piece of a handling leaves: the state, and the jobs it gives rise to. -/
abbrev Work := State × List Job

end Sys2Proof.Machine
end

