-- ==== Sys2Proof/Machine/CaseTable.lean ====
section
/-! DEFINITION. The case manager (chapter 4): openings, joining causes, latches, urgency, escalation, named events, clearing
and closing. -/

namespace Sys2Proof.Machine

/-! ### The CALL notice (R100) -/

/-- Whether crew `k` is named by the CALL notice of case record `c` (R100). -/
def State.callable (s : State) (c : CaseNo) (k : CrewNo) : Bool :=
  let r := s.crew k
  r.config.enabled && r.dyn.onDuty && r.config.coverage[(lineOf (s.caseAt c).lift).val] && r.dyn.offer.isNone &&
    !(s.caseAt c).declined.contains k

/-- The CALL notice of a case that enters WAITING (R100). Its tags stand in crew record order (DESIGN CHOICE, log 38). -/
def State.call (s : State) (c : CaseNo) : State :=
  let tags := ((List.finRange 8).filter (s.callable c)).map fun k => (s.crew k).config.tag
  s.offerLoose (.call (s.noticeOf c .call (.tags tags)))

/-! ### Opening and joining (R61 to R65) -/

/-- The record of a case at its opening (R62). -/
def State.openingRecord (s : State) (i : LiftIdx) (causes : CauseSet) : Case :=
  let interval := s.smallest ClassEntry.interval 65535 causes
  let first := s.firstClass causes
  { Case.free with
    record := .opened
    serial := s.serial
    lift := i
    causes := causes
    urgency := s.openingUrgency i causes
    occupancyCounted := (s.lift i).occupied
    openedAt := s.stamp
    interval := interval
    escalation := .running interval
    clear := first.bind ClassEntry.clear
    stop := first.bind ClassEntry.stop
    limit := s.smallest ClassEntry.limit 15 causes
    procedure := ⟨(s.lift i).config.page, 0, false, .running, .none, 0, .stopped⟩ }

/-- The tables after a case has taken record `c`, before its notices (R58, R62, R83). -/
def State.seated (s : State) (c : CaseNo) (i : LiftIdx) (causes : CauseSet) : State :=
  let s1 := s.setCase c (s.openingRecord i causes)
  let s2 := s1.setDyn i { (s1.lift i).dyn with openCase := some c, latch := .empty }
  { s2 with serial := s2.serial + 1, lamp := true }

/-- A case opens in record `c` for lift `i` (R62), and the opening is completed: OPENED, CALL, and the procedure's first
activation (R63). -/
def openCase (s : State) (c : CaseNo) (i : LiftIdx) (causes : CauseSet) : Work :=
  (((s.seated c i causes).notify c .opened (.causes causes)).call c, [.go c 0 0 false])

/-- The escalation timer after the interval has become `interval` by a joining cause (R64). -/
def joinedTimer (interval : Nat) : Timer → Timer
  | .running n => if interval < n then .running interval else .running n
  | .stopped => .stopped
  | .due => .due

/-- The record of a case once the causes `new` have joined it (R64). -/
def State.joined (s : State) (r : Case) (new : CauseSet) : Case :=
  let all := r.causes.union new
  let interval := min r.interval (s.smallest ClassEntry.interval 65535 new)
  let first := s.firstClass all
  { r with
    causes := all
    urgency := min r.urgency (s.smallest ClassEntry.base 7 new)
    interval := interval
    escalation := joinedTimer interval r.escalation
    limit := min r.limit (s.smallest ClassEntry.limit 15 new)
    clear := first.bind ClassEntry.clear
    stop := first.bind ClassEntry.stop }

/-- Raised causes reach the open case in record `c` (R64). -/
def joinCauses (s : State) (c : CaseNo) (causes : CauseSet) : Work :=
  let r := s.caseAt c
  let new := causes.diff r.causes
  if new.isEmpty then (s, [])
  else ((s.setCase c (s.joined r new)).notify c .causeAdded (.causes new), [.handoverTest c])

/-- Causes are added to the request latch of lift `i` (R65). -/
def State.addLatch (s : State) (i : LiftIdx) (causes : CauseSet) : State :=
  s.setDyn i { (s.lift i).dyn with latch := (s.lift i).dyn.latch.union causes }

/-- One TABLE_FULL notice, where the handling that began with `before` leaves some latch set (R65). -/
def State.fullIf (s : State) (before : Bool) (i : LiftIdx) : State :=
  if !before && s.someLatch then s.notifyFull i else s

/-- A raise is taken (R61). -/
def raise (s : State) (i : LiftIdx) (causes : CauseSet) : Work :=
  match (s.lift i).dyn.openCase with
  | some c => joinCauses s c causes
  | none =>
    match s.lowestFree with
    | some c => openCase s c i (causes.union ((s.lift i).dropFalse (s.lift i).dyn.latch))
    | none => ((s.addLatch i causes).fullIf s.someLatch i, [])

/-! ### Latches (R66, R67) -/

/-- Steps 1 and 2 of latch arbitration at one lift: the LEVEL causes that are now false leave the latch (R66). -/
def Lift.prunedLatch (r : Lift) : Lift := { r with dyn := { r.dyn with latch := r.dropFalse r.dyn.latch } }

/-- The latched lift with the best candidate urgency, the lower index winning (R66, steps 3 and 4). -/
def State.bestLatch (s : State) : Option LiftIdx :=
  pickBest (fun a b => s.openingUrgency a (s.lift a).dyn.latch < s.openingUrgency b (s.lift b).dyn.latch)
    ((List.finRange 64).filter fun i => !(s.lift i).dyn.latch.isEmpty)

/-- Latch arbitration (R66). -/
def arbitrate (s : State) : Work :=
  match s.lowestFree with
  | none => (s, [])
  | some c =>
    let s1 := { s with lifts := s.lifts.map Lift.prunedLatch }
    match s1.bestLatch with
    | some i => openCase s1 c i (s1.lift i).dyn.latch
    | none => (s1, [])

/-- The case manager is told of a new cause truth set: the latch is tested (R67), and the lift's case is withdrawn where its
causes have all fallen (R74). -/
def truthTold (s : State) (i : LiftIdx) : Work :=
  let r := s.lift i
  let s1 := if r.allLevelFalse r.dyn.latch then s.setDyn i { r.dyn with latch := .empty } else s
  match r.dyn.openCase with
  | some c =>
    let q := s.caseAt c
    if (q.dispatch = .waiting || q.dispatch = .offered) && r.allLevelFalse q.causes then (s1, [.close c .withdrawn])
    else (s1, [])
  | none => (s1, [])

/-! ### Urgency and escalation (R68 to R71) -/

/-- An occupancy change improves the urgency once in the life of the case (R68). -/
def occupancyChange (s : State) (c : CaseNo) : State :=
  let r := s.caseAt c
  if r.occupancyCounted then s else s.setCase c { r with urgency := improve r.urgency, occupancyCounted := true }

/-- How many of the thresholds 1, 1 + N, 1 + 2N, … are no greater than `total` (R69). -/
def thresholds (skip total : Nat) : Nat := if total = 0 then 0 else (total - 1) / skip + 1

/-- A count of new presses (R69). -/
def addPresses (s : State) (c : CaseNo) (n : Nat) : State :=
  let r := s.caseAt c
  let total := min 255 (r.presses + n)
  let skip := (s.classOf .alarm).skip
  s.setCase c { r with
    presses := total
    urgency := r.urgency - (thresholds skip total - thresholds skip r.presses) }

/-- The escalation timer of an open case runs out (R71). -/
def escalate (s : State) (c : CaseNo) : Work :=
  let r := s.caseAt c
  let n := satInc 15 r.escalations
  let s1 := s.setCase c { r with urgency := improve r.urgency, escalations := n, declined := [] }
  let s2 := s1.notify c .escalated (.count n)
  (s2.setCase c { s2.caseAt c with escalation := .running r.interval }, [.handoverTest c])

/-! ### Clearing and closing (R75 to R78) -/

/-- Both timers of the arrival window are stopped; the run-out marks stay (R102). -/
def Window.halted (w : Window) : Window := { w with minTimer := .stopped, maxTimer := .stopped }

/-- EVACUATED or END(CLEARED) at an open case, by dispatch state (R75). -/
def clearCase (s : State) (c : CaseNo) (source : ClearedSource) : Work :=
  let r := s.caseAt c
  match r.dispatch with
  | .waiting => (s, [.close c .clearedUnattended])
  | .offered => (s, [.close c .clearedUnattended])
  | .assigned | .onSite =>
    ((s.setCase c { r with dispatch := .cleared, escalation := .stopped, window := r.window.halted }).notify c .cleared
      (.source source), [])
  | .cleared => (s, [])

/-- The case leaves a crew: its offer is cancelled with the mark set, and it leaves the held list (R76 step 1, R99). -/
def Crew.without (k : Crew) (c : CaseNo) (serial : BitVec 16) : Crew :=
  let d := { k.dyn with held := k.dyn.held.filter (· != c) }
  match k.dyn.offer with
  | some o => if o.case = c then ⟨k.config, { d with offer := none, offerLost := some serial }⟩ else ⟨k.config, d⟩
  | none => ⟨k.config, d⟩

/-- The record of a case that is closed at stamp `now`, its crew's tag and its lift's identity as they then stand: steps 1 to 5 of
the close, and what its CLOSED notice is made with at step 7 (R76, R82). -/
def Case.closed (r : Case) (reason : CloseReason) (tag : Option Nat) (identity : Nat) (now : BitVec 32) : Case :=
  { r with
    record := .closing
    closeReason := some reason
    closeTag := tag
    closedIdentity := some identity
    closedAt := some now
    window := r.window.halted
    pending := none
    release := none
    procedure := { r.procedure with timer := .stopped }
    escalation := .stopped }

/-- Steps 1 to 6 of the close (R76): the case leaves the arbiter, its command and release are discarded, the procedure stops,
the record is CLOSING, the lamp is judged, and the still-true LEVEL causes go back into the latch (R78). -/
def State.shut (s : State) (c : CaseNo) (reason : CloseReason) : State :=
  let r := s.caseAt c
  let s1 := { s with crews := s.crews.map fun (k : Crew) => k.without c r.serial }
  let s2 := s1.setCase c (r.closed reason (s.tagOf r.crew) (s.identityOf r.lift) s.stamp)
  let s3 := s2.setDyn r.lift { (s2.lift r.lift).dyn with openCase := none }
  ({ s3 with lamp := s3.anyOpen }).addLatch r.lift (s3.lift r.lift).trueLevel

/-- The CLOSED notice of a CLOSING record, made at step 7 of its close (R76). Its fields are fixed then (R82): the urgency and the
dispatch state that the record keeps, and the reason, the crew tag, the identity and the stamp of the close, whenever it is sent
(R154). -/
def State.closedNotice (s : State) (c : CaseNo) : Notice :=
  let r := s.caseAt c
  let arg := match r.closeReason with
    | some reason => NoticeArg.closed reason
    | none => .none
  { s.noticeOf c .closed arg with crewTag := r.closeTag, identity := r.closedIdentity, stamp := r.closedAt.getD s.stamp }

/-- The close of an open case (R76 to R78). The TABLE_FULL test of R65 comes after the arbitration (log 14). -/
def closeCase (s : State) (c : CaseNo) (reason : CloseReason) : Work :=
  if s.isOpen c then
    let i := (s.caseAt c).lift
    let s1 := s.shut c reason
    let offered := s1.offerCase c (s1.closedNotice c)
    let s2 := match offered.2 with
      | .entered => offered.1.setCase c .free
      | .kept => offered.1
    let given := arbitrate s2
    (given.1.fullIf s.someLatch i, given.2)
  else (s, [])

end Sys2Proof.Machine
end

