-- ==== Sys2Proof/Machine/Procedure.lean ====
section
/-! DEFINITION. The places a procedure moves to and how a waiting step ends (R111, R112), the handover (R115), and a named
event at a case (R73). -/

namespace Sys2Proof.Machine

/-- The page a procedure runs on: page 15 while on common, its own page otherwise (R112). -/
def Procedure.page (p : Procedure) : Fin 16 := if p.onCommon then Config.commonPage else p.ownPage

/-- The step record a procedure stands at (R112). -/
def State.stepOf (s : State) (p : Procedure) : StepRecord :=
  s.store[p.page.val * 16 + p.step.val]'(by have := p.page.isLt; have := p.step.isLt; omega)

/-- The move to the next step: the same page, step plus one (R112). -/
def nextJob (c : CaseNo) (begun : Nat) (p : Procedure) : Job := .go c begun (p.step.val + 1) p.onCommon
/-- The move to the step after next (R112). -/
def skipJob (c : CaseNo) (begun : Nat) (p : Procedure) : Job := .go c begun (p.step.val + 2) p.onCommon
/-- The move to the branch of a step record (R112). -/
def branchJob (c : CaseNo) (begun : Nat) (r : StepRecord) : Job := .go c begun r.target.val r.common

/-- A procedure whose wait has ended: wait NONE and the step timer stopped (R111). -/
def Procedure.unwaited (p : Procedure) : Procedure := { p with wait := .none, timer := .stopped }

/-- Changes the procedure part of case record `c`. -/
def State.setProcedure (s : State) (c : CaseNo) (p : Procedure) : State := s.setCase c { s.caseAt c with procedure := p }

/-- The waiting step completes; the activation goes on from the next step (R111). -/
def completeWait (s : State) (c : CaseNo) : Work :=
  let p := (s.caseAt c).procedure
  (s.setProcedure c p.unwaited, [nextJob c 0 p])

/-- The waiting step fails; the activation goes on from its branch (R111). -/
def failWait (s : State) (c : CaseNo) : Work :=
  let p := (s.caseAt c).procedure
  (s.setProcedure c p.unwaited, [branchJob c 0 (s.stepOf p)])

/-- Whether the procedure of record `c` is RUNNING in the given wait. -/
def State.waitsFor (s : State) (c : CaseNo) (w : Wait) : Bool :=
  (s.caseAt c).procedure.status == .running && (s.caseAt c).procedure.wait == w

/-- The record with its pending command withdrawn, where the given block set it. -/
def Case.withdraw (r : Case) (owner : CommandOwner) : Case :=
  match r.pending with
  | some p => if p.owner = owner then { r with pending := none } else r
  | none => r

/-- A handover of the procedure of record `c` (R115); one that is not RUNNING is left as it is. -/
def handover (s : State) (c : CaseNo) (reason : HandoverReason) : State :=
  let r := s.caseAt c
  if r.procedure.status = .running then
    let r1 := if r.procedure.wait = .delivery then r.withdraw .procedure else r
    (s.setCase c { r1 with procedure := { r.procedure.unwaited with status := .handedOver } }).notify c .handover
      (.handover reason)
  else s

/-- The handover test of R72. -/
def handoverTest (s : State) (c : CaseNo) : State :=
  let r := s.caseAt c
  if s.isOpen c && r.limit ≤ r.escalations then handover s c .escalation else s

/-- The escalation timer when an event reaches the case (R73, steps 2 and 3). A timer that is due has not run out yet
(log 1). -/
def eventTimer (r : Case) (e : NamedEvent) : Timer :=
  if r.stop = some e then .stopped
  else if r.clear = some e && r.escalation.live then .running r.interval
  else r.escalation

/-- A named event handed to the procedure engine (R73 step 5, R121). -/
def procedureEvent (s : State) (c : CaseNo) (e : NamedEvent) : Work :=
  if s.waitsFor c (.event e) then completeWait s c else (s, [])

/-- A named event reaches the open case of record `c` (R73). -/
def caseEvent (s : State) (c : CaseNo) (e : NamedEvent) : Work :=
  let r := s.caseAt c
  let s1 := s.setCase c { r with seen := r.seen.insert e, escalation := eventTimer r e }
  if e = .evacuated then
    if r.dispatch = .waiting || r.dispatch = .offered then clearCase s1 c .evacuated
    else
      let cleared := clearCase s1 c .evacuated
      let told := procedureEvent cleared.1 c e
      (told.1, cleared.2 ++ told.2)
  else procedureEvent s1 c e

end Sys2Proof.Machine
end

