-- ==== Sys2Proof/Machine/ReleaseControl.lean ====
section
/-! DEFINITION. The release controller (chapter 7): the plan, the start and the end of a release, and the pulse interlock. -/

namespace Sys2Proof.Machine

/-! ### The release plan (R129) -/

/-- The result of the release plan (R129). -/
inductive Plan where
  | notNeeded
  | crewOnly (reason : AbortReason)
  | allowed (direction : Direction) (target distance needed : Nat)
  deriving DecidableEq, Repr

/-- The load is within the balance band (R129 step 2). -/
def balanced (load balance : Nat) : Bool := distance load balance < 5

/-- The direction of the drift (R129 step 3). -/
def driftOf (load balance : Nat) : Direction := if balance < load then .down else .up

/-- The target landing in a direction: the highest below p − dz, or the lowest above p + dz (R129 step 4). -/
def targetOf (g : LiftConfig) (p : Nat) (dir : Direction) : Option (Nat × Nat) :=
  match dir with
  | .down => (g.landings.zipIdx.filter fun e => e.1 + g.doorZone < p).getLast?
  | .up => (g.landings.zipIdx.filter fun e => p + g.doorZone < e.1).head?

/-- A distance divided by the step per pulse, rounded up (R129 step 6). -/
def pulsesFor (d step : Nat) : Nat := (d + step - 1) / step

/-- Steps 5 to 7 of the plan, once the target is found (R129). -/
def planFrom (g : LiftConfig) (k d target : Nat) (dir : Direction) : Plan :=
  if g.reach < d then .crewOnly .tooFar
  else if g.cap < k + pulsesFor d g.step then .crewOnly .tooMany
  else .allowed dir target d (pulsesFor d g.step)

/-- The release plan for position `p`, load and pulses already done `k` (R129). -/
def planOf (g : LiftConfig) (p load k : Nat) : Plan :=
  if inDoorZone g.landings g.doorZone p then .notNeeded
  else if balanced load g.balance then .crewOnly .balanced
  else
    let dir := driftOf load g.balance
    match targetOf g p dir with
    | none => .crewOnly .noTarget
    | some (h, t) => planFrom g k (distance p h) t dir

/-- The plan the controller would compute for case record `c` at this moment; none with no last report (R122). -/
def State.planFor (s : State) (c : CaseNo) : Option Plan :=
  let r := s.caseAt c
  (s.lift r.lift).dyn.lastReport.map fun n => planOf (s.lift r.lift).config n.position n.load r.pulses

/-! ### Starting a release (R130, R131) -/

/-- The logged panel of the case's crew, where it is on the case's line (R130). -/
def State.crewPanel (s : State) (r : Case) : Option PanelIdx :=
  (r.crew.bind fun k => (s.crew k).dyn.logged).filter fun p => panelLine p == lineOf r.lift

/-- The tests of R130 in their order: the reason of the first that fails, or the release record of R131. -/
def State.releaseStart (s : State) (c : CaseNo) : Except AbortReason Release :=
  let r := s.caseAt c
  if r.dispatch ≠ .onSite then .error .notOnSite
  else match (s.lift r.lift).dyn.lastReport with
    | none => .error .noReport
    | some n =>
      if n.mode ≠ .inhibited then .error .mode
      else match s.crewPanel r with
        | none => .error .noCrew
        | some p =>
          match planOf (s.lift r.lift).config n.position n.load r.pulses with
          | .notNeeded => .error .notNeeded
          | .crewOnly reason => .error reason
          | .allowed dir target d needed =>
            .ok ⟨.awaitHold, p, dir, target, d, needed, (s.panel p).dyn.pressNumber, n.echo, 0, .stopped⟩

/-! ### How a release ends (R132) -/

/-- The outcome of a release. -/
inductive ReleaseEnd where
  | done (p : Nat)
  | aborted (reason : AbortReason)
  deriving DecidableEq, Repr

/-- The notice of an end (R141). -/
def endNotice (s : State) (c : CaseNo) : ReleaseEnd → State
  | .done p => s.notify c .releaseDone (.pulse (s.caseAt c).pulses (some p))
  | .aborted reason => s.notify c .releaseAborted (.aborted reason (s.caseAt c).pulses)

/-- Steps 1 to 3 of an end: a pulse not yet sent is cleared, the record is discarded and the notice made (R132). -/
def dropRelease (s : State) (c : CaseNo) (e : ReleaseEnd) : State :=
  let r := s.caseAt c
  let pulsing := r.release.any fun q => q.sub == .pulsePending
  let r1 := if pulsing then r.withdraw .release else r
  endNotice (s.setCase c { r1 with release := none }) c e

/-- A release ends (R132): the procedure waiting at its RELEASE step is told. -/
def endRelease (s : State) (c : CaseNo) (e : ReleaseEnd) : Work :=
  let s1 := dropRelease s c e
  if s1.waitsFor c .release then
    match e with
    | .done _ => completeWait s1 c
    | .aborted _ => failWait s1 c
  else (s1, [])

/-- Changes the release record of case record `c`. -/
def State.setRelease (s : State) (c : CaseNo) (q : Release) : State := s.setCase c { s.caseAt c with release := some q }

/-! ### The pulse interlock (R133 to R136) -/

/-- A hold change at the release's own panel (R133). -/
def holdAt (s : State) (c : CaseNo) (q : Release) (wasActive hold : Bool) (press : Nat) : State :=
  let fresh := hold && press != q.lastPress
  let released := wasActive && !hold
  match q.sub with
  | .awaitHold => if fresh then s.setRelease c { q with lastPress := press, sub := .awaitChain } else s
  | .awaitChain =>
    if fresh then s.setRelease c { q with repeats := satInc 255 q.repeats }
    else if released then s.setRelease c { q with lastPress := press, sub := .awaitHold }
    else s
  | .pulsePending =>
    if fresh then s.setRelease c { q with repeats := satInc 255 q.repeats }
    else if released then
      s.setCase c { (s.caseAt c).withdraw .release with release := some { q with lastPress := press, sub := .awaitHold } }
    else s
  | .settling => if fresh then s.setRelease c { q with repeats := satInc 255 q.repeats } else s

/-- A hold change of panel `p` handed to the release of record `c` (R133). -/
def holdChange (s : State) (c : CaseNo) (p : PanelIdx) (wasActive hold : Bool) (press : Nat) : State :=
  match (s.caseAt c).release with
  | some q => if s.isOpen c && q.panel = p then holdAt s c q wasActive hold press else s
  | none => s

/-- The judgement of a settle report (R135, steps 1 to 6): the end of the release, or its new distance and pulse count. -/
def settleOf (g : LiftConfig) (q : Release) (n : CarRecord) (k : Nat) : Except ReleaseEnd (Nat × Nat) :=
  let p := n.position
  if (g.landings[q.target]?).any fun h => distance p h ≤ g.doorZone then .error (.done p)
  else if inDoorZone g.landings g.doorZone p then .error (.aborted .overshoot)
  else if balanced n.load g.balance then .error (.aborted .balanced)
  else match targetOf g p q.direction with
    | none => .error (.aborted .overshoot)
    | some (h, t) =>
      if t ≠ q.target then .error (.aborted .overshoot)
      else match planFrom g k (distance p h) t q.direction with
        | .notNeeded => .error (.aborted .overshoot)
        | .crewOnly reason => .error (.aborted reason)
        | .allowed _ _ d needed => .ok (d, needed)

/-- A settle report: the settle timer stops and the plan is judged again (R135). -/
def settle (s : State) (c : CaseNo) (q : Release) (n : CarRecord) : Work :=
  let r := s.caseAt c
  match settleOf (s.lift r.lift).config q n r.pulses with
  | .error e => endRelease s c e
  | .ok (d, needed) =>
    (s.setRelease c { q with
      settle := .stopped, distance := d, needed := needed, lastPress := (s.panel q.panel).dyn.pressNumber
      sub := .awaitHold }, [])

/-- A car report by sub-state, once it has passed the abort tests (R134). -/
def reportBySub (s : State) (c : CaseNo) (q : Release) (n : CarRecord) (moves : Bool) : Work :=
  let still := !n.chainOpen && !n.brakeLifted && !moves
  match q.sub with
  | .awaitHold => (s, [])
  | .awaitChain =>
    if still then
      let r := s.caseAt c
      (s.setCase c { r with
        pending := some ⟨.brakePulse ((q.sequence + 1) % 8) q.direction, .release⟩
        release := some { q with sub := .pulsePending } }, [.lineWork (lineOf r.lift)])
    else (s, [])
  | .pulsePending =>
    if still then (s, [])
    else
      (s.setCase c { (s.caseAt c).withdraw .release with release := some { q with sub := .awaitChain } }, [])
  | .settling => if n.echo = q.sequence && !n.brakeLifted && !moves then settle s c q n else (s, [])

/-- A car report handed to the case of record `c` (R134). -/
def releaseReport (s : State) (c : CaseNo) (moves : Bool) : Work :=
  match (s.caseAt c).release, (s.lift (s.caseAt c).lift).dyn.lastReport with
  | some q, some n =>
    if n.chainOpen then endRelease s c (.aborted .chain)
    else if n.mode ≠ .inhibited then endRelease s c (.aborted .mode)
    else reportBySub s c q n moves
  | some _, none => (s, [])
  | none, _ => (s, [])

/-- The delivery of the release's BRAKE_PULSE (R135). -/
def pulseDelivered (s : State) (c : CaseNo) (sequence : Nat) : State :=
  let r := s.caseAt c
  match r.release with
  | some q =>
    if q.sub = .pulsePending then
      let k := satInc 63 r.pulses
      (s.setCase c { r with
        pulses := k
        release := some { q with
          sequence := sequence, settle := .running s.settings.settleLimit, sub := .settling } }).notify c .releasePulse
        (.pulse k ((s.lift r.lift).dyn.lastReport.map CarRecord.position))
    else s
  | none => s

/-! ### Other ends (R136 to R138) -/

/-- The settle timer runs out in SETTLING (R136). -/
def settleExpired (s : State) (c : CaseNo) : Work := endRelease s c (.aborted .noEcho)

/-- The release of record `c` is told that crew `k` has left panel `p` (R137). -/
def releaseCrewLeft (s : State) (c : CaseNo) (p : PanelIdx) (k : CrewNo) : Work :=
  match (s.caseAt c).release with
  | some q =>
    if s.isOpen c && q.panel = p && (s.caseAt c).crew = some k then endRelease s c (.aborted .crewLeft) else (s, [])
  | none => (s, [])

/-- The release of record `c` is told of the reset of line `l` (R138). -/
def releaseReset (s : State) (c : CaseNo) (l : LineId) : Work :=
  if s.isOpen c && (s.caseAt c).release.isSome && lineOf (s.caseAt c).lift = l then endRelease s c (.aborted .lineReset)
  else (s, [])

end Sys2Proof.Machine
end

