-- ==== Sys2Proof/Machine/Engine.lean ====
section
/-! DEFINITION. The procedure engine (chapter 6): the twelve actions, activations, deliveries and losses of its commands,
and the step timer. -/

namespace Sys2Proof.Machine

/-- The five conditions of TEST (R122). -/
inductive Condition where
  | occupied
  | inZone
  | planAllowed
  | crewOnSite
  | carInhibited
  deriving DecidableEq, Repr

/-- The twelve actions with their arguments as they are read (section 6.5). -/
inductive Action where
  | command (cmd : CarCommand)
  | restore
  | note (code : Nat)
  | bump
  | wait (e : NamedEvent)
  | test (c : Condition) (sense : Bool)
  | setCount (n : Nat)
  | count
  | goto
  | release
  | ending (cleared : Bool)
  deriving DecidableEq, Repr

/-- The condition code of a TEST argument (section 11.3). -/
def decodeCondition : Nat → Option Condition
  | 1 => some .occupied
  | 2 => some .inZone
  | 3 => some .planAllowed
  | 4 => some .crewOnSite
  | 5 => some .carInhibited
  | _ => none

/-- The sense code of a TEST argument (section 11.3). -/
def decodeSense : Nat → Option Bool
  | 1 => some true
  | 2 => some false
  | _ => none

/-- The argument byte of TEST: bits 5–4 sense, bits 2–0 condition, none with bit 7, 6 or 3 set (section 11.3). -/
def decodeTest (a : Nat) : Option Action :=
  match decodeCondition (a % 8), decodeSense (a / 16 % 4) with
  | some c, some sense => if a / 64 = 0 && a / 8 % 2 = 0 then some (.test c sense) else none
  | _, _ => none

/-- The argument byte of END (section 11.3). -/
def decodeEnd : Nat → Option Action
  | 1 => some (.ending true)
  | 2 => some (.ending false)
  | _ => none

/-- The action of a step record; none where the code names no action or the argument is outside what the action accepts
(R114). -/
def StepRecord.decoded (r : StepRecord) : Option Action :=
  match r.action with
  | 1 => if r.argument ≤ 15 then some (.command (.announce r.argument)) else none
  | 2 => some (.command .inhibit)
  | 3 => some .restore
  | 4 => some (.note r.argument)
  | 5 => some .bump
  | 6 => (decodeEvent r.argument).map .wait
  | 7 => decodeTest r.argument
  | 8 => some (.setCount (clampTo 1 15 r.argument))
  | 9 => some .count
  | 10 => some .goto
  | 11 => some .release
  | 12 => decodeEnd r.argument
  | _ => none

/-! ### The conditions of the steps -/

/-- The value of a condition of TEST (R122). -/
def State.condition (s : State) (c : CaseNo) : Condition → Bool
  | .occupied => (s.lift (s.caseAt c).lift).occupied
  | .inZone => (s.lift (s.caseAt c).lift).dyn.state == .parked
  | .planAllowed =>
    match s.planFor c with
    | some (.allowed _ _ _ _) => true
    | _ => false
  | .crewOnSite => (s.caseAt c).dispatch == .onSite
  | .carInhibited => (s.lift (s.caseAt c).lift).reports fun n => n.mode == .inhibited

/-- Whether a WAIT step finds its event already come (R120). -/
def State.eventCome (s : State) (c : CaseNo) (e : NamedEvent) : Bool :=
  let r := s.lift (s.caseAt c).lift
  (s.caseAt c).seen.has e ||
    match e with
    | .inZone => r.dyn.state == .parked
    | .doorsOpen => r.reports fun n => n.doors == .opened
    | .evacuated => r.reports fun n => n.occupancy == .empty && n.doors == .opened && n.inZone
    | .voiceContact => false
    | .crewArrived => false
    | .carMoved => false

/-- The test that RESTORE begins with (R118). -/
def State.mayRestore (s : State) (c : CaseNo) : Bool :=
  (s.lift (s.caseAt c).lift).reports fun n => n.occupancy == .empty || n.inZone

/-! ### Steps (R116 to R125) -/

/-- A command step sets the pending command and waits on DELIVERY (R116); work on the line ends its QUIET_IDLE (R13). -/
def commandStep (s : State) (c : CaseNo) (limit : Nat) (cmd : CarCommand) : Work :=
  let r := s.caseAt c
  (s.setCase c { r with
    pending := some ⟨cmd, .procedure⟩
    procedure := { r.procedure with wait := .delivery, timer := Timer.ofLimit limit } }, [.lineWork (lineOf r.lift)])

/-- A RELEASE step (R124, R130, R131). -/
def releaseStep (s : State) (c : CaseNo) (begun : Nat) (sr : StepRecord) : Work :=
  match s.releaseStart c with
  | .ok q =>
    let r := s.caseAt c
    (s.setCase c { r with
      release := some q
      procedure := { r.procedure with wait := .release, timer := Timer.ofLimit sr.limit } }, [])
  | .error reason => (endNotice s c (.aborted reason), [branchJob c begun sr])

/-- An action carried out by the procedure of record `c`, its step included in the `begun` steps (R112). -/
def act (s : State) (c : CaseNo) (begun : Nat) (sr : StepRecord) (a : Action) : Work :=
  let r := s.caseAt c
  let p := r.procedure
  match a with
  | .command cmd => commandStep s c sr.limit cmd
  | .restore => if s.mayRestore c then commandStep s c sr.limit .restore else (s, [branchJob c begun sr])
  | .note code => (s.notify c .note (.code code), [nextJob c begun p])
  | .bump => (s.setCase c { r with urgency := improve r.urgency }, [nextJob c begun p])
  | .wait e =>
    if s.eventCome c e then (s, [nextJob c begun p])
    else (s.setProcedure c { p with wait := .event e, timer := Timer.ofLimit sr.limit }, [])
  | .test cond sense => if s.condition c cond = sense then (s, [nextJob c begun p]) else (s, [skipJob c begun p])
  | .setCount n => (s.setProcedure c { p with retry := n }, [nextJob c begun p])
  | .count =>
    (s.setProcedure c { p with retry := p.retry - 1 },
      [if p.retry - 1 = 0 then skipJob c begun p else nextJob c begun p])
  | .goto => (s, [branchJob c begun sr])
  | .release => releaseStep s c begun sr
  | .ending true => (s.setProcedure c { p with status := .finished }, [.clearing c])
  | .ending false => (handover s c .ended, [])

/-- The activation goes on to a step, `begun` steps having been begun in it (R112 to R114). -/
def goTo (s : State) (c : CaseNo) (begun target : Nat) (common : Bool) : Work :=
  let p := (s.caseAt c).procedure
  if s.isOpen c && p.status = .running then
    match toIdx 16 target with
    | none => (handover s c .badStep, [])
    | some step =>
      let s1 := s.setProcedure c { p with step := step, onCommon := common }
      if Config.stepBudget ≤ begun then (handover s1 c .loop, [])
      else
        let sr := s1.stepOf (s1.caseAt c).procedure
        match sr.decoded with
        | none => (handover s1 c .badStep, [])
        | some a => act s1 c (begun + 1) sr a
  else (s, [])

/-! ### Occasions from outside (R111, R117, R124) -/

/-- A command of the case was delivered (R18): the block that set it is told. -/
def commandDelivered (s : State) (c : CaseNo) (p : PendingCommand) : Work :=
  match p.owner with
  | .procedure => if s.waitsFor c .delivery then completeWait s c else (s, [])
  | .release =>
    match p.command with
    | .brakePulse sequence _ => (pulseDelivered s c sequence, [])
    | .inhibit => (s, [])
    | .restore => (s, [])
    | .announce _ => (s, [])
    | .service _ => (s, [])

/-- A command of the case was lost (R21 step 2): a procedure step waiting on it fails (R117); a release takes the loss as
part of the reset (R138). -/
def commandLost (s : State) (c : CaseNo) (owner : CommandOwner) : Work :=
  match owner with
  | .procedure => if s.waitsFor c .delivery then failWait s c else (s, [])
  | .release => (s, [])

/-- The step timer of record `c` runs out (R111): a command is withdrawn (R117), a release is aborted TIMEOUT (R124, R139),
and the waiting step fails. -/
def stepExpired (s : State) (c : CaseNo) : Work :=
  let p := (s.caseAt c).procedure
  match p.wait with
  | .none => (s, [])
  | .event _ => failWait s c
  | .delivery => failWait (s.setCase c ((s.caseAt c).withdraw .procedure)) c
  | .release =>
    if (s.caseAt c).release.isSome then failWait (dropRelease s c (.aborted .timeout)) c else failWait s c

end Sys2Proof.Machine
end

