-- ==== Sys2Proof/Machine/Crews.lean ====
section
/-! DEFINITION. The dispatch arbiter (chapter 5): the held list, the choice of a case, offers, the arrival window, logins, and
the ten crew requests. -/

namespace Sys2Proof.Machine

/-! ### The held list (R101) -/

/-- Whether held case `a` stands before held case `b`: urgency, then the earlier acceptance, then the lower record (R101).
Stamps are compared by their age, so that a wrap does no harm (log 16). -/
def State.heldBefore (s : State) (a b : CaseNo) : Bool :=
  let age (c : CaseNo) : Nat := (s.stamp - ((s.caseAt c).acceptedAt.getD 0)).toNat
  let ua := (s.caseAt a).urgency
  let ub := (s.caseAt b).urgency
  ua < ub || (ua == ub && (age b < age a || (age a == age b && a < b)))

/-- Puts a record into a list already in the order `before`. -/
def insertOrdered (before : CaseNo → CaseNo → Bool) (c : CaseNo) : List CaseNo → List CaseNo
  | [] => [c]
  | d :: rest => if before c d then c :: d :: rest else d :: insertOrdered before c rest

/-- The held list in the order of R101. -/
def State.heldOrder (s : State) (k : CrewNo) : List CaseNo :=
  (s.crew k).dyn.held.foldr (insertOrdered s.heldBefore) []

/-- The held case of a serial, resolved by R58. -/
def State.heldSerial (s : State) (k : CrewNo) (serial : BitVec 16) : Option CaseNo :=
  (s.resolveSerial serial).filter (s.crew k).dyn.held.contains

/-- The held case a request means: the one of its serial, or the crew's most urgent (R105, R106). -/
def State.heldNamed (s : State) (k : CrewNo) (serial : Option (BitVec 16)) : Option CaseNo :=
  match serial with
  | some n => s.heldSerial k n
  | none => (s.heldOrder k).head?

/-! ### The choice (R94) -/

/-- Whether case record `c` is eligible for crew `k` (R94). -/
def State.eligible (s : State) (k : CrewNo) (c : CaseNo) : Bool :=
  let r := s.caseAt c
  let w := s.crew k
  let l := lineOf r.lift
  r.dispatch == .waiting && w.config.coverage[l.val] && !r.declined.contains k &&
    w.dyn.held.length < Config.heldCapacity &&
    (w.dyn.held.all (fun h => r.urgency < (s.caseAt h).urgency) ||
      (w.dyn.sweep && w.dyn.logged.any fun p => panelLine p == l))

/-- Whether eligible case `a` goes before `b`, which stands earlier in record order (R94). -/
def State.offeredBefore (s : State) (a b : CaseNo) : Bool :=
  let ra := s.caseAt a
  let rb := s.caseAt b
  ra.urgency < rb.urgency || (ra.urgency == rb.urgency &&
    match s.settings.tieMode with
    | .oldest => (s.stamp - rb.openedAt).toNat < (s.stamp - ra.openedAt).toNat
    | .rotate => s.rotation.idxOf ra.lift < s.rotation.idxOf rb.lift)

/-- The choice for a crew (R94). -/
def State.choice (s : State) (k : CrewNo) : Option CaseNo :=
  pickBest s.offeredBefore (s.openRecords.filter (s.eligible k))

/-! ### Answers to crew requests (R89, R16) -/

/-- The answer is made on the request's own route: upstream, or pending for the panel with the stamp of this moment. -/
def State.respond (s : State) (route : Route) (tag : Nat) (code : AnswerCode) (named : Option (BitVec 16))
    (offer : Option OfferInfo) : State :=
  match route with
  | .trunk o => s.offerAnswer o (.crewAnswer code (BitVec.ofNat 8 tag) named offer)
  | .panel p =>
    let r := s.line (panelLine p)
    s.setLine (panelLine p) { r with
      answers := r.answers.set (panelPlace p).val (some ⟨code, tag, named, s.stamp⟩) }

/-- The crew is answered, and its offer lost mark becomes absent (R89, R99). -/
def State.reply (s : State) (k : CrewNo) (route : Route) (code : AnswerCode) (named : Option (BitVec 16))
    (offer : Option OfferInfo) (tag : Nat) : State :=
  let s1 := s.respond route tag code named offer
  s1.setCrewDyn k { (s1.crew k).dyn with offerLost := none }

/-- A pending panel answer is work that needs the line (R13). -/
def routeJobs : Route → List Job
  | .trunk _ => []
  | .panel p => [.lineWork (panelLine p)]

/-- How a crew request is answered: the state, the code, the case named, the fields of an offer. -/
abbrev Reply := State → AnswerCode → Option (BitVec 16) → Option OfferInfo → State

/-- The fields of an OFFER answer (R89). -/
def State.offerInfo (s : State) (c : CaseNo) : OfferInfo :=
  ⟨s.identityOf (s.caseAt c).lift, (s.caseAt c).urgency, lineOf (s.caseAt c).lift⟩

/-- The serial of case record `c`. -/
def State.serialOf (s : State) (c : CaseNo) : BitVec 16 := (s.caseAt c).serial

/-! ### Duty and sweep (R90) -/

/-- DUTY_ON (R90). -/
def dutyOnRequest (s : State) (k : CrewNo) (reply : Reply) : Work :=
  (reply (s.setCrewDyn k { (s.crew k).dyn with onDuty := true }) .ok none none, [])

/-- DUTY_OFF (R90). -/
def dutyOffRequest (s : State) (k : CrewNo) (reply : Reply) : Work :=
  let d := (s.crew k).dyn
  if d.held.isEmpty && d.offer.isNone then
    (reply (s.setCrewDyn k { d with onDuty := false, sweep := false }) .ok none none, [])
  else (reply s .busy none none, [])

/-- SWEEP_ON and SWEEP_OFF (R90). -/
def sweepRequest (s : State) (k : CrewNo) (on : Bool) (reply : Reply) : Work :=
  (reply (s.setCrewDyn k { (s.crew k).dyn with sweep := on }) .ok none none, [])

/-! ### Offers (R93 to R99) -/

/-- The offer of case `c` to crew `k` is made, steps 1 and 2 (R95). -/
def State.makeOffer (s : State) (k : CrewNo) (c : CaseNo) : State :=
  let s1 := s.setCase c { s.caseAt c with dispatch := .offered, crew := some k }
  s1.setCrewDyn k { (s1.crew k).dyn with offer := some ⟨c, .running s.settings.offerTimeout⟩ }

/-- JOB (R93, R95). -/
def jobRequest (s : State) (k : CrewNo) (reply : Reply) : Work :=
  match (s.crew k).dyn.offer with
  | some o => (reply s .offer (some (s.serialOf o.case)) (some (s.offerInfo o.case)), [])
  | none =>
    match s.choice k with
    | some c =>
      let s1 := s.makeOffer k c
      ((reply s1 .offer (some (s1.serialOf c)) (some (s1.offerInfo c))).notify c .offered .none, [])
    | none => (reply s .noCase none none, [])

/-- An ACCEPT or DECLINE of a crew without an offer (R96, R97). -/
def noOfferReply (s : State) (k : CrewNo) (reply : Reply) : Work :=
  match (s.crew k).dyn.offerLost with
  | some n => (reply s .gone (some n) none, [])
  | none => (reply s .wrongState none none, [])

/-- A lift moves to the bottom of the rotation order (R92). -/
def State.toBottom (s : State) (i : LiftIdx) : State := { s with rotation := s.rotation.erase i ++ [i] }

/-- The crew's offer is cleared (R96, R97). -/
def State.clearOffer (s : State) (k : CrewNo) : State := s.setCrewDyn k { (s.crew k).dyn with offer := none }

/-- The line a crew starts from: that of its logged panel, or its post line (R102). -/
def State.startLine (s : State) (k : CrewNo) : LineId :=
  match (s.crew k).dyn.logged with
  | some p => panelLine p
  | none => (s.crew k).config.post

/-- The travel entry between two lines (section 5.4). -/
def State.travelOf (s : State) (a b : LineId) : Travel :=
  s.travel[a.val * 4 + b.val]'(by have := a.isLt; have := b.isLt; omega)

/-- The arrival window started with a travel entry; a timer of 0 ticks has run out at its start (R102). -/
def Window.started (t : Travel) : Window :=
  ⟨Timer.ofLimit t.min, Timer.ofLimit t.max, t.min == 0, t.max == 0⟩

/-- The case becomes late (R104). -/
def becomeLate (s : State) (c : CaseNo) : State :=
  let r := s.caseAt c
  (s.setCase c { r with urgency := improve r.urgency, late := true }).notify c .late .none

/-- The case is accepted into the held list: ASSIGNED, with its arrival window started (R96, R101, R102). -/
def State.assign (s : State) (k : CrewNo) (c : CaseNo) : State :=
  let r := s.caseAt c
  let s1 := s.setCase c { r with
    dispatch := .assigned
    acceptedAt := some s.stamp
    window := .started (s.travelOf (s.startLine k) (lineOf r.lift)) }
  s1.setCrewDyn k { (s1.crew k).dyn with held := (s1.crew k).dyn.held ++ [c] }

/-- Every cause of the case has close on accept yes (R96). -/
def State.closesOnAccept (s : State) (c : CaseNo) : Bool :=
  (s.caseAt c).causes.toList.all fun x => (s.classOf x).closeOnAccept

/-- The offer of case `c` is accepted (R96). A max of 0 makes the case late after the ACCEPTED notice (R102). -/
def acceptOffer (s : State) (k : CrewNo) (c : CaseNo) (reply : Reply) : Work :=
  let s1 := s.clearOffer k
  let s2 := if s1.settings.tieMode = .rotate then s1.toBottom (s1.caseAt c).lift else s1
  if s2.closesOnAccept c then closeCase (reply s2 .ok (some (s2.serialOf c)) none) c .acknowledged
  else
    let s3 := s2.assign k c
    let s4 := (reply s3 .ok (some (s3.serialOf c)) none).notify c .accepted .none
    (if (s4.caseAt c).window.maxRunOut then becomeLate s4 c else s4, [])

/-- Whether a request's serial, where it carries one, names the offered case (R96, R97). The serial is resolved by R58, so where
two OPEN records hold it the lower one is named; R96's words "the serial of the offered case" would take it for the offered case
all the same (DESIGN CHOICE, log 37). -/
def State.namesOffer (s : State) (o : Offer) (serial : Option (BitVec 16)) : Bool :=
  serial.all fun n => s.resolveSerial n == some o.case

/-- ACCEPT (R96). -/
def acceptRequest (s : State) (k : CrewNo) (serial : Option (BitVec 16)) (reply : Reply) : Work :=
  match (s.crew k).dyn.offer with
  | some o => if s.namesOffer o serial then acceptOffer s k o.case reply else (reply s .wrongState none none, [])
  | none => noOfferReply s k reply

/-- Steps 1 to 3 of a decline: the offer is cleared, the case returns to WAITING with no crew, and the crew enters its
declined set (R97, R98). -/
def State.declineOffer (s : State) (k : CrewNo) (c : CaseNo) : State :=
  let s1 := s.clearOffer k
  let r := s1.caseAt c
  s1.setCase c { r with
    dispatch := .waiting
    crew := none
    declined := if r.declined.contains k then r.declined else r.declined ++ [k] }

/-- The notices of an offer given up: the crew's tag as argument, then CALL (R97, R98). -/
def givenUp (s : State) (k : CrewNo) (c : CaseNo) (kind : NoticeKind) : State :=
  (s.notify c kind (.tag (s.crew k).config.tag)).call c

/-- DECLINE (R97). -/
def declineRequest (s : State) (k : CrewNo) (serial : Option (BitVec 16)) (reply : Reply) : Work :=
  match (s.crew k).dyn.offer with
  | some o =>
    if s.namesOffer o serial then
      let s1 := s.declineOffer k o.case
      (givenUp (reply s1 .ok (some (s1.serialOf o.case)) none) k o.case .declined, [])
    else (reply s .wrongState none none, [])
  | none => noOfferReply s k reply

/-- A crew's offer timer runs out (R98). -/
def offerExpired (s : State) (k : CrewNo) (c : CaseNo) : State := givenUp (s.declineOffer k c) k c .offerExpired

/-! ### Arrival, voice and standing down (R103 to R106) -/

/-- A declared arrival at the ASSIGNED case `c` is judged against its min timer (R103). -/
def judgeArrival (s : State) (k : CrewNo) (c : CaseNo) (reply : Reply) : Work :=
  let r := s.caseAt c
  if r.window.minRunOut then
    let s1 := s.setCase c { r with dispatch := .onSite, window := r.window.halted }
    ((reply s1 .ok (some r.serial) none).notify c .arrived .none, [.event c r.serial .crewArrived])
  else
    let n := satInc 15 (s.crew k).dyn.implausible
    let s1 := s.setCrewDyn k { (s.crew k).dyn with implausible := n }
    ((reply s1 .implausible (some r.serial) none).notify c .implausible (.count n), [])

/-- ARRIVED (R103). -/
def arrivedRequest (s : State) (k : CrewNo) (serial : Option (BitVec 16)) (reply : Reply) : Work :=
  let assigned (c : CaseNo) : Bool := (s.caseAt c).dispatch == .assigned
  match serial with
  | some n =>
    match s.heldSerial k n with
    | some c => if assigned c then judgeArrival s k c reply else (reply s .wrongState none none, [])
    | none => (reply s .notHeld none none, [])
  | none =>
    if (s.crew k).dyn.held.isEmpty then (reply s .notHeld none none, [])
    else match (s.heldOrder k).find? assigned with
      | some c => judgeArrival s k c reply
      | none => (reply s .wrongState none none, [])

/-- VOICE (R105). -/
def voiceRequest (s : State) (k : CrewNo) (serial : Option (BitVec 16)) (reply : Reply) : Work :=
  match s.heldNamed k serial with
  | some c => (reply s .ok (some (s.serialOf c)) none, [.event c (s.serialOf c) .voiceContact])
  | none => (reply s .notHeld none none, [])

/-- STAND_DOWN (R106). -/
def standDownRequest (s : State) (k : CrewNo) (serial : Option (BitVec 16)) (reply : Reply) : Work :=
  match s.heldNamed k serial with
  | some c => (reply s .ok (some (s.serialOf c)) none, [.close c .stoodDown])
  | none => (reply s .notHeld none none, [])

/-! ### A crew request as a whole (R89) -/

/-- The rule of each request's kind. -/
def requestKind (s : State) (k : CrewNo) (request : CrewRequest) (serial : Option (BitVec 16)) (reply : Reply) : Work :=
  match request with
  | .dutyOn => dutyOnRequest s k reply
  | .dutyOff => dutyOffRequest s k reply
  | .sweepOn => sweepRequest s k true reply
  | .sweepOff => sweepRequest s k false reply
  | .job => jobRequest s k reply
  | .accept => acceptRequest s k serial reply
  | .decline => declineRequest s k serial reply
  | .arrived => arrivedRequest s k serial reply
  | .voice => voiceRequest s k serial reply
  | .standDown => standDownRequest s k serial reply

/-- A crew request (R89): the tag is resolved, the code judged (`none` is a CREW frame's code outside the ten), the duty
tested, and the request dealt with by the rule of its kind. -/
def crewRequest (s : State) (route : Route) (tag : Nat) (request : Option CrewRequest) (serial : Option (BitVec 16)) :
    Work :=
  match s.resolveTag tag with
  | none => (s.respond route tag .badIndex none none, routeJobs route)
  | some k =>
    let reply : Reply := fun t code named offer => t.reply k route code named offer tag
    match request with
    | none => (reply s .badValue none none, routeJobs route)
    | some q =>
      if !(s.crew k).dyn.onDuty && q ≠ .dutyOn then (reply s .wrongState none none, routeJobs route)
      else
        let done := requestKind s k q serial reply
        (done.1, routeJobs route ++ done.2)

/-! ### Logins (R88) -/

/-- The release controller is told, record by record, that a crew has left a panel (R137). The records go in ascending order, what
one record's end sets going before the next record (DESIGN CHOICE, log 33). -/
def crewLeftJobs (p : PanelIdx) (k : CrewNo) : List Job := (List.finRange 16).map fun c => .releaseCrewLeft c p k

/-- A tag is reported as logged in at a panel (R88). -/
def crewLogin (s : State) (p : PanelIdx) (tag : Nat) : Work :=
  match s.resolveTag tag with
  | some k =>
    let d := (s.crew k).dyn
    let left := match d.logged with
      | some q => if q = p then [] else crewLeftJobs q k
      | none => []
    (s.setCrewDyn k { d with logged := some p }, left ++ [.loginArrival p k])
  | none => (s, [])

/-- A login tested for arrival: the crew's most urgent held case that is ASSIGNED and on the panel's line (R103). -/
def loginArrival (s : State) (p : PanelIdx) (k : CrewNo) : Work :=
  let wanted (c : CaseNo) : Bool := (s.caseAt c).dispatch == .assigned && lineOf (s.caseAt c).lift == panelLine p
  match (s.heldOrder k).find? wanted with
  | some c => judgeArrival s k c fun t _ _ _ => t
  | none => (s, [])

/-- A tag is reported as having left a panel (R88, R9). -/
def crewLeft (s : State) (p : PanelIdx) (tag : Nat) : Work :=
  match s.resolveTag tag with
  | some k =>
    let d := (s.crew k).dyn
    (if d.logged = some p then s.setCrewDyn k { d with logged := none } else s, crewLeftJobs p k)
  | none => (s, [])

end Sys2Proof.Machine
end

