-- ==== Sys2Proof/Machine/Monitor.lean ====
section
/-! DEFINITION. The car monitor (chapter 3): what a taken report and a silent slot do to a lift record, the evaluation of
cause truth, what is handed to the open case, and summaries. -/

namespace Sys2Proof.Machine

/-! ### Summaries (R52, R53) -/

/-- The summary of a lift as it stands (R53). -/
def State.summaryOf (s : State) (i : LiftIdx) : Summary :=
  ⟨s.identityOf i, s.stamp, (s.lift i).dyn.state, (s.lift i).dyn.lastReport⟩

/-- A report changes one of the values R52 compares; a report after an absent one counts as a change. -/
def reportChanged (before after : LiftState) (previous now : Option CarRecord) : Bool :=
  before != after || match previous, now with
    | some p, some n => p.mode != n.mode || p.doors != n.doors || p.occupancy != n.occupancy || p.alarm != n.alarm
    | _, _ => true

/-- The summary decision of a taken report (R52). -/
def summaryAfterReport (s : State) (i : LiftIdx) (before : LiftState) (previous : Option CarRecord) : State :=
  let r := s.lift i
  match r.config.forwarding with
  | .all => s.offerSummary (s.summaryOf i)
  | .changes =>
    if reportChanged before r.dyn.state previous r.dyn.lastReport then s.offerSummary (s.summaryOf i) else s
  | .none => s

/-- The summary decision of a change of lift state made without a report (R52). -/
def summaryAfterChange (s : State) (i : LiftIdx) : State :=
  match (s.lift i).config.forwarding with
  | .all => s.offerSummary (s.summaryOf i)
  | .changes => s.offerSummary (s.summaryOf i)
  | .none => s

/-! ### Evaluation of cause truth (R47, R49) -/

/-- The case manager is told where the set differs from what it was (R47). -/
def toldIf (i : LiftIdx) (old new : CauseSet) : List Job := if old = new then [] else [.truthTold i]

/-- A raise is handed where any cause is raised (R49). -/
def raiseIf (i : LiftIdx) (raised : CauseSet) : List Job := if raised.isEmpty then [] else [.raise i raised]

/-- The lift's cause truth set is computed whole and stored (R47). -/
def storeTruth (s : State) (i : LiftIdx) : State := s.setDyn i { (s.lift i).dyn with truth := s.truthOf i }

/-- SHARED is re-evaluated for one lift (R48): the set is evaluated, the case manager told, and causes raised; a lift in
DISABLED or OFFLINE takes no part. -/
def sharedEval (s : State) (i : LiftIdx) : Work :=
  let d := (s.lift i).dyn
  if d.state = .disabled || d.state = .offline then (s, [])
  else
    let new := s.truthOf i
    (storeTruth s i, toldIf i d.truth new ++ raiseIf i (raisedCauses (s.lift i).config d.truth new))

/-- The re-evaluations of the car slots of a line that meet `p`, in ascending slot order (R48). -/
def sharedJobs (l : LineId) (p : Fin 16 → Bool) : List Job :=
  ((List.finRange 16).filter p).map fun slot => .sharedEval (liftAt l slot)

/-- A change of a panel's alarm inputs is handed to the car monitor: every slot that the map names in an input whose value
changed is re-evaluated (R48). -/
def inputChangeJobs (p : PanelIdx) (map : Vector (BitVec 16) 4) (old new : BitVec 4) : List Job :=
  sharedJobs (panelLine p) fun slot => (List.finRange 4).any fun k =>
    old.getLsbD k.val != new.getLsbD k.val && map[k.val].getLsbD slot.val

/-! ### What goes to the open case (R51) -/

/-- The car events of a report, in the order of R51. -/
def carEvents (before after : LiftState) (previous : Option CarRecord) (now : CarRecord) : List NamedEvent :=
  (if (before = .halted || before = .stalled) && after = .running then [.carMoved] else []) ++
  (if after = .parked && before ≠ .parked then [.inZone] else []) ++
  (if now.doors = .opened && previous.all (fun p => p.doors ≠ .opened) then [.doorsOpen] else []) ++
  (if now.occupancy = .empty && now.inZone && now.doors = .opened then [.evacuated] else [])

/-- What a report hands to the case open before it, in the order of R51: the report, its car events, the occupancy change,
the new presses. -/
def handOver (c : CaseNo) (serial : BitVec 16) (moves : Bool) (before after : LiftState) (previous : Option CarRecord)
    (now : CarRecord) (presses : Nat) : List Job :=
  .releaseReport c serial moves ::
  (carEvents before after previous now).map (.event c serial ·) ++
  (if now.occupancy = .occupied && previous.all (fun p => p.occupancy ≠ .occupied) then [.occupancy c serial] else []) ++
  (if presses = 0 then [] else [.presses c serial presses])

/-! ### Slot outcomes (R54) -/

/-- The dynamic part after steps 1 to 5 of a taken report (R54), before cause truth is evaluated. -/
def reportedDyn (g : LiftConfig) (d : LiftDynamic) (r : CarReport) : LiftDynamic :=
  let moves := moving g.creep r.velocityCode
  let zone := inDoorZone g.landings g.doorZone r.position
  let stops := stopCountAfter d.stopCount moves zone
  { d with
    state := liftStateOf r.mode moves zone stops g.debounce
    lastReport := some (r.decoded zone)
    nearest := nearestLanding g.landings r.position
    stopCount := stops
    silenceCount := 0
    pressBaseline := some r.presses
    keptTruth := .empty }

/-- The case manager is told at a taken report, by which lift `r` has come to the set `new`: where the set differs from what it was
(R47), and where a truth that a LINE_RESET had kept ends with this report (R21, R28, log 34). -/
def toldAtReport (i : LiftIdx) (r : Lift) (new : CauseSet) : List Job :=
  if r.dyn.truth = new && r.standingTruth = new then [] else [.truthTold i]

/-- A taken report, steps 1 to 9 of R54: the lift record is brought up to date and its truth stored; then the case manager
is told, the open case is handed its news, causes are raised and a summary is decided. -/
def takenReport (s : State) (i : LiftIdx) (r : CarReport) : Work :=
  let g := (s.lift i).config
  let d := (s.lift i).dyn
  let s1 := s.setDyn i (reportedDyn g d r)
  let s2 := storeTruth s1 i
  let e := (s2.lift i).dyn
  let moves := moving g.creep r.velocityCode
  let now := r.decoded (inDoorZone g.landings g.doorZone r.position)
  let handed := match d.openCase with
    | some c =>
      handOver c (s.caseAt c).serial moves d.state e.state d.lastReport now (newPresses d.pressBaseline r.presses)
    | none => []
  (s2, toldAtReport i (s.lift i) e.truth ++ handed ++ raiseIf i (raisedCauses g d.truth e.truth) ++
    [.summaryReport i d.state d.lastReport])

/-- A silent slot (R45, R54): the silence count and the state, cause truth, raises, and a summary where the state
changed. -/
def silentSlot (s : State) (i : LiftIdx) : Work :=
  let g := (s.lift i).config
  let d := (s.lift i).dyn
  let n := satInc 15 d.silenceCount
  let st := if g.silence ≤ n then LiftState.silent else d.state
  let s1 := s.setDyn i { d with silenceCount := n, state := st }
  let s2 := storeTruth s1 i
  let e := (s2.lift i).dyn
  (s2, toldIf i d.truth e.truth ++ raiseIf i (raisedCauses g d.truth e.truth) ++
    (if st = d.state then [] else [.summaryChange i]))

/-! ### Entries from outside (R28, R56) -/

/-- A summary is decided where the lift state changed (R52). -/
def changeJobs (i : LiftIdx) (before after : LiftState) : List Job := if before = after then [] else [.summaryChange i]

/-- The lift enters DISABLED, OFFLINE or UNSEEN by one of the first three rows of R28; the case manager is told of a set
that was emptied (R56). -/
def enterState (s : State) (i : LiftIdx) (st : LiftState) : Work :=
  let d := (s.lift i).dyn
  (s.setDyn i (.entered st), toldIf i d.truth .empty ++ changeJobs i d.state st)

/-- An enabled lift enters the state with its line (R19, R20). -/
def enterLift (s : State) (i : LiftIdx) (st : LiftState) : Work :=
  if (s.lift i).config.enabled then enterState s i st else (s, [])

/-- What a LINE_RESET keeps of the cause truth until the next taken report: the set as it stands (R28), with what an earlier reset
still keeps (log 34). -/
def LiftDynamic.truthToKeep (d : LiftDynamic) : CauseSet := d.heldTruth.union d.truth

/-- An enabled lift of a line that is reset becomes UNSEEN, its nearest landing, cause truth, latch and open case kept (the
last row of R28); the truth so kept stands until the first taken report (R21). -/
def resetLift (s : State) (i : LiftIdx) : Work :=
  let d := (s.lift i).dyn
  if (s.lift i).config.enabled then
    (s.setDyn i { d with
      state := .unseen, lastReport := none, stopCount := 0, silenceCount := 0, pressBaseline := none
      keptTruth := d.truthToKeep },
     changeJobs i d.state .unseen)
  else (s, [])

end Sys2Proof.Machine
end

