-- ==== Sys2Proof/Machine/LineControl.lean ====
section
/-! DEFINITION. The line controllers (chapter 1): START with its command slot, STOP, the judging of a window, panel answers,
and what the line requests do to a line. -/

namespace Sys2Proof.Machine

/-! ### The slot set and the command slot (R4, R15) -/

/-- The slots polled by a START: the car slots of enabled lifts and the panel slots of enabled panels, ascending (R4). -/
def State.slotSet (s : State) (l : LineId) : List Slot :=
  (((List.finRange 16).filter fun k => (s.lift (liftAt l k)).config.enabled).map carSlot) ++
  (((List.finRange 4).filter fun k => (s.panel (panelAt l k)).config.enabled).map panelSlot)

/-- The OPEN case of the line whose pending command goes first: best urgency, then lower record (R15 step 1). -/
def State.caseCommand (s : State) (l : LineId) (slots : List Slot) : Option (CaseNo × PendingCommand) :=
  let waiting := (s.openOn l).filter fun c =>
    (s.caseAt c).pending.isSome && slots.contains (carSlot (carSlotOf (s.caseAt c).lift))
  (pickBest (fun a b => (s.caseAt a).urgency < (s.caseAt b).urgency) waiting).bind fun c =>
    (s.caseAt c).pending.map fun p => (c, p)

/-- How long ago an answer became pending, by the stamp (log 16). -/
def answerAge (now : BitVec 32) (a : Option PanelAnswer) : Nat :=
  match a with
  | some a => (now - a.stamp).toNat
  | none => 0

/-- The panel answer that became pending earliest, the lower slot of equals (R15 step 2). -/
def earliestAnswer (now : BitVec 32) (answers : Vector (Option PanelAnswer) 4) : Option (Fin 4) :=
  pickBest (fun a b => answerAge now answers[b.val] < answerAge now answers[a.val])
    ((List.finRange 4).filter fun k => answers[k.val].isSome)

/-- The pending answers without those of panels that are not in the slot set, which the START discards (R15, R37). -/
def polledAnswers (slots : List Slot) (answers : Vector (Option PanelAnswer) 4) : Vector (Option PanelAnswer) 4 :=
  tab fun k => if slots.contains (panelSlot k) then answers[k.val] else none

/-- The routine queue from its first command whose target is in the slot set; those before it are discarded (R15). -/
def sendable (slots : List Slot) (queue : List RoutineEntry) : List RoutineEntry :=
  queue.dropWhile fun e => !slots.contains (carSlot e.slot)

/-- What the command slot selection chooses (R15), with the panel answers and the routine queue it leaves. -/
structure Selection where
  command : Option LineCommand
  delivered : Option (CaseNo × PendingCommand)
  answers : Vector (Option PanelAnswer) 4
  routine : List RoutineEntry
  deriving DecidableEq, Repr

/-- The command slot selection (R15). The answer of a panel that is not polled is discarded at this START whatever the START
carries: R37 lets a disabled panel's answer stay until the next START, where R15 discards it, and R15 by itself could be read to
discard only what the choice comes to (DEDUCED, log 35). -/
def State.select (s : State) (l : LineId) (slots : List Slot) : Selection :=
  let r := s.line l
  let kept := polledAnswers slots r.answers
  match s.caseCommand l slots with
  | some (c, p) => ⟨some (.toCar (carSlotOf (s.caseAt c).lift) p.command), some (c, p), kept, r.routine⟩
  | none =>
    match earliestAnswer s.stamp kept with
    | some k => ⟨(kept[k.val]).map (.toPanel k), none, kept.set k.val none, r.routine⟩
    | none =>
      match sendable slots r.routine with
      | e :: rest => ⟨some (.toCar e.slot e.command), none, kept, rest⟩
      | [] => ⟨none, none, kept, []⟩

/-! ### START and STOP (R6, R11) -/

/-- The record of line `l` after a START (R4, R6). -/
def State.startedLine (s : State) (l : LineId) (wake : Option WakeSource) : Line :=
  let r := s.line l
  let v := s.lineSettings l
  let slots := s.slotSet l
  let chosen := s.select l slots
  { r with
    state := .cycle
    cycleNumber := r.cycleNumber + 1
    slotSet := slots
    currentSlot := slots.head?
    windowMs := v.answerWindow
    collided := false
    intervalTimer := .running v.cycleInterval
    ceilingTimer := .running v.quietCeiling
    routine := chosen.routine
    answers := chosen.answers
    cycles := r.cycles + 1
    lastStart := some ⟨r.cycleNumber, r.mode, slots, wake, chosen.command⟩ }

/-- A START is sent (R6): a case whose command it carries has the command cleared and is told of the delivery (R18); an empty
slot set is followed by STOP at once. -/
def startLine (s : State) (l : LineId) (wake : Option WakeSource) : Work :=
  let slots := s.slotSet l
  let s1 := s.setLine l (s.startedLine l wake)
  let after := if slots.isEmpty then [Job.stop l] else []
  match (s.select l slots).delivered with
  | some (c, p) => (s1.setCase c { s1.caseAt c with pending := none }, .delivered c (s1.serialOf c) p :: after)
  | none => (s1, after)

/-- A lift state that keeps a line in continuous mode (R11). -/
def LiftState.needsPolling : LiftState → Bool
  | .running => false
  | .parked => false
  | .maintenance => false
  | .disabled => false
  | .offline => true
  | .unseen => true
  | .halted => true
  | .stalled => true
  | .silent => true

/-- Whether the next mode is CONTINUOUS (R11). -/
def State.staysContinuous (s : State) (l : LineId) : Bool :=
  (s.lineSettings l).defaultMode == .continuous || !(s.openOn l).isEmpty ||
  (List.finRange 16).any (fun k => (s.lift (liftAt l k)).dyn.state.needsPolling) ||
  !(s.line l).routine.isEmpty || (s.line l).answers.toList.any Option.isSome

/-- STOP is sent (R11): the line waits, or starts again at once where the timer it would wait for has run out. -/
def stopLine (s : State) (l : LineId) : Work :=
  let r := s.line l
  let stopped (m : CycleMode) (st : LineState) : State :=
    s.setLine l { r with state := st, mode := m, currentSlot := none, collided := false, lastStop := some m }
  if s.staysContinuous l then
    (stopped .continuous .waitInterval, if r.intervalTimer.isRunning then [] else [.start l none])
  else (stopped .quiet .quietIdle, if r.ceilingTimer.isRunning then [] else [.start l none])

/-- Work that needs the line: a line in QUIET_IDLE leaves it with a START (R13). -/
def lineWork (s : State) (l : LineId) : Work :=
  if (s.line l).state = .quietIdle then (s, [.start l none]) else (s, [])

/-- The window of a slot has closed: the next slot's opens, or the cycle ends (R7, R11). -/
def advance (s : State) (l : LineId) (slot : Slot) : Work :=
  let r := s.line l
  if r.state = .cycle && r.currentSlot = some slot then
    match r.slotSet.find? (fun k => slot < k) with
    | some k => (s.setLine l { r with currentSlot := some k, collided := false }, [])
    | none => (s, [.stop l])
  else (s, [])

/-! ### Panel answers (R9, R10) -/

/-- A hold change handed to the release controller, record by record (R133). -/
def holdJobs (p : PanelIdx) (was hold : Bool) (press : Nat) : List Job :=
  (List.finRange 16).map fun c => .holdChange c p was hold press

/-- Step 1: the logged crew (R9). The crew that was there is reported as having left, then the new one as logged in. -/
def panelLogged (s : State) (p : PanelIdx) (logged : Option Nat) : Work :=
  let d := (s.panel p).dyn
  if d.logged = logged then (s, [])
  else
    let left := match d.logged with
      | some t => [Job.crewLeft p t]
      | none => []
    let login := match logged with
      | some t => [Job.crewLogin p t]
      | none => []
    (s.setPanelDyn p { d with logged := logged }, left ++ login)

/-- Step 2: the request (R9). -/
def panelRequest (s : State) (p : PanelIdx) (toggle : Bool) (request : Option CrewRequest)
    (serial : Option (BitVec 16)) : Work :=
  let d := (s.panel p).dyn
  let s1 := s.setPanelDyn p { d with toggle := some toggle }
  match d.toggle, d.logged, request with
  | some old, some tag, some q => if old = toggle then (s1, []) else crewRequest s1 (.panel p) tag (some q) serial
  | _, _, _ => (s1, [])

/-- Step 3: the hold (R9). -/
def panelHold (s : State) (p : PanelIdx) (hold : Bool) (press : Nat) : Work :=
  let d := (s.panel p).dyn
  (s.setPanelDyn p { d with hold := hold, pressNumber := press },
   if d.hold = hold && d.pressNumber = press then [] else holdJobs p d.hold hold press)

/-- Step 4: the alarm inputs (R9). -/
def panelInputs (s : State) (p : PanelIdx) (inputs : BitVec 4) : Work :=
  let d := (s.panel p).dyn
  (s.setPanelDyn p { d with inputs := inputs }, inputChangeJobs p (s.panel p).config.map d.inputs inputs)

/-- A taken PANEL answer, its four steps in order (R9). -/
def panelJobs (p : PanelIdx) (r : PanelReport) : List Job :=
  [.panelLogged p r.logged, .panelRequest p r.toggle r.request r.serial, .panelHold p r.hold r.pressNumber,
   .panelInputs p r.inputs]

/-- A silent panel slot: the hold goes inactive (R10). -/
def panelSilent (s : State) (p : PanelIdx) : Work :=
  let d := (s.panel p).dyn
  (s.setPanelDyn p { d with hold := false }, if d.hold then holdJobs p true false d.pressNumber else [])

/-- The panel's dynamic fields are cleared; inputs that were active are handed on (R31). -/
def clearPanel (s : State) (p : PanelIdx) : Work :=
  let g := s.panel p
  (s.setPanelDyn p .cleared, inputChangeJobs p g.config.map g.dyn.inputs 0#4)

/-! ### The judging of a window (R7, R8) -/

/-- The answer of a slot as the line controller judged it. -/
inductive SlotAnswer where
  | report (r : CarReport)
  | panel (r : PanelReport)
  /-- Silent; `error` where the window counts one line error. -/
  | silent (error : Bool)
  deriving DecidableEq, Repr

/-- The jobs of a car slot's outcome; none for a lift no longer enabled (R8). -/
def carJobs (s : State) (i : LiftIdx) : SlotAnswer → List Job
  | .report r => if (s.lift i).config.enabled then [.takenReport i r] else []
  | .panel _ => []
  | .silent _ => if (s.lift i).config.enabled then [.silentSlot i] else []

/-- The jobs of a panel slot's outcome; none for a panel no longer enabled (R9, R10). -/
def panelSlotJobs (s : State) (p : PanelIdx) : SlotAnswer → List Job
  | .report _ => []
  | .panel r => if (s.panel p).config.enabled then panelJobs p r else []
  | .silent _ => if (s.panel p).config.enabled then [.panelSilent p] else []

/-- The jobs of a slot's outcome, handed on as its window closes (R8, R9, R10). -/
def slotJobs (s : State) (l : LineId) (slot : Slot) (a : SlotAnswer) : List Job :=
  if h : slot.val < 16 then carJobs s (liftAt l ⟨slot.val, h⟩) a
  else panelSlotJobs s (panelAt l ⟨slot.val - 16, by have := slot.isLt; omega⟩) a

/-- One line error is counted, saturating (R7). -/
def countError (s : State) (l : LineId) : State :=
  s.setLine l { s.line l with errors := satInc 65535 (s.line l).errors }

/-- An open window closes with its slot's answer (R7): the error is counted, the outcome handed on, and polling goes on. -/
def closeWindow (s : State) (l : LineId) (slot : Slot) (a : SlotAnswer) : Work :=
  (if a = .silent true then countError s l else s, slotJobs s l slot a ++ [.advance l slot])

/-! ### Enabling, disabling and resetting a line (R19 to R22) -/

/-- The line restarts: cycle number 0, mode CONTINUOUS, and a START with no wake source (R19, R21, R22). -/
def restartLine (s : State) (l : LineId) : Work :=
  (s.setLine l { s.line l with cycleNumber := 0#8, mode := .continuous }, [.start l none])

/-- The lifts of a line in ascending slot order. That the lifts of a line enter UNSEEN or OFFLINE in this order at LINE_ENABLE,
LINE_DISABLE and LINE_RESET, and so the order of their summaries in the own queue, is a DESIGN CHOICE (log 41): R19 to R21, R28
and R52 name none. -/
def liftsOf (l : LineId) : List LiftIdx := (List.finRange 16).map (liftAt l)
/-- The panels of a line in ascending slot order. -/
def panelsOf (l : LineId) : List PanelIdx := (List.finRange 4).map (panelAt l)

/-- LINE_ENABLE of a line in OFF, in the order R19 lists; the lifts in ascending slot order (log 41). -/
def enableJobs (s : State) (l : LineId) : List Job :=
  .restartLine l :: (liftsOf l).map (.enterLift · .unseen) ++
    ((panelsOf l).filter fun p => (s.panel p).config.enabled).map .clearPanel

/-- The line enters OFF (R20). -/
def offLine (s : State) (l : LineId) : State :=
  s.setLine l { s.line l with
    state := .off, mode := .continuous, slotSet := [], currentSlot := none, collided := false
    routine := [], answers := Vector.replicate 4 none, intervalTimer := .stopped, ceilingTimer := .stopped }

/-- Every crew logged at a panel of the line is reported as having left (R20, R37). -/
def crewsLeaveJobs (s : State) (ps : List PanelIdx) : List Job :=
  ps.flatMap fun p => match (s.panel p).dyn.logged with
    | some t => [.crewLeft p t]
    | none => []

/-- What LINE_DISABLE does after the line has entered OFF, in the order R20 lists; the lifts in ascending slot order (log 41). -/
def disableJobs (s : State) (l : LineId) : List Job :=
  (liftsOf l).map (.enterLift · .offline) ++ crewsLeaveJobs s (panelsOf l) ++ (panelsOf l).map .clearPanel

/-- Step 1 of LINE_RESET: the cycle is abandoned and the queues discarded (R21). The line stands in CYCLE with no window open
until step 6 sends the START (log 15). -/
def abandonCycle (s : State) (l : LineId) : State :=
  s.setLine l { s.line l with
    state := .cycle, currentSlot := none, collided := false, routine := [], answers := Vector.replicate 4 none }

/-- The open cases of a line whose pending command is set, with the block that set it (R21 step 2), in ascending record order
(DESIGN CHOICE, log 33). -/
def pendingOn (s : State) (l : LineId) : List (CaseNo × CommandOwner) :=
  (s.openOn l).filterMap fun c => (s.caseAt c).pending.map fun p => (c, p.owner)

/-- The pending commands of the open cases of a line are discarded (R21 step 2). -/
def dropPending (s : State) (l : LineId) : State :=
  { s with cases := s.cases.map fun (r : Case) =>
      if r.record = .opened && lineOf r.lift = l then { r with pending := none } else r }

/-- LINE_RESET, steps 1 to 6 (R21). At step 2 and at step 3 (R138) the open cases are told in ascending record order, what one
case's procedure does before the next case is told (DESIGN CHOICE, log 33); at step 4 the lifts become UNSEEN in ascending slot
order (DESIGN CHOICE, log 41). -/
def resetLine (s : State) (l : LineId) : Work :=
  let lost := (pendingOn s l).map fun e => Job.lost e.1 (s.serialOf e.1) e.2
  (dropPending (abandonCycle s l) l,
   lost ++ (List.finRange 16).map (.releaseReset · l) ++ (liftsOf l).map .resetLift ++ [.restartLine l])

end Sys2Proof.Machine
end

