-- ==== Sys2Proof/Machine/TrunkPort.lean ====
section
/-! DEFINITION. The trunk port (chapter 9): what its transmitters begin to send, the owed notices a departure serves, and the
forward and relay queues. -/

namespace Sys2Proof.Machine

/-! ### Owed notices (R154) -/

/-- A frame joins the tail in the place just freed, taking the sequence (R151, R154). -/
def State.appendOwn (s : State) (b : OwnBody) : State :=
  { s with trunk := { s.trunk with own := s.trunk.own ++ [s.broadcastFrame b] } }.bumpSequence

/-- The lowest-numbered record whose notice owed flag is set (R154). -/
def State.firstOwed (s : State) : Option CaseNo := (List.finRange 16).find? fun c => (s.caseAt c).owed

/-- The SNAPSHOT notice of an OPEN record, as it stands at this moment (R154). -/
def State.snapshotOf (s : State) (c : CaseNo) : Notice :=
  let r := s.caseAt c
  s.noticeOf c .snapshot (.snapshot r.causes r.escalations r.seen)

/-- A frame has left the own queue: the freed place goes to the lowest owed case, with a SNAPSHOT made now or with the CLOSED notice
made at its close (R82, R154). -/
def serveOwed (s : State) : Work :=
  match s.firstOwed with
  | none => (s, [])
  | some c =>
    match (s.caseAt c).record with
    | .opened =>
      let s1 := s.appendOwn (.notice (s.snapshotOf c))
      (s1.setCase c { s1.caseAt c with owed := false }, [])
    | .closing => ((s.appendOwn (.notice (s.closedNotice c))).setCase c .free, [.arbitrate])
    | .free => (s, [])

/-! ### The transmitters (R149, R155) -/

/-- Begins to send the head of the own queue. -/
def sendOwn (s : State) (f : OwnFrame) (rest : List OwnFrame) (turn : Turn) : Work :=
  serveOwed { s with trunk := { s.trunk with own := rest, nearTx := some (.own f), turn := turn } }

/-- Begins to send the head of the relay queue. -/
def sendRelay (s : State) (bytes : List Byte) (rest : List (List Byte)) (turn : Turn) : State :=
  { s with trunk := { s.trunk with relay := rest, nearTx := some (.relayed bytes), turn := turn } }

/-- The NEAR transmitter, where it is idle on a link that is UP, begins the next frame (R155). -/
def kickNear (s : State) : Work :=
  let t := s.trunk
  if t.nearUp && t.nearTx.isNone then
    match t.own, t.relay with
    | [], [] => (s, [])
    | [], b :: rest => (sendRelay s b rest t.turn, [])
    | f :: rest, [] => sendOwn s f rest t.turn
    | f :: rest, b :: others =>
      if !f.isSummary then sendOwn s f rest t.turn
      else match t.turn with
        | .relay => (sendRelay s b others .own, [])
        | .own => sendOwn s f rest .relay
  else (s, [])

/-- The FAR transmitter, where it is idle on a link that is UP, begins the head of the forward queue (R149). -/
def kickFar (s : State) : State :=
  let t := s.trunk
  if t.farUp && t.farTx.isNone then
    match t.forward with
    | [] => s
    | b :: rest => { s with trunk := { t with forward := rest, farTx := some b } }
  else s

/-- Both transmitters begin what they can (log 6). -/
def kick (s : State) : Work := kickNear (kickFar s)

/-! ### Frames passed on (R149, R150) -/

/-- A frame is offered to the forward queue (R149). -/
def offerForward (s : State) (bytes : List Byte) : State :=
  let t := s.trunk
  if t.farUp && t.forward.length < Config.forwardCapacity then
    { s with trunk := { t with forward := t.forward ++ [bytes] } }
  else { s with trunk := { t with counters := { t.counters with
      forwardDrops := satInc 65535 t.counters.forwardDrops } } }

/-- A good frame from FAR joins the relay queue, or is dropped and counted (R150). -/
def offerRelay (s : State) (bytes : List Byte) : State :=
  let t := s.trunk
  if t.relay.length < Config.relayCapacity then { s with trunk := { t with relay := t.relay ++ [bytes] } }
  else { s with trunk := { t with counters := { t.counters with
      relayDrops := satInc 65535 t.counters.relayDrops } } }

/-- A bad frame on NEAR is counted (R148). -/
def countNearCheck (s : State) : State :=
  { s with trunk := { s.trunk with counters := { s.trunk.counters with
      nearCheck := satInc 65535 s.trunk.counters.nearCheck } } }

/-- A taken frame of another kind is counted (R148). -/
def countNearKind (s : State) : State :=
  { s with trunk := { s.trunk with counters := { s.trunk.counters with
      nearKind := satInc 65535 s.trunk.counters.nearKind } } }

/-- A bad frame on FAR is counted (R150). -/
def countFarCheck (s : State) : State :=
  { s with trunk := { s.trunk with counters := { s.trunk.counters with
      farCheck := satInc 65535 s.trunk.counters.farCheck } } }

/-! ### Link states (R147, R149) -/

/-- NEAR goes UP or DOWN: a frame in transmission when it goes DOWN is lost without a count (R147). -/
def setNear (s : State) (up : Bool) : State :=
  { s with trunk := { s.trunk with nearUp := up, nearTx := if up then s.trunk.nearTx else none } }

/-- FAR goes UP or DOWN: going DOWN, the frame in transmission is lost without a count and every frame still waiting is
discarded and counted (R147, R149). -/
def setFar (s : State) (up : Bool) : State :=
  if up then { s with trunk := { s.trunk with farUp := true } }
  else if s.trunk.farUp then
    { s with trunk := { s.trunk with
        farUp := false, farTx := none, forward := []
        counters := { s.trunk.counters with
          forwardDrops := min 65535 (s.trunk.counters.forwardDrops + s.trunk.forward.length) } } }
  else s

end Sys2Proof.Machine
end

