-- ==== Sys2Proof/Machine/Cascade.lean ====
section
/-! DEFINITION. How the jobs of one handling are done: each job by its block, and the list of jobs to its end. -/

namespace Sys2Proof.Machine

/-- One job is done by the block that owns it. A job for a case that has closed meanwhile does nothing (log 17). -/
def perform (s : State) : Job → Work
  | .start l wake => startLine s l wake
  | .stop l => stopLine s l
  | .lineWork l => lineWork s l
  | .advance l slot => advance s l slot
  | .delivered c serial p => if s.holds c serial then commandDelivered s c p else (s, [])
  | .lost c serial owner => if s.holds c serial then commandLost s c owner else (s, [])
  | .takenReport i r => takenReport s i r
  | .silentSlot i => silentSlot s i
  | .truthTold i => truthTold s i
  | .raise i causes => raise s i causes
  | .releaseReport c serial moves => if s.holds c serial then releaseReport s c moves else (s, [])
  | .event c serial e => if s.holds c serial then caseEvent s c e else (s, [])
  | .occupancy c serial => if s.holds c serial then (occupancyChange s c, []) else (s, [])
  | .presses c serial n => if s.holds c serial then (addPresses s c n, []) else (s, [])
  | .summaryReport i before previous => (summaryAfterReport s i before previous, [])
  | .summaryChange i => (summaryAfterChange s i, [])
  | .go c begun target common => goTo s c begun target common
  | .handoverTest c => (handoverTest s c, [])
  | .clearing c => if s.isOpen c then clearCase s c .procedure else (s, [])
  | .close c reason => closeCase s c reason
  | .arbitrate => arbitrate s
  | .panelLogged p logged => panelLogged s p logged
  | .panelRequest p toggle request serial => panelRequest s p toggle request serial
  | .panelHold p hold press => panelHold s p hold press
  | .panelInputs p inputs => panelInputs s p inputs
  | .panelSilent p => panelSilent s p
  | .clearPanel p => clearPanel s p
  | .crewLeft p tag => crewLeft s p tag
  | .crewLogin p tag => crewLogin s p tag
  | .loginArrival p k => loginArrival s p k
  | .releaseCrewLeft c p k => releaseCrewLeft s c p k
  | .holdChange c p was hold press => (holdChange s c p was hold press, [])
  | .sharedEval i => sharedEval s i
  | .releaseReset c l => releaseReset s c l
  | .resetLift i => resetLift s i
  | .enterLift i st => enterLift s i st
  | .restartLine l => restartLine s l

/-- The jobs of a handling are done in order, at most `fuel` of them, the jobs a job gives rise to before those behind it.
Before each, and at the end, a transmitter that is idle begins what waits for it (log 6). -/
def runJobs : Nat → List Job → State → Host.Outcome State Fault Refusal
  | 0, _, _ => .fault .cascadeTooLong
  | fuel + 1, jobs, s =>
    let begun := kick s
    match begun.2 ++ jobs with
    | [] => .next begun.1
    | j :: rest =>
      let done := perform begun.1 j
      runJobs fuel (done.2 ++ rest) done.1

/-- A handling is carried to its end. -/
def finish (w : Work) : Host.Outcome State Fault Refusal := runJobs Config.cascadeBudget w.2 w.1

end Sys2Proof.Machine
end

