-- ==== Sys2Proof/Machine/Formats.lean ====
section
/-! DEFINITION. The check of R172, and the received frames of chapter 11 read into their fields: line frames, trunk frames and
the bodies of MGMT, CONTROL and CREW frames. -/

namespace Sys2Proof.Machine

/-! ### The check (R172) -/

/-- One shift of the check register (R172). -/
def crcShift (r : BitVec 16) : BitVec 16 := if r.getLsbD 15 then (r <<< 1) ^^^ 0x1021#16 else r <<< 1

/-- The check register after eight shifts. -/
def crcShift8 (r : BitVec 16) : BitVec 16 :=
  crcShift (crcShift (crcShift (crcShift (crcShift (crcShift (crcShift (crcShift r)))))))

/-- One covered byte (R172). -/
def crcByte (r : BitVec 16) (b : Byte) : BitVec 16 := crcShift8 (r ^^^ (b.setWidth 16 <<< 8))

/-- The check over a list of bytes from an initial value (R172). -/
def crc (init : BitVec 16) (bytes : List Byte) : BitVec 16 := bytes.foldl crcByte init

/-- The check of a line frame. -/
def lineCrc (bytes : List Byte) : BitVec 16 := crc 0xFFFF#16 bytes
/-- The check of a trunk frame. -/
def trunkCrc (bytes : List Byte) : BitVec 16 := crc 0#16 bytes

/-- A check as its two bytes, high byte first. -/
def checkBytes (v : BitVec 16) : List Byte := [(v >>> 8).setWidth 8, v.setWidth 8]

/-! ### Numbers of several bytes, high byte first -/

/-- Two bytes as a number. -/
def num2 (a b : Byte) : Nat := a.toNat * 256 + b.toNat
/-- Three bytes as a number. -/
def num3 (a b c : Byte) : Nat := a.toNat * 65536 + b.toNat * 256 + c.toNat
/-- Two bytes as a 16-bit word. -/
def word2 (a b : Byte) : BitVec 16 := BitVec.ofNat 16 (num2 a b)
/-- Bit `n` of a byte. -/
def bitOf (b : Byte) (n : Nat) : Bool := b.getLsbD n

/-! ### Line frames from members (section 11.1) -/

/-- A car mode code. -/
def decodeCarMode : Nat → Option CarMode
  | 0 => some .normal
  | 1 => some .inhibited
  | 2 => some .maint
  | _ => none

/-- An occupancy code. -/
def decodeOccupancy : Nat → Option Occupancy
  | 0 => some .unknown
  | 1 => some .empty
  | 2 => some .occupied
  | _ => none

/-- A doors code. -/
def decodeDoors : Nat → Option Doors
  | 0 => some .closed
  | 1 => some .opened
  | 2 => some .obstructed
  | _ => none

/-- A crew request code, 1 to 10. -/
def decodeCrewRequest : Nat → Option CrewRequest
  | 1 => some .dutyOn
  | 2 => some .dutyOff
  | 3 => some .sweepOn
  | 4 => some .sweepOff
  | 5 => some .job
  | 6 => some .accept
  | 7 => some .decline
  | 8 => some .arrived
  | 9 => some .voice
  | 10 => some .standDown
  | _ => none

/-- The car record of a REPORT body; none where an enumerated code lies outside its list (R173). -/
def decodeReport (b0 b1 b2 b3 b4 b5 b6 b7 : Byte) : Option CarReport :=
  match decodeCarMode (b0.toNat / 64), decodeOccupancy (b6.toNat / 64), decodeDoors (b6.toNat / 16 % 4) with
  | some mode, some occupancy, some doors => some {
      mode := mode
      position := b0.toNat % 16 * 65536 + num2 b1 b2
      velocityCode := b3.toNat * 4 + b4.toNat / 64
      load := b5.toNat
      occupancy := occupancy
      doors := doors
      alarm := bitOf b6 3
      presses := b7.toNat / 16
      chainOpen := bitOf b6 2
      brakeLifted := bitOf b6 1
      echo := b7.toNat % 8 }
  | _, _, _ => none

/-- The panel report of a PANEL body; none for a logged crew tag of 255 or a request code of 11 to 15 (R173). -/
def decodePanel (b0 b1 b2 b3 b4 : Byte) : Option PanelReport :=
  let code := b1.toNat / 8 % 16
  if b0.toNat = 255 || 10 < code then none
  else some {
    logged := if b0.toNat = 0 then none else some b0.toNat
    toggle := bitOf b1 7
    request := decodeCrewRequest code
    serial := if bitOf b1 2 then some (word2 b2 b3) else none
    hold := bitOf b1 1
    pressNumber := b4.toNat / 32
    inputs := b4.setWidth 4 }

/-- The answer a car slot's window held, judged by R7. -/
def judgeCar (bytes : List Byte) : SlotAnswer :=
  match bytes with
  | [k, b0, b1, b2, b3, b4, b5, b6, b7, c0, c1] =>
    if k.toNat = 2 && lineCrc [k, b0, b1, b2, b3, b4, b5, b6, b7] == word2 c0 c1 then
      match decodeReport b0 b1 b2 b3 b4 b5 b6 b7 with
      | some r => .report r
      | none => .silent true
    else .silent true
  | _ => .silent true

/-- The answer a panel slot's window held, judged by R7. -/
def judgePanel (bytes : List Byte) : SlotAnswer :=
  match bytes with
  | [k, b0, b1, b2, b3, b4, c0, c1] =>
    if k.toNat = 3 && lineCrc [k, b0, b1, b2, b3, b4] == word2 c0 c1 then
      match decodePanel b0 b1 b2 b3 b4 with
      | some r => .panel r
      | none => .silent true
    else .silent true
  | _ => .silent true

/-- What a window held, judged (R7); a collision makes the slot silent with an error, whatever else it held (R14). -/
def judgeWindow (slot : Slot) (collided : Bool) (held : WindowHeld) : SlotAnswer :=
  if collided then .silent true
  else match held with
    | .nothing => .silent false
    | .unfinished => .silent true
    | .frame bytes => if slot.val < 16 then judgeCar bytes else judgePanel bytes

/-- The wake source of a burst in QUIET_IDLE: the slot of a well-formed WAKE, or UNKNOWN (R13). -/
def wakeSourceOf (burst : List Byte) : WakeSource :=
  match burst with
  | [k, b, c0, c1] =>
    if k.toNat = 5 && lineCrc [k, b] == word2 c0 c1 then
      match toIdx 20 (b.toNat % 32) with
      | some slot => .slot slot
      | none => .unknown
    else .unknown
  | _ => .unknown

/-! ### Trunk frames (section 11.2) -/

/-- A good trunk frame, read (R147). -/
structure TrunkFrame where
  destination : BitVec 16
  source : BitVec 16
  kind : Byte
  tag : BitVec 8
  body : List Byte
  deriving DecidableEq, Repr

/-- Whether the bytes after the header, and the check, are as the length and R172 demand (R147). -/
def trunkSound (bytes : List Byte) (len : Nat) : Bool :=
  len ≤ 250 && bytes.length == len + 9 && checkBytes (trunkCrc (bytes.take (len + 7))) == bytes.drop (len + 7)

/-- A received trunk frame; none where it is bad (R147). -/
def readTrunk (bytes : List Byte) : Option TrunkFrame :=
  match bytes with
  | d0 :: d1 :: s0 :: s1 :: kind :: tag :: len :: rest =>
    if trunkSound bytes len.toNat then some ⟨word2 d0 d1, word2 s0 s1, kind, tag, rest.take len.toNat⟩ else none
  | _ => none

/-! ### MGMT bodies (section 11.4) -/

/-- A MGMT request that decodes. -/
inductive MgmtRequest where
  | read (table index : Nat)
  | writeLift (index : Nat) (w : LiftWrite)
  | writePanel (index : Nat) (w : PanelWrite)
  | writeCrew (index : Nat) (w : CrewWrite)
  | writeClass (index : Nat) (w : ClassWrite)
  | writeTravel (index lo hi : Nat)
  | writeStep (index : Nat) (w : StepWrite)
  | writeSettings (index : Nat) (w : SettingsWrite)
  | setForward (index mode : Nat)
  | lineEnable (line : Nat)
  | lineDisable (line : Nat)
  | lineReset (line : Nat)
  | setBottom (index : Nat)
  | survey (crew : Nat)
  | caseOpen (identity : Nat)
  | caseClose (serial : BitVec 16)
  | readCase (record : Nat)
  | readCounters
  | warmRestart (force : Nat)
  deriving DecidableEq, Repr

/-- The heights of a lift record, three bytes each, and the bytes after them. -/
def takeHeights : Nat → List Byte → Option (List Nat × List Byte)
  | 0, rest => some ([], rest)
  | n + 1, a :: b :: c :: rest => (takeHeights n rest).map fun e => (num3 a b c :: e.1, e.2)
  | _ + 1, _ => none

/-- The fields of a lift record after its heights. -/
def decodeLiftTail (enabled identity : Nat) (hs : List Nat) : List Byte → Option LiftWrite
  | [d0, d1, creep, deb, sil, bal, s0, s1, r0, r1, r2, cap, c0, c1, c2, c3, c4, page, fwd] => some {
      enabled := enabled
      identity := identity
      landings := hs
      doorZone := num2 d0 d1
      creep := creep.toNat
      debounce := deb.toNat
      silence := sil.toNat
      balance := bal.toNat
      step := num2 s0 s1
      reach := num3 r0 r1 r2
      cap := cap.toNat
      stall := c0.toNat
      alarm := c1.toNat
      shared := c2.toNat
      silent := c3.toNat
      manual := c4.toNat
      page := page.toNat
      forwarding := fwd.toNat }
  | _ => none

/-- A lift record; none where the landing count disagrees with the length (R173). -/
def decodeLift : List Byte → Option LiftWrite
  | en :: i0 :: i1 :: n :: rest =>
    (takeHeights n.toNat rest).bind fun e => decodeLiftTail en.toNat (num2 i0 i1) e.1 e.2
  | _ => none

/-- One line's settings. -/
def decodeLineWrite (m c q0 q1 a : Byte) : LineWrite := ⟨m.toNat, c.toNat, num2 q0 q1, a.toNat⟩

/-- A sector settings record. -/
def decodeSettings : List Byte → Option SettingsWrite
  | [x0, x1, y0, y1, o0, o1, tie, t0, t1, a0, a1, a2, a3, a4, b0, b1, b2, b3, b4, c0, c1, c2, c3, c4,
      d0, d1, d2, d3, d4] =>
    some ⟨num2 x0 x1, num2 y0 y1, num2 o0 o1, tie.toNat, num2 t0 t1,
      #v[decodeLineWrite a0 a1 a2 a3 a4, decodeLineWrite b0 b1 b2 b3 b4, decodeLineWrite c0 c1 c2 c3 c4,
         decodeLineWrite d0 d1 d2 d3 d4]⟩
  | _ => none

/-- A WRITE, by its table byte; none for a table outside the seven or a record of another length (R161, R173). -/
def decodeWrite (table index : Nat) (record : List Byte) : Option MgmtRequest :=
  match table, record with
  | 0, bytes => (decodeLift bytes).map (.writeLift index)
  | 1, [e, a0, a1, b0, b1, c0, c1, d0, d1] =>
    some (.writePanel index ⟨e.toNat, num2 a0 a1, num2 b0 b1, num2 c0 c1, num2 d0 d1⟩)
  | 2, [e, t, c, p] => some (.writeCrew index ⟨e.toNat, t.toNat, c.toNat, p.toNat⟩)
  | 3, [b, i0, i1, c, st, l, n, a] =>
    some (.writeClass index ⟨b.toNat, num2 i0 i1, c.toNat, st.toNat, l.toNat, n.toNat, a.toNat⟩)
  | 4, [a0, a1, b0, b1] => some (.writeTravel index (num2 a0 a1) (num2 b0 b1))
  | 5, [a, g, l0, l1, b] => some (.writeStep index ⟨a.toNat, g.toNat, num2 l0 l1, b.toNat⟩)
  | 6, bytes => (decodeSettings bytes).map (.writeSettings index)
  | _, _ => none

/-- A MGMT body; none where it does not decode (R161, R173). -/
def decodeMgmt : List Byte → Option MgmtRequest
  | [] => none
  | kind :: rest =>
    match kind.toNat, rest with
    | 1, [t, i] => some (.read t.toNat i.toNat)
    | 2, t :: i :: record => decodeWrite t.toNat i.toNat record
    | 3, [i, m] => some (.setForward i.toNat m.toNat)
    | 4, [l] => some (.lineEnable l.toNat)
    | 5, [l] => some (.lineDisable l.toNat)
    | 6, [l] => some (.lineReset l.toNat)
    | 7, [i] => some (.setBottom i.toNat)
    | 8, [k] => some (.survey k.toNat)
    | 9, [a, b] => some (.caseOpen (num2 a b))
    | 10, [a, b] => some (.caseClose (word2 a b))
    | 11, [r] => some (.readCase r.toNat)
    | 12, [] => some .readCounters
    | 13, [f] => some (.warmRestart f.toNat)
    | _, _ => none

/-! ### CONTROL and CREW bodies (section 11.2) -/

/-- The command of a CONTROL body, with a byte of argument (R156); none outside the four kinds. The argument byte of INHIBIT
and RESTORE is not judged (log 30). -/
def decodeControlCommand : Nat → Nat → Option CarCommand
  | 1, _ => some .inhibit
  | 2, _ => some .restore
  | 3, n => some (.announce n)
  | 5, n => some (.service n)
  | _, _ => none

/-- A CONTROL body: the identity and the command. -/
def decodeControl : List Byte → Option (Nat × CarCommand)
  | [a, b, c, g] => (decodeControlCommand c.toNat g.toNat).map fun cmd => (num2 a b, cmd)
  | _ => none

/-- A CREW body after its tag: the request, where it decodes, and the serial. -/
def decodeCrewBody : List Byte → Option CrewRequest × Option (BitVec 16)
  | [c, f, a, b] => (decodeCrewRequest c.toNat, if bitOf f 0 then some (word2 a b) else none)
  | _ => (none, none)

end Sys2Proof.Machine
end

