-- ==== Sys2Proof/Machine/Requests.lean ====
section
/-! DEFINITION. The request handler (chapter 10): the reads and the writes of the seven tables. -/

namespace Sys2Proof.Machine

/-! ### Answers (R160) -/

/-- The request kinds of section 11.4, as the ANSWER carries them. -/
def kindRead : Byte := 1#8
/-- WRITE. -/
def kindWrite : Byte := 2#8
/-- SET_FORWARD. -/
def kindSetForward : Byte := 3#8
/-- LINE_ENABLE. -/
def kindLineEnable : Byte := 4#8
/-- LINE_DISABLE. -/
def kindLineDisable : Byte := 5#8
/-- LINE_RESET. -/
def kindLineReset : Byte := 6#8
/-- SET_BOTTOM. -/
def kindSetBottom : Byte := 7#8
/-- SURVEY. -/
def kindSurvey : Byte := 8#8
/-- CASE_OPEN. -/
def kindCaseOpen : Byte := 9#8
/-- CASE_CLOSE. -/
def kindCaseClose : Byte := 10#8
/-- READ_CASE. -/
def kindReadCase : Byte := 11#8
/-- READ_COUNTERS. -/
def kindReadCounters : Byte := 12#8
/-- WARM_RESTART. -/
def kindWarmRestart : Byte := 13#8

/-- A request refused, or done, with a code alone: the ANSWER is all it leaves. -/
def answered (s : State) (o : Origin) (kind : Byte) (code : AnswerCode) : Work := (s.answer o kind code .none, [])

/-! ### READ (R162) -/

/-- A crew record as READ carries it (R162). -/
def State.crewView (s : State) (k : CrewNo) : CrewView :=
  let w := s.crew k
  { config := w.config
    onDuty := w.dyn.onDuty
    sweep := w.dyn.sweep
    held := (s.heldOrder k).map fun c => (c, s.serialOf c)
    offer := w.dyn.offer.map fun o => (o.case, s.serialOf o.case, o.timer)
    offerLost := w.dyn.offerLost
    logged := w.dyn.logged
    implausible := w.dyn.implausible }

/-- A lift record as READ carries it: a stored nearest landing past the end of a shorter list is read as the highest
(R24, R162). -/
def Lift.view (r : Lift) : Lift :=
  { r with dyn := { r.dyn with nearest := min r.dyn.nearest (r.config.landings.length - 1) } }

/-- The record a READ carries; none for an index outside the table's range (R161, R162). -/
def State.readTable (s : State) (table index : Nat) : Option AnswerData :=
  match table with
  | 0 => (toIdx 64 index).map fun i => .lift (s.lift i).view
  | 1 => (toIdx 16 index).map fun p => .panel (s.panel p)
  | 2 => (toIdx 8 index).map fun k => .crew (s.crewView k)
  | 3 => (toIdx 5 index).map fun i => .classEntry s.classes[i.val]
  | 4 => (toIdx 16 index).map fun i => .travel s.travel[i.val]
  | 5 => (toIdx 256 index).map fun i => .step s.store[i.val]
  | 6 => (toIdx 1 index).map fun _ => .settings s.settings
  | _ => none

/-- READ (R161, R162). -/
def readRequest (s : State) (o : Origin) (table index : Nat) : Work :=
  if 6 < table then answered s o kindRead .badValue
  else match s.readTable table index with
    | some data => (s.answer o kindRead .ok data, [])
    | none => answered s o kindRead .badIndex

/-! ### WRITE (R163) -/

/-- The answer of an accepted write: CLAMPED with the record as stored, or OK (R163). -/
def stored (s : State) (o : Origin) (clamped : Bool) (echo : AnswerData) : State :=
  if clamped then s.answer o kindWrite .clamped echo else s.answer o kindWrite .ok .none

/-- The cause settings of a configuration as the set of its enabled causes (R26). -/
def LiftConfig.enabledCauses (g : LiftConfig) : CauseSet := .filter fun c => (g.cause c).enabled

/-- The causes of `a` that are in `b`. -/
def CauseSet.inter (a b : CauseSet) : CauseSet := .filter fun c => a.has c && b.has c

/-- What an accepted lift write does, by the enabled field before and after it (R36). A truth that it takes away leaves the set at
once; where a LINE_RESET has kept it, it stays kept, and is held again with its enable (R36, R46, log 34). -/
def applyLift (s : State) (i : LiftIdx) (g : LiftConfig) : Work :=
  let r := s.lift i
  let s1 := s.setLift i { r with config := g }
  let d := r.dyn
  match r.config.enabled, g.enabled with
  | false, false => (s1, [])
  | false, true =>
    let off := (s.line (lineOf i)).state = .off
    let entered := enterState s1 i (if off then .offline else .unseen)
    (entered.1, entered.2 ++ (if off then [] else [.lineWork (lineOf i)]))
  | true, false => enterState s1 i .disabled
  | true, true =>
    let on := g.enabledCauses
    (s1.setDyn i { d with truth := d.truth.inter on, latch := d.latch.inter on }, toldIf i d.truth (d.truth.inter on))

/-- WRITE_LIFT (R32 to R36, R161). -/
def writeLiftRequest (s : State) (o : Origin) (index : Nat) (w : LiftWrite) : Work :=
  if !w.decodes then answered s o kindWrite .badValue
  else match toIdx 64 index with
    | none => answered s o kindWrite .badIndex
    | some i =>
      if (s.lift i).dyn.openCase.isSome then answered s o kindWrite .locked
      else match w.config with
        | none => answered s o kindWrite .badValue
        | some g =>
          if s.identityTaken i w.identity then answered s o kindWrite .badValue
          else applyLift (stored s o (w.clamps g) (.liftEcho g)) i g

/-- Whether a case on a lift of the line holds a release record: the panel lock (R37, R127). -/
def State.releaseOn (s : State) (l : LineId) : Bool := (s.openOn l).any fun c => (s.caseAt c).release.isSome

/-- Whether a map names the slot in any input. -/
def mapNames (map : Vector (BitVec 16) 4) (slot : Fin 16) : Bool :=
  (List.finRange 4).any fun k => map[k.val].getLsbD slot.val

/-- What an accepted panel write does, by the enabled field before and after it (R37). A disabling write re-evaluates the
inputs that were active by the old map (log 25). A write enabled before and after re-evaluates by R37 also where its maps are
those it had, though R48 speaks of a changed map only (DESIGN CHOICE, log 36). -/
def applyPanel (s : State) (p : PanelIdx) (g : PanelConfig) : Work :=
  let r := s.panel p
  let l := panelLine p
  match r.config.enabled, g.enabled with
  | false, false => (s.setPanel p ⟨g, r.dyn⟩, [])
  | false, true =>
    (s.setPanel p ⟨g, r.dyn⟩, .clearPanel p :: (if (s.line l).state = .off then [] else [.lineWork l]))
  | true, false =>
    (s.setPanel p ⟨g, .cleared⟩, crewsLeaveJobs s [p] ++ inputChangeJobs p r.config.map r.dyn.inputs 0#4)
  | true, true =>
    (s.setPanel p ⟨g, r.dyn⟩, sharedJobs l fun slot => mapNames r.config.map slot || mapNames g.map slot)

/-- WRITE_PANEL (R37, R161). -/
def writePanelRequest (s : State) (o : Origin) (index : Nat) (w : PanelWrite) : Work :=
  match toIdx 16 index with
  | none => answered s o kindWrite .badIndex
  | some p =>
    if s.releaseOn (panelLine p) then answered s o kindWrite .locked
    else match w.config with
      | none => answered s o kindWrite .badValue
      | some g => applyPanel (s.answer o kindWrite .ok .none) p g

/-- What an accepted crew write does, by the enabled field before and after it (R87). -/
def applyCrew (s : State) (k : CrewNo) (g : CrewConfig) : State :=
  let w := s.crew k
  let d := w.dyn
  let found := s.findLogged g.tag
  s.setCrew k ⟨g, match w.config.enabled, g.enabled with
    | false, false => d
    | false, true => { d with onDuty := false, sweep := false, logged := found }
    | true, false => { d with onDuty := false, sweep := false, logged := none, offerLost := none }
    | true, true => if w.config.tag = g.tag then d else { d with logged := found }⟩

/-- Whether a crew record is locked: a held case or an outstanding offer (R86). -/
def Crew.locked (k : Crew) : Bool := !k.dyn.held.isEmpty || k.dyn.offer.isSome

/-- WRITE_CREW (R86, R87, R161). -/
def writeCrewRequest (s : State) (o : Origin) (index : Nat) (w : CrewWrite) : Work :=
  if !w.decodes then answered s o kindWrite .badValue
  else match toIdx 8 index with
    | none => answered s o kindWrite .badIndex
    | some k =>
      if (s.crew k).locked then answered s o kindWrite .locked
      else match w.config with
        | none => answered s o kindWrite .badValue
        | some g =>
          if s.tagTaken k w.tag then answered s o kindWrite .badValue
          else (applyCrew (stored s o (g.post.val != w.post) (.crewEcho g)) k g, [])

/-- WRITE_CLASS (R60, R161). -/
def writeClassRequest (s : State) (o : Origin) (index : Nat) (w : ClassWrite) : Work :=
  match toIdx 5 index with
  | none => answered s o kindWrite .badIndex
  | some i =>
    if s.anyOpen then answered s o kindWrite .locked
    else match w.entry with
      | none => answered s o kindWrite .badValue
      | some e =>
        (stored { s with classes := s.classes.set i.val e } o (w.clamps e) (.classEntry e), [])

/-- WRITE_TRAVEL (R91, R161). -/
def writeTravelRequest (s : State) (o : Origin) (index lo hi : Nat) : Work :=
  match toIdx 16 index with
  | none => answered s o kindWrite .badIndex
  | some i =>
    let t := travelStored lo hi
    (stored { s with travel := s.travel.set i.val t } o (t.min != lo || t.max != hi) (.travel t), [])

/-- Whether a page of the procedure store is locked (R109). -/
def State.pageLocked (s : State) (page : Nat) : Bool :=
  s.openRecords.any fun c => (s.caseAt c).procedure.ownPage.val == page || page == 15

/-- WRITE_STEP (R109, R161). -/
def writeStepRequest (s : State) (o : Origin) (index : Nat) (w : StepWrite) : Work :=
  match toIdx 256 index with
  | none => answered s o kindWrite .badIndex
  | some i =>
    if s.pageLocked (i.val / 16) then answered s o kindWrite .locked
    else (({ s with store := s.store.set i.val w.record }).answer o kindWrite .ok .none, [])

/-- WRITE_SECTOR_SETTINGS (R164, R143, R161); a default mode of CONTINUOUS ends the line's QUIET_IDLE (R3). -/
def writeSettingsRequest (s : State) (o : Origin) (index : Nat) (w : SettingsWrite) : Work :=
  if index ≠ 0 then answered s o kindWrite .badIndex
  else match w.settings with
    | none => answered s o kindWrite .badValue
    | some v =>
      (stored { s with settings := v } o (w.clamps v) (.settings v),
       ((List.finRange 4).filter fun l => v.lines[l.val].defaultMode == .continuous).map .lineWork)

/-- SET_FORWARD (R27); a mode outside its list does not decode, so it is judged before the index (R161, R173, log 18). -/
def setForwardRequest (s : State) (o : Origin) (index mode : Nat) : Work :=
  match decodeForwarding mode, toIdx 64 index with
  | none, _ => answered s o kindSetForward .badValue
  | some _, none => answered s o kindSetForward .badIndex
  | some m, some i =>
    let r := s.lift i
    answered (s.setLift i { r with config := { r.config with forwarding := m } }) o kindSetForward .ok

end Sys2Proof.Machine
end

