-- ==== Sys2Proof/Machine/Handler.lean ====
section
/-! DEFINITION. The request handler (chapters 9 and 10): requests on lines, cases and counters, the warm restart, CONTROL
frames, and what a taken downstream frame comes to. -/

namespace Sys2Proof.Machine

/-! ### Lines (R165) -/

/-- LINE_ENABLE (R19, R165). -/
def lineEnableRequest (s : State) (o : Origin) (line : Nat) : Work :=
  match toIdx 4 line with
  | none => answered s o kindLineEnable .badIndex
  | some l => (s.answer o kindLineEnable .ok .none, if (s.line l).state = .off then enableJobs s l else [])

/-- LINE_DISABLE (R20, R165). -/
def lineDisableRequest (s : State) (o : Origin) (line : Nat) : Work :=
  match toIdx 4 line with
  | none => answered s o kindLineDisable .badIndex
  | some l =>
    if (s.line l).state = .off then answered s o kindLineDisable .ok
    else if !(s.openOn l).isEmpty then answered s o kindLineDisable .busy
    else (offLine (s.answer o kindLineDisable .ok .none) l, disableJobs s l)

/-- LINE_RESET (R21, R165). -/
def lineResetRequest (s : State) (o : Origin) (line : Nat) : Work :=
  match toIdx 4 line with
  | none => answered s o kindLineReset .badIndex
  | some l =>
    if (s.line l).state = .off then answered s o kindLineReset .wrongState
    else resetLine (s.answer o kindLineReset .ok .none) l

/-! ### The arbiter's requests -/

/-- SET_BOTTOM (R92). -/
def setBottomRequest (s : State) (o : Origin) (index : Nat) : Work :=
  match toIdx 64 index with
  | none => answered s o kindSetBottom .badIndex
  | some i => answered (s.toBottom i) o kindSetBottom .ok

/-- The answer of SURVEY (R107): its code and data. -/
def State.surveyed (s : State) (k : CrewNo) : AnswerCode × AnswerData :=
  let w := s.crew k
  let offered (c : CaseNo) : AnswerCode × AnswerData :=
    let f := s.offerInfo c
    (.offer, .surveyed (s.serialOf c) f.identity f.urgency f.line.val)
  if !w.config.enabled then (.badIndex, .none)
  else if !w.dyn.onDuty then (.wrongState, .none)
  else match w.dyn.offer with
    | some x => offered x.case
    | none =>
      match s.choice k with
      | some c => offered c
      | none => (.noCase, .none)

/-- SURVEY (R107). -/
def surveyRequest (s : State) (o : Origin) (crew : Nat) : Work :=
  match toIdx 8 crew with
  | none => answered s o kindSurvey .badIndex
  | some k => (s.answer o kindSurvey (s.surveyed k).1 (s.surveyed k).2, [])

/-! ### Cases (R166 to R168) -/

/-- MANUAL alone. -/
def CauseSet.manualOnly : CauseSet := ⟨false, false, false, false, true⟩

/-- The answer of a CASE_OPEN whose tests pass (R166): the case that a raise of MANUAL opens or joins, or QUEUED. -/
def State.openingAnswer (s : State) (i : LiftIdx) : AnswerCode × AnswerData :=
  match (s.lift i).dyn.openCase, s.lowestFree with
  | some c, _ => (.ok, .named (s.serialOf c) c)
  | none, some c => (.ok, .named s.serial c)
  | none, none => (.queued, .none)

/-- CASE_OPEN (R166). -/
def caseOpenRequest (s : State) (o : Origin) (identity : Nat) : Work :=
  match s.resolveIdentity identity with
  | none => answered s o kindCaseOpen .badIndex
  | some i =>
    if !(s.lift i).config.manual.enabled || (s.lift i).dyn.state = .offline then answered s o kindCaseOpen .wrongState
    else raise (s.answer o kindCaseOpen (s.openingAnswer i).1 (s.openingAnswer i).2) i .manualOnly

/-- CASE_CLOSE (R167, R79). -/
def caseCloseRequest (s : State) (o : Origin) (serial : BitVec 16) : Work :=
  match s.resolveSerial serial with
  | none => answered s o kindCaseClose .badIndex
  | some c => closeCase (s.answer o kindCaseClose .ok (.named serial c)) c .centre

/-- READ_CASE (R168). -/
def readCaseRequest (s : State) (o : Origin) (record : Nat) : Work :=
  match toIdx 16 record with
  | none => answered s o kindReadCase .badIndex
  | some c => (s.answer o kindReadCase .ok (.case (s.caseAt c) (s.identityOf (s.caseAt c).lift)), [])

/-! ### Counters (R169) -/

/-- The counters of one line (R169). -/
def Line.counters (r : Line) : LineCounters :=
  ⟨r.state, r.mode, r.cycleNumber, r.errors, r.cycles, r.routine.length, (r.answers.toList.filter Option.isSome).length⟩

/-- How many case records are in the state. -/
def State.countRecords (s : State) (st : RecordState) : Nat :=
  ((List.finRange 16).filter fun c => (s.caseAt c).record == st).length

/-- The values of READ_COUNTERS (R169). -/
def State.counters (s : State) : CountersView where
  lines := s.lines.map Line.counters
  nearUp := s.trunk.nearUp
  farUp := s.trunk.farUp
  trunk := s.trunk.counters
  forward := s.trunk.forward.length
  relay := s.trunk.relay.length
  own := s.trunk.own.length
  sequence := s.trunk.sequence
  stamp := s.stamp
  serial := s.serial
  openCases := s.countRecords .opened
  closingCases := s.countRecords .closing
  someLatch := s.someLatch
  implausible := s.crews.map fun k => k.dyn.implausible

/-- READ_COUNTERS (R169). -/
def readCountersRequest (s : State) (o : Origin) : Work := (s.answer o kindReadCounters .ok (.counters s.counters), [])

/-! ### Warm restart (R171) -/

/-- A line after a warm restart, before the START of an enabled one (R22). -/
def Line.restarted (r : Line) : Line :=
  { r with
    state := if r.state = .off then .off else .cycle
    cycleNumber := 0#8, mode := .continuous, slotSet := [], currentSlot := none, collided := false
    intervalTimer := .stopped, ceilingTimer := .stopped
    routine := [], answers := Vector.replicate 4 none, errors := 0, cycles := 0#32 }

/-- The lift state a warm restart gives (R29). -/
def State.restartState (s : State) (i : LiftIdx) : LiftState :=
  if !(s.lift i).config.enabled then .disabled
  else if (s.line (lineOf i)).state = .off then .offline
  else .unseen

/-- A crew after a warm restart (R84). -/
def Crew.restarted (k : Crew) : Crew := ⟨k.config, ⟨false, false, [], none, none, none, k.dyn.implausible⟩⟩

/-- The port after a warm restart (R159). -/
def Trunk.restarted (t : Trunk) : Trunk :=
  { t with own := [], relay := [], forward := [], counters := .zero, sequence := 0#8, turn := .relay }

/-- Every block at its cleared values, the tables kept (R171). -/
def State.restarted (s : State) : State :=
  { s with
    lamp := false
    lines := s.lines.map Line.restarted
    lifts := tab fun i => ⟨(s.lift i).config, .entered (s.restartState i)⟩
    panels := s.panels.map fun (p : Panel) => ⟨p.config, .cleared⟩
    cases := Vector.replicate 16 .free
    crews := s.crews.map Crew.restarted
    trunk := s.trunk.restarted }

/-- The records a warm restart ends: those OPEN or CLOSING, ascending (R81). -/
def State.endedRecords (s : State) : List CaseNo := (List.finRange 16).filter fun c => (s.caseAt c).record != .free

/-- The RESTARTED notice (R81, R82). -/
def State.restartNotice (s : State) : Notice :=
  ⟨.restarted, none, none, s.stamp, none, none, .serials (s.endedRecords.map s.serialOf)⟩

/-- A warm restart that is carried out (R171): RESTARTED, the ANSWER, and the STARTs of the enabled lines. -/
def restart (s : State) (o : Origin) : Work :=
  let s1 := s.restarted.offerLoose (.notice s.restartNotice)
  (s1.answer o kindWarmRestart .ok (.ended s.endedRecords.length),
   ((List.finRange 4).filter fun l => (s.line l).state != .off).map .restartLine)

/-- WARM_RESTART (R170, R80, R161). -/
def warmRestartRequest (s : State) (o : Origin) (force : Nat) : Work :=
  match decodeYesNo force with
  | none => answered s o kindWarmRestart .badValue
  | some forced => if !forced && s.anyOpen then answered s o kindWarmRestart .busy else restart s o

/-! ### CONTROL frames (R156) -/

/-- The command is of a kind that an open case locks out (R156). -/
def CarCommand.lockedByCase : CarCommand → Bool
  | .inhibit => false
  | .announce _ => false
  | .restore => true
  | .service _ => true
  | .brakePulse _ _ => true

/-- An ANNOUNCE message is at most 15 (R156). -/
def CarCommand.inRange : CarCommand → Bool
  | .announce n => n ≤ 15
  | .inhibit => true
  | .restore => true
  | .service _ => true
  | .brakePulse _ _ => true

/-- The tests of R156 in their order. -/
def State.controlCode (s : State) (identity : Nat) (cmd : CarCommand) : AnswerCode :=
  if !cmd.inRange then .badValue
  else match s.resolveIdentity identity with
    | none => .badIndex
    | some i =>
      if (s.line (lineOf i)).state = .off then .wrongState
      else if cmd.lockedByCase && (s.lift i).dyn.openCase.isSome then .locked
      else if (s.line (lineOf i)).routine.length < Config.routineCapacity then .queued
      else .full

/-- A command joins the tail of a routine queue (R17). -/
def enqueue (s : State) (i : LiftIdx) (cmd : CarCommand) : State :=
  let r := s.line (lineOf i)
  s.setLine (lineOf i) { r with routine := r.routine ++ [⟨carSlotOf i, cmd⟩] }

/-- The ANSWER to a CONTROL frame: the spec gives its request-kind byte no value, so it is a free one (log 10). -/
def answerControl (s : State) (o : Origin) (code : AnswerCode) : State := s.drawFree.2.answer o s.drawFree.1 code .none

/-- A CONTROL frame whose body decodes (R156). -/
def controlRequest (s : State) (o : Origin) (identity : Nat) (cmd : CarCommand) : Work :=
  let s1 := answerControl s o (s.controlCode identity cmd)
  match s.controlCode identity cmd, s.resolveIdentity identity with
  | .queued, some i => (enqueue s1 i cmd, [.lineWork (lineOf i)])
  | _, _ => (s1, [])

/-! ### A taken downstream frame (R148) -/

/-- A MGMT request that decodes, by the rule that owns it. -/
def manage (s : State) (o : Origin) : MgmtRequest → Work
  | .read table index => readRequest s o table index
  | .writeLift index w => writeLiftRequest s o index w
  | .writePanel index w => writePanelRequest s o index w
  | .writeCrew index w => writeCrewRequest s o index w
  | .writeClass index w => writeClassRequest s o index w
  | .writeTravel index lo hi => writeTravelRequest s o index lo hi
  | .writeStep index w => writeStepRequest s o index w
  | .writeSettings index w => writeSettingsRequest s o index w
  | .setForward index mode => setForwardRequest s o index mode
  | .lineEnable line => lineEnableRequest s o line
  | .lineDisable line => lineDisableRequest s o line
  | .lineReset line => lineResetRequest s o line
  | .setBottom index => setBottomRequest s o index
  | .survey crew => surveyRequest s o crew
  | .caseOpen identity => caseOpenRequest s o identity
  | .caseClose serial => caseCloseRequest s o serial
  | .readCase record => readCaseRequest s o record
  | .readCounters => readCountersRequest s o
  | .warmRestart force => warmRestartRequest s o force

/-- A MGMT frame (R160, R161); a body with no kind byte leaves the answer's kind byte free (log 10). -/
def mgmtFrame (s : State) (o : Origin) (body : List Byte) : Work :=
  match decodeMgmt body with
  | some r => manage s o r
  | none =>
    match body with
    | kind :: _ => answered s o kind .badValue
    | [] => answered s.drawFree.2 o s.drawFree.1 .badValue

/-- A CONTROL frame (R156). -/
def controlFrame (s : State) (o : Origin) (body : List Byte) : Work :=
  match decodeControl body with
  | some (identity, cmd) => controlRequest s o identity cmd
  | none => (answerControl s o .badValue, [])

/-- A CREW frame (R89, R173); a body with no tag is answered BAD_VALUE with a free tag (log 10). -/
def crewFrame (s : State) (o : Origin) (body : List Byte) : Work :=
  match body with
  | tag :: rest =>
    let d := decodeCrewBody rest
    crewRequest s (.trunk o) tag.toNat d.1 d.2
  | [] => (s.drawFree.2.offerAnswer o (.crewAnswer .badValue s.drawFree.1 none none), [])

/-- A frame taken for this gateway, by its kind (R148). -/
def takeFrame (s : State) (f : TrunkFrame) : Work :=
  let o : Origin := ⟨f.source, f.tag⟩
  match f.kind.toNat with
  | 1 => mgmtFrame s o f.body
  | 2 => controlFrame s o f.body
  | 3 => crewFrame s o f.body
  | _ => (countNearKind s, [])

/-- A frame received on NEAR (R147, R148): a side receives only while UP. A good broadcast frame is offered to the forward queue
first and acted on then, no transmission beginning between the two (DESIGN CHOICE, log 39). -/
def nearFrame (s : State) (bytes : List Byte) : Work :=
  if s.trunk.nearUp then
    match readTrunk bytes with
    | none => (countNearCheck s, [])
    | some f =>
      if f.destination = s.sector then takeFrame s f
      else if f.destination = Config.broadcast then takeFrame (offerForward s bytes) f
      else (offerForward s bytes, [])
  else (s, [])

/-- A frame received on FAR (R147, R150). -/
def farFrame (s : State) (bytes : List Byte) : State :=
  if s.trunk.farUp then
    match readTrunk bytes with
    | none => countFarCheck s
    | some _ => offerRelay s bytes
  else s

end Sys2Proof.Machine
end

