-- ==== Sys2Proof/Machine/ControlCommands.lean ====
section
/-! DEFINITION. The four CONTROL commands. -/

namespace Sys2Proof.Machine

/-- CONTROL with INHIBIT (R156). -/
def execControlInhibit (o : Origin) (identity : Nat) (s : State) : Host.Outcome State Fault Refusal :=
  finish (controlRequest s o identity .inhibit)

/-- CONTROL with RESTORE (R156). -/
def execControlRestore (o : Origin) (identity : Nat) (s : State) : Host.Outcome State Fault Refusal :=
  finish (controlRequest s o identity .restore)

/-- CONTROL with ANNOUNCE (R156). -/
def execControlAnnounce (o : Origin) (identity message : Nat) (s : State) : Host.Outcome State Fault Refusal :=
  finish (controlRequest s o identity (.announce message))

/-- CONTROL with SERVICE (R156). -/
def execControlService (o : Origin) (identity code : Nat) (s : State) : Host.Outcome State Fault Refusal :=
  finish (controlRequest s o identity (.service code))

end Sys2Proof.Machine
end

