-- ==== Sys2Proof/Machine/CrewCommands.lean ====
section
/-! DEFINITION. The ten crew requests as commands, by either route (section 5.3). -/

namespace Sys2Proof.Machine

/-- DUTY_ON (R90). -/
def execDutyOn (r : Route) (tag : Nat) (s : State) : Host.Outcome State Fault Refusal :=
  finish (crewRequest s r tag (some .dutyOn) none)

/-- DUTY_OFF (R90). -/
def execDutyOff (r : Route) (tag : Nat) (s : State) : Host.Outcome State Fault Refusal :=
  finish (crewRequest s r tag (some .dutyOff) none)

/-- SWEEP_ON (R90). -/
def execSweepOn (r : Route) (tag : Nat) (s : State) : Host.Outcome State Fault Refusal :=
  finish (crewRequest s r tag (some .sweepOn) none)

/-- SWEEP_OFF (R90). -/
def execSweepOff (r : Route) (tag : Nat) (s : State) : Host.Outcome State Fault Refusal :=
  finish (crewRequest s r tag (some .sweepOff) none)

/-- JOB (R93). -/
def execJob (r : Route) (tag : Nat) (s : State) : Host.Outcome State Fault Refusal :=
  finish (crewRequest s r tag (some .job) none)

/-- ACCEPT (R96). -/
def execAccept (r : Route) (tag : Nat) (serial : Option (BitVec 16)) (s : State) : Host.Outcome State Fault Refusal :=
  finish (crewRequest s r tag (some .accept) serial)

/-- DECLINE (R97). -/
def execDecline (r : Route) (tag : Nat) (serial : Option (BitVec 16)) (s : State) : Host.Outcome State Fault Refusal :=
  finish (crewRequest s r tag (some .decline) serial)

/-- ARRIVED (R103). -/
def execArrived (r : Route) (tag : Nat) (serial : Option (BitVec 16)) (s : State) : Host.Outcome State Fault Refusal :=
  finish (crewRequest s r tag (some .arrived) serial)

/-- VOICE (R105). -/
def execVoice (r : Route) (tag : Nat) (serial : Option (BitVec 16)) (s : State) : Host.Outcome State Fault Refusal :=
  finish (crewRequest s r tag (some .voice) serial)

/-- STAND_DOWN (R106). -/
def execStandDown (r : Route) (tag : Nat) (serial : Option (BitVec 16)) (s : State) : Host.Outcome State Fault Refusal :=
  finish (crewRequest s r tag (some .standDown) serial)

end Sys2Proof.Machine
end

