-- ==== Sys2Proof/Machine/LineCommands.lean ====
section
/-! DEFINITION. The commands a lift line brings: the close of an answer window, and wakes. -/

namespace Sys2Proof.Machine

/-- ANSWER_WINDOW_CLOSE (R7): the open window's slot is judged. With no window open there is nothing to close (log 26). -/
def execAnswerWindowClose (l : LineId) (held : WindowHeld) (s : State) : Host.Outcome State Fault Refusal :=
  let r := s.line l
  match r.state, r.currentSlot with
  | .cycle, some slot => finish (closeWindow s l slot (judgeWindow slot r.collided held))
  | _, _ => .next s

/-- A burst collides with the window that is open, whose slot is judged as its window closes (R14, log 3). -/
def collide (s : State) (l : LineId) : State :=
  let r := s.line l
  if r.state = .cycle && r.currentSlot.isSome then s.setLine l { r with collided := true } else s

/-- WAKE (R13): in QUIET_IDLE the line starts, naming the slot or UNKNOWN; in WAIT_INTERVAL the burst is ignored (R12); in
CYCLE it is a wake burst (R14); in OFF nothing is received (section 1.4). -/
def execWake (l : LineId) (burst : List Byte) (s : State) : Host.Outcome State Fault Refusal :=
  if (s.line l).state = .quietIdle then finish (s, [.start l (some (wakeSourceOf burst))]) else .next (collide s l)

/-- WAKE_BURST_IN_CYCLE (R14). -/
def execWakeBurstInCycle (l : LineId) (s : State) : Host.Outcome State Fault Refusal := .next (collide s l)

end Sys2Proof.Machine
end

