-- ==== Sys2Proof/Machine/ManagementCommands.lean ====
section
/-! DEFINITION. The nineteen management requests as commands, each handled whole and carried to its end. -/

namespace Sys2Proof.Machine

/-- READ (R162). -/
def execRead (o : Origin) (table index : Nat) (s : State) : Host.Outcome State Fault Refusal :=
  finish (readRequest s o table index)

/-- WRITE_LIFT (R32). -/
def execWriteLift (o : Origin) (index : Nat) (w : LiftWrite) (s : State) : Host.Outcome State Fault Refusal :=
  finish (writeLiftRequest s o index w)

/-- WRITE_PANEL (R37). -/
def execWritePanel (o : Origin) (index : Nat) (w : PanelWrite) (s : State) : Host.Outcome State Fault Refusal :=
  finish (writePanelRequest s o index w)

/-- WRITE_CREW (R86). -/
def execWriteCrew (o : Origin) (index : Nat) (w : CrewWrite) (s : State) : Host.Outcome State Fault Refusal :=
  finish (writeCrewRequest s o index w)

/-- WRITE_CLASS (R60). -/
def execWriteClass (o : Origin) (index : Nat) (w : ClassWrite) (s : State) : Host.Outcome State Fault Refusal :=
  finish (writeClassRequest s o index w)

/-- WRITE_TRAVEL (R91). -/
def execWriteTravel (o : Origin) (index lo hi : Nat) (s : State) : Host.Outcome State Fault Refusal :=
  finish (writeTravelRequest s o index lo hi)

/-- WRITE_STEP (R109). -/
def execWriteStep (o : Origin) (index : Nat) (w : StepWrite) (s : State) : Host.Outcome State Fault Refusal :=
  finish (writeStepRequest s o index w)

/-- WRITE_SECTOR_SETTINGS (R164). -/
def execWriteSectorSettings (o : Origin) (index : Nat) (w : SettingsWrite) (s : State) : Host.Outcome State Fault Refusal :=
  finish (writeSettingsRequest s o index w)

/-- SET_FORWARD (R27). -/
def execSetForward (o : Origin) (index mode : Nat) (s : State) : Host.Outcome State Fault Refusal :=
  finish (setForwardRequest s o index mode)

/-- LINE_ENABLE (R19). -/
def execLineEnable (o : Origin) (line : Nat) (s : State) : Host.Outcome State Fault Refusal :=
  finish (lineEnableRequest s o line)

/-- LINE_DISABLE (R20). -/
def execLineDisable (o : Origin) (line : Nat) (s : State) : Host.Outcome State Fault Refusal :=
  finish (lineDisableRequest s o line)

/-- LINE_RESET (R21). -/
def execLineReset (o : Origin) (line : Nat) (s : State) : Host.Outcome State Fault Refusal :=
  finish (lineResetRequest s o line)

/-- SET_BOTTOM (R92). -/
def execSetBottom (o : Origin) (index : Nat) (s : State) : Host.Outcome State Fault Refusal :=
  finish (setBottomRequest s o index)

/-- SURVEY (R107). -/
def execSurvey (o : Origin) (crew : Nat) (s : State) : Host.Outcome State Fault Refusal :=
  finish (surveyRequest s o crew)

/-- CASE_OPEN (R166). -/
def execCaseOpen (o : Origin) (identity : Nat) (s : State) : Host.Outcome State Fault Refusal :=
  finish (caseOpenRequest s o identity)

/-- CASE_CLOSE (R167). -/
def execCaseClose (o : Origin) (serial : BitVec 16) (s : State) : Host.Outcome State Fault Refusal :=
  finish (caseCloseRequest s o serial)

/-- READ_CASE (R168). -/
def execReadCase (o : Origin) (record : Nat) (s : State) : Host.Outcome State Fault Refusal :=
  finish (readCaseRequest s o record)

/-- READ_COUNTERS (R169). -/
def execReadCounters (o : Origin) (s : State) : Host.Outcome State Fault Refusal := finish (readCountersRequest s o)

/-- WARM_RESTART (R171). -/
def execWarmRestart (o : Origin) (force : Nat) (s : State) : Host.Outcome State Fault Refusal :=
  finish (warmRestartRequest s o force)

end Sys2Proof.Machine
end

