-- ==== Sys2Proof/Machine/TimeCommands.lean ====
section
/-! DEFINITION. The commands of the pins and the time base: power-on reset, straps, carries, ticks, and the expiries of the
eight sector timers. An expiry acts only where its timer is due (R145, log 1). -/

namespace Sys2Proof.Machine

/-- POWER_ON_RESET: every block at its power-on values (R142, 00_scope 5); the straps and the link states follow their pins
(log 21). -/
def execPowerOnReset (s : State) : Host.Outcome State Fault Refusal :=
  .next (.powerOn s.straps s.trunk.nearUp s.trunk.farUp s.freeDraws s.pending)

/-- STRAP_CHANGE (R158). -/
def execStrapChange (address : BitVec 12) (s : State) : Host.Outcome State Fault Refusal :=
  .next { s with straps := address }

/-! ### The tick (R142 to R145) -/

/-- The timers of a line count one tick. -/
def Line.tick (r : Line) : Line := { r with intervalTimer := r.intervalTimer.tick, ceilingTimer := r.ceilingTimer.tick }

/-- The timers of a case count one tick. -/
def Case.tick (r : Case) : Case :=
  { r with
    escalation := r.escalation.tick
    procedure := { r.procedure with timer := r.procedure.timer.tick }
    release := r.release.map fun q => { q with settle := q.settle.tick }
    window := { r.window with minTimer := r.window.minTimer.tick, maxTimer := r.window.maxTimer.tick } }

/-- The offer timer of a crew counts one tick. -/
def Crew.tick (k : Crew) : Crew :=
  { k with dyn := { k.dyn with offer := k.dyn.offer.map fun o => { o with timer := o.timer.tick } } }

/-- The time base after a tick's end (R142, R143). -/
def TimeBase.tick (t : TimeBase) (d1 d2 : Nat) : TimeBase := ⟨d1, d2, 0, 0, false, t.stamp + 1⟩

/-- The end of the tick in progress (R142). -/
def State.tick (s : State) : State :=
  { s with
    time := s.time.tick s.settings.d1 s.settings.d2
    lines := s.lines.map Line.tick
    cases := s.cases.map Case.tick
    crews := s.crews.map Crew.tick }

/-- The next carry is the running D2-th of the tick in progress (R142). -/
def TimeBase.lastCarry (t : TimeBase) : Bool := t.runningD2 ≤ t.secondStage + 1

/-- A carry of the first stage, which starts again from 0: the second stage counts it, and at the running D2-th the tick in
progress ends (R142). -/
def State.carry (s : State) : State :=
  if s.time.lastCarry then s.tick
  else { s with time := { s.time with firstStage := 0, secondStage := s.time.secondStage + 1, tickDue := false } }

/-- FIRST_STAGE_CARRY (R142). Where it ends the tick, the table's TICK_END that reports that same end is still due (log 2). -/
def execFirstStageCarry (s : State) : Host.Outcome State Fault Refusal :=
  let t := s.carry
  .next { t with time := { t.time with tickDue := s.time.lastCarry } }

/-- TICK_END (R142, R145). An end that a carry has already taken is only reported; otherwise the reference clock runs on to the
end of the tick in progress (log 2). -/
def execTickEnd (s : State) : Host.Outcome State Fault Refusal :=
  .next (if s.time.tickDue then { s with time := { s.time with tickDue := false } } else s.tick)

/-- One period of the reference clock: the first stage counts it, and makes a carry when it has counted running D1 (R142). -/
def State.clockPeriod (s : State) : State :=
  if s.time.runningD1 ≤ s.time.firstStage + 1 then s.carry
  else { s with time := { s.time with firstStage := s.time.firstStage + 1 } }

/-! ### Expiries of a line's timers (R12, R13) -/

/-- INTERVAL_TIMER_EXPIRY (R12). -/
def execIntervalTimerExpiry (l : LineId) (s : State) : Host.Outcome State Fault Refusal :=
  let r := s.line l
  if r.intervalTimer = .due then
    finish (s.setLine l { r with intervalTimer := .stopped }, if r.state = .waitInterval then [.start l none] else [])
  else .next s

/-- CEILING_TIMER_EXPIRY (R13). -/
def execCeilingTimerExpiry (l : LineId) (s : State) : Host.Outcome State Fault Refusal :=
  let r := s.line l
  if r.ceilingTimer = .due then
    finish (s.setLine l { r with ceilingTimer := .stopped }, if r.state = .quietIdle then [.start l none] else [])
  else .next s

/-! ### Expiries of a case's and a crew's timers -/

/-- ESCALATION_TIMER_EXPIRY (R71). -/
def execEscalationTimerExpiry (c : CaseNo) (s : State) : Host.Outcome State Fault Refusal :=
  if s.isOpen c && (s.caseAt c).escalation = .due then finish (escalate s c) else .next s

/-- OFFER_TIMER_EXPIRY (R98). -/
def execOfferTimerExpiry (k : CrewNo) (s : State) : Host.Outcome State Fault Refusal :=
  match (s.crew k).dyn.offer with
  | some o => if o.timer = .due then finish (offerExpired s k o.case, []) else .next s
  | none => .next s

/-- MIN_TIMER_EXPIRY (R102). -/
def execMinTimerExpiry (c : CaseNo) (s : State) : Host.Outcome State Fault Refusal :=
  let r := s.caseAt c
  if r.window.minTimer = .due then
    .next (s.setCase c { r with window := { r.window with minTimer := .stopped, minRunOut := true } })
  else .next s

/-- MAX_TIMER_EXPIRY (R102, R104). -/
def execMaxTimerExpiry (c : CaseNo) (s : State) : Host.Outcome State Fault Refusal :=
  let r := s.caseAt c
  if r.window.maxTimer = .due then
    let s1 := s.setCase c { r with window := { r.window with maxTimer := .stopped, maxRunOut := true } }
    finish (if s.isOpen c && r.dispatch = .assigned then becomeLate s1 c else s1, [])
  else .next s

/-- STEP_TIMER_EXPIRY (R111). -/
def execStepTimerExpiry (c : CaseNo) (s : State) : Host.Outcome State Fault Refusal :=
  let p := (s.caseAt c).procedure
  if s.isOpen c && p.status = .running && p.timer = .due then finish (stepExpired s c) else .next s

/-- SETTLE_TIMER_EXPIRY (R136). -/
def execSettleTimerExpiry (c : CaseNo) (s : State) : Host.Outcome State Fault Refusal :=
  match (s.caseAt c).release with
  | some q =>
    if s.isOpen c && q.sub = .settling && q.settle = .due then finish (settleExpired s c) else .next s
  | none => .next s

end Sys2Proof.Machine
end

