-- ==== Sys2Proof/Machine/TrunkCommands.lean ====
section
/-! DEFINITION. The commands the trunk brings: frames received, link states, and the ends of transmissions. -/

namespace Sys2Proof.Machine

/-- NEAR_FRAME_RECEIVED (R148). -/
def execNearFrameReceived (bytes : List Byte) (s : State) : Host.Outcome State Fault Refusal := finish (nearFrame s bytes)

/-- FAR_FRAME_RECEIVED (R150). -/
def execFarFrameReceived (bytes : List Byte) (s : State) : Host.Outcome State Fault Refusal := finish (farFrame s bytes, [])

/-- LINK_STATE_CHANGE (R147). -/
def execLinkStateChange (side : Side) (up : Bool) (s : State) : Host.Outcome State Fault Refusal :=
  match side with
  | .near => finish (setNear s up, [])
  | .far => finish (setFar s up, [])

/-- NEAR_TRANSMIT_COMPLETE (R155): the transmitter becomes idle and chooses the next frame. -/
def execNearTransmitComplete (s : State) : Host.Outcome State Fault Refusal :=
  finish ({ s with trunk := { s.trunk with nearTx := none } }, [])

/-- FAR_TRANSMIT_COMPLETE (R149). -/
def execFarTransmitComplete (s : State) : Host.Outcome State Fault Refusal :=
  finish ({ s with trunk := { s.trunk with farTx := none } }, [])

end Sys2Proof.Machine
end

