-- ==== Sys2Proof/Machine/Dispatch.lean ====
section
/-! DEFINITION. The dispatch of commands to their meanings, one arm for each row of the table. -/

namespace Sys2Proof.Machine

/-- The effect of a command on everything but the queue of waiting commands. -/
def exec (i : Instr) (s : State) : Host.Outcome State Fault Refusal :=
  match i with
  | .powerOnReset => Sys2Proof.Machine.execPowerOnReset s
  | .strapChange address => Sys2Proof.Machine.execStrapChange address s
  | .tickEnd => Sys2Proof.Machine.execTickEnd s
  | .intervalTimerExpiry l => Sys2Proof.Machine.execIntervalTimerExpiry l s
  | .ceilingTimerExpiry l => Sys2Proof.Machine.execCeilingTimerExpiry l s
  | .escalationTimerExpiry c => Sys2Proof.Machine.execEscalationTimerExpiry c s
  | .offerTimerExpiry k => Sys2Proof.Machine.execOfferTimerExpiry k s
  | .minTimerExpiry c => Sys2Proof.Machine.execMinTimerExpiry c s
  | .maxTimerExpiry c => Sys2Proof.Machine.execMaxTimerExpiry c s
  | .stepTimerExpiry c => Sys2Proof.Machine.execStepTimerExpiry c s
  | .settleTimerExpiry c => Sys2Proof.Machine.execSettleTimerExpiry c s
  | .answerWindowClose l held => Sys2Proof.Machine.execAnswerWindowClose l held s
  | .wake l burst => Sys2Proof.Machine.execWake l burst s
  | .wakeBurstInCycle l => Sys2Proof.Machine.execWakeBurstInCycle l s
  | .nearFrameReceived bytes => Sys2Proof.Machine.execNearFrameReceived bytes s
  | .farFrameReceived bytes => Sys2Proof.Machine.execFarFrameReceived bytes s
  | .linkStateChange side up => Sys2Proof.Machine.execLinkStateChange side up s
  | .nearTransmitComplete => Sys2Proof.Machine.execNearTransmitComplete s
  | .farTransmitComplete => Sys2Proof.Machine.execFarTransmitComplete s
  | .read o table index => Sys2Proof.Machine.execRead o table index s
  | .writeLift o index w => Sys2Proof.Machine.execWriteLift o index w s
  | .writePanel o index w => Sys2Proof.Machine.execWritePanel o index w s
  | .writeCrew o index w => Sys2Proof.Machine.execWriteCrew o index w s
  | .writeClass o index w => Sys2Proof.Machine.execWriteClass o index w s
  | .writeTravel o index lo hi => Sys2Proof.Machine.execWriteTravel o index lo hi s
  | .writeStep o index w => Sys2Proof.Machine.execWriteStep o index w s
  | .writeSectorSettings o index w => Sys2Proof.Machine.execWriteSectorSettings o index w s
  | .setForward o index mode => Sys2Proof.Machine.execSetForward o index mode s
  | .lineEnable o line => Sys2Proof.Machine.execLineEnable o line s
  | .lineDisable o line => Sys2Proof.Machine.execLineDisable o line s
  | .lineReset o line => Sys2Proof.Machine.execLineReset o line s
  | .setBottom o index => Sys2Proof.Machine.execSetBottom o index s
  | .survey o crew => Sys2Proof.Machine.execSurvey o crew s
  | .caseOpen o identity => Sys2Proof.Machine.execCaseOpen o identity s
  | .caseClose o serial => Sys2Proof.Machine.execCaseClose o serial s
  | .readCase o record => Sys2Proof.Machine.execReadCase o record s
  | .readCounters o => Sys2Proof.Machine.execReadCounters o s
  | .warmRestart o force => Sys2Proof.Machine.execWarmRestart o force s
  | .controlInhibit o identity => Sys2Proof.Machine.execControlInhibit o identity s
  | .controlRestore o identity => Sys2Proof.Machine.execControlRestore o identity s
  | .controlAnnounce o identity message => Sys2Proof.Machine.execControlAnnounce o identity message s
  | .controlService o identity code => Sys2Proof.Machine.execControlService o identity code s
  | .dutyOn r tag => Sys2Proof.Machine.execDutyOn r tag s
  | .dutyOff r tag => Sys2Proof.Machine.execDutyOff r tag s
  | .sweepOn r tag => Sys2Proof.Machine.execSweepOn r tag s
  | .sweepOff r tag => Sys2Proof.Machine.execSweepOff r tag s
  | .job r tag => Sys2Proof.Machine.execJob r tag s
  | .accept r tag serial => Sys2Proof.Machine.execAccept r tag serial s
  | .decline r tag serial => Sys2Proof.Machine.execDecline r tag serial s
  | .arrived r tag serial => Sys2Proof.Machine.execArrived r tag serial s
  | .voice r tag serial => Sys2Proof.Machine.execVoice r tag serial s
  | .standDown r tag serial => Sys2Proof.Machine.execStandDown r tag serial s
  | .firstStageCarry => Sys2Proof.Machine.execFirstStageCarry s

end Sys2Proof.Machine
end

