-- ==== Sys2Proof/Machine/Encode.lean ====
section
/-! DEFINITION. The frames the gateway sends, as the bytes of chapter 11: START and STOP on a line, and the frames of its own
on NEAR with their checks. A frame in transmission is read through these (State holds its fields). -/

namespace Sys2Proof.Machine

/-! ### Bytes -/

/-- A number in one byte. -/
def be1 (n : Nat) : List Byte := [BitVec.ofNat 8 n]
/-- A number in two bytes, high byte first. -/
def be2 (n : Nat) : List Byte := [BitVec.ofNat 8 (n / 256), BitVec.ofNat 8 n]
/-- A number in three bytes, high byte first. -/
def be3 (n : Nat) : List Byte := BitVec.ofNat 8 (n / 65536) :: be2 n
/-- A number in four bytes, high byte first. -/
def be4 (n : Nat) : List Byte := be2 (n / 65536) ++ be2 n

/-- A truth value as a bit of the given weight. -/
def flag (b : Bool) (weight : Nat) : Nat := if b then weight else 0

/-- A list of truth values as a number, the first one bit 0. -/
def packBits : List Bool → Nat
  | [] => 0
  | b :: rest => flag b 1 + 2 * packBits rest

/-- An optional field: its flag byte, and its bytes, which are 0 where it is absent (section 11.4, log 19). -/
def optional {α : Type} (zero : List Byte) (enc : α → List Byte) : Option α → List Byte
  | some a => be1 1 ++ enc a
  | none => be1 0 ++ zero

/-- A timer: 0 stopped, 1 running with its remaining count (section 11.4). One that has run out is stopped (R145), taken or not
(log 1). -/
def timerBytes : Timer → List Byte
  | .stopped => be1 0 ++ be2 0
  | .running n => be1 1 ++ be2 n
  | .due => be1 0 ++ be2 0

/-- A window timer: 2, run out, exactly while its mark is set, and any other as a timer stands (R102). -/
def windowTimerBytes (mark : Bool) (t : Timer) : List Byte := if mark then be1 2 ++ be2 0 else timerBytes t

/-- A cause set: bit 0 STALL to bit 4 MANUAL (section 11.2). -/
def CauseSet.code (a : CauseSet) : Nat := packBits [a.stall, a.alarm, a.shared, a.silent, a.manual]
/-- An event-seen set: bit 0 VOICE_CONTACT to bit 5 EVACUATED (section 11.2). -/
def EventSet.code (a : EventSet) : Nat :=
  packBits [a.voiceContact, a.crewArrived, a.carMoved, a.doorsOpen, a.inZone, a.evacuated]

/-! ### Codes -/

/-- CONTINUOUS 0, QUIET 1. -/
def CycleMode.code : CycleMode → Nat
  | .continuous => 0
  | .quiet => 1

/-- The answer codes of section 11.3. -/
def AnswerCode.code : AnswerCode → Nat
  | .ok => 0
  | .clamped => 1
  | .queued => 2
  | .badIndex => 3
  | .badValue => 4
  | .locked => 5
  | .busy => 6
  | .full => 7
  | .wrongState => 8
  | .notHeld => 9
  | .gone => 10
  | .noCase => 11
  | .implausible => 12
  | .offer => 13

/-- The car mode codes of section 11.1. -/
def CarMode.code : CarMode → Nat
  | .normal => 0
  | .inhibited => 1
  | .maint => 2

/-- The occupancy codes of section 11.1. -/
def Occupancy.code : Occupancy → Nat
  | .unknown => 0
  | .empty => 1
  | .occupied => 2

/-- The doors codes of section 11.1. -/
def Doors.code : Doors → Nat
  | .closed => 0
  | .opened => 1
  | .obstructed => 2

/-- The lift state codes of section 11.2. -/
def LiftState.code : LiftState → Nat
  | .disabled => 0
  | .offline => 1
  | .unseen => 2
  | .running => 3
  | .parked => 4
  | .halted => 5
  | .stalled => 6
  | .maintenance => 7
  | .silent => 8

/-- The dispatch state codes of section 11.2. -/
def DispatchState.code : DispatchState → Nat
  | .waiting => 0
  | .offered => 1
  | .assigned => 2
  | .onSite => 3
  | .cleared => 4

/-- The event codes of the WAIT argument (section 11.3). -/
def NamedEvent.code : NamedEvent → Nat
  | .voiceContact => 1
  | .crewArrived => 2
  | .carMoved => 3
  | .doorsOpen => 4
  | .inZone => 5
  | .evacuated => 6

/-- The source codes of section 11.4; IN_ZONE is no source, so no stored source has it. -/
def sourceCode : Option NamedEvent → Nat
  | none => 0
  | some .voiceContact => 1
  | some .crewArrived => 2
  | some .carMoved => 3
  | some .doorsOpen => 4
  | some .inZone => 5
  | some .evacuated => 5

/-- The close reason codes of section 11.2. -/
def CloseReason.code : CloseReason → Nat
  | .stoodDown => 0
  | .centre => 1
  | .acknowledged => 2
  | .withdrawn => 3
  | .clearedUnattended => 4

/-- The HANDOVER reason codes of section 11.2. -/
def HandoverReason.code : HandoverReason → Nat
  | .escalation => 0
  | .ended => 1
  | .loop => 2
  | .badStep => 3

/-- The release reason codes of section 11.2; NO_TARGET has none there, so its byte is free (log 10). -/
def AbortReason.code : AbortReason → Byte
  | .chain => 1#8
  | .mode => 2#8
  | .overshoot => 3#8
  | .balanced => 4#8
  | .tooFar => 5#8
  | .tooMany => 6#8
  | .noEcho => 7#8
  | .crewLeft => 8#8
  | .lineReset => 9#8
  | .timeout => 10#8
  | .notOnSite => 11#8
  | .noReport => 12#8
  | .noCrew => 13#8
  | .notNeeded => 14#8
  | .noTarget => Config.noTargetCode

/-- The CLEARED source codes of section 11.2. -/
def ClearedSource.code : ClearedSource → Nat
  | .evacuated => 0
  | .procedure => 1

/-- The notice kinds, 1 to 21 (section 11.2). -/
def NoticeKind.code : NoticeKind → Nat
  | .opened => 1
  | .causeAdded => 2
  | .call => 3
  | .offered => 4
  | .accepted => 5
  | .declined => 6
  | .offerExpired => 7
  | .arrived => 8
  | .implausible => 9
  | .late => 10
  | .escalated => 11
  | .handover => 12
  | .note => 13
  | .releasePulse => 14
  | .releaseDone => 15
  | .releaseAborted => 16
  | .cleared => 17
  | .closed => 18
  | .snapshot => 19
  | .tableFull => 20
  | .restarted => 21

/-! ### Line frames (section 11.1) -/

/-- UP 0, DOWN 1. -/
def Direction.code : Direction → Nat
  | .up => 0
  | .down => 1

/-- The command byte and the four argument bytes of a car command. -/
def CarCommand.bytes : CarCommand → List Byte
  | .inhibit => be1 1 ++ be4 0
  | .restore => be1 2 ++ be4 0
  | .announce n => be1 3 ++ be1 n ++ be3 0
  | .brakePulse sequence d => be1 4 ++ be1 (d.code * 128 + sequence) ++ be3 0
  | .service n => be1 5 ++ be1 n ++ be3 0

/-- The bytes 5 to 10 of a START body that carries a command. -/
def LineCommand.bytes : LineCommand → List Byte
  | .toCar slot c => be1 slot.val ++ c.bytes
  | .toPanel place a =>
    be1 (16 + place.val) ++ be1 6 ++ be1 (flag a.serial.isSome 128 + a.code.code) ++ be1 a.crewTag ++
      be2 (a.serial.getD 0).toNat

/-- The wake source bits of byte 1. -/
def WakeSource.code : WakeSource → Nat
  | .slot s => s.val
  | .unknown => 31

/-- The slot set as a number, bit n for slot n. -/
def slotBits (slots : List Slot) : Nat := packBits ((List.finRange 20).map slots.contains)

/-- A line frame: kind byte and body, with its check (section 11.1, R172). -/
def lineFrame (body : List Byte) : List Byte := body ++ checkBytes (lineCrc body)

/-- A START frame (section 11.1). -/
def StartFrame.bytes (f : StartFrame) : List Byte :=
  let head := f.mode.code * 128 + flag f.wake.isSome 64 + flag f.command.isSome 32 + (f.wake.map WakeSource.code).getD 0
  lineFrame (be1 1 ++ [f.cycleNumber] ++ be1 head ++ be3 (slotBits f.slotSet) ++
    match f.command with
    | some c => c.bytes
    | none => [])

/-- A STOP frame (section 11.1). -/
def stopBytes (next : CycleMode) : List Byte := lineFrame (be1 4 ++ be1 (next.code * 128))

/-! ### Notices and summaries (section 11.2) -/

/-- The argument of a notice. -/
def NoticeArg.bytes : NoticeArg → List Byte
  | .none => []
  | .causes set => be1 set.code
  | .tags list => list.flatMap be1
  | .tag t => be1 t
  | .count n => be1 n
  | .handover r => be1 r.code
  | .code n => be1 n
  | .pulse k p => be1 k ++ be3 (p.getD 0)
  | .aborted r k => r.code :: be1 k
  | .source x => be1 x.code
  | .closed r => be1 r.code
  | .snapshot set n seen => be1 set.code ++ be1 n ++ be1 seen.code
  | .serials list => list.flatMap fun n => be2 n.toNat

/-- A notice body. -/
def Notice.bytes (n : Notice) : List Byte :=
  let flags := flag n.case.isSome 1 + flag n.identity.isSome 2 + flag n.rank.isSome 4 + flag n.crewTag.isSome 8
  let serial := (n.case.map fun e => e.1.toNat).getD 0
  let record := (n.case.map fun e => e.2.val).getD 0
  let rank := (n.rank.map fun e => e.2.code * 16 + e.1).getD 0
  be1 n.kind.code ++ be1 flags ++ be2 serial ++ be1 record ++ be2 (n.identity.getD 0) ++ be4 n.stamp.toNat ++
    be1 rank ++ be1 (n.crewTag.getD 0) ++ be1 n.arg.bytes.length ++ n.arg.bytes

/-- A velocity in mm/s, two's complement. -/
def velocityBytes (v : Int) : List Byte := be2 (BitVec.ofInt 16 v).toNat

/-- A summary body. -/
def Summary.bytes (m : Summary) : List Byte :=
  be2 m.identity ++ be4 m.stamp.toNat ++ be1 m.state.code ++
    match m.report with
    | some r =>
      be1 1 ++ be3 r.position ++ velocityBytes r.velocity ++ be1 r.load ++
        be1 (r.occupancy.code + r.doors.code * 4 + r.mode.code * 16 + flag r.alarm 64)
    | none => be1 0 ++ be3 0 ++ be2 0 ++ be1 0 ++ be1 0

/-! ### Records (section 11.4) -/

/-- A yes-or-no field: 0 no, 1 yes. Section 11.4 gives this code for enabled, close on accept and force; that a dynamic yes-or-no
field has it too is DEDUCED (log 40). -/
def yesNo (b : Bool) : List Byte := be1 (flag b 1)

/-- A cause's byte: bit 0 enabled, bit 1 trigger. -/
def CauseSetting.bytes (c : CauseSetting) : List Byte := be1 (flag c.enabled 1 + flag (c.trigger == .level) 2)

/-- ALL 0, CHANGES 1, NONE 2. -/
def Forwarding.code : Forwarding → Nat
  | .all => 0
  | .changes => 1
  | .none => 2

/-- A lift configuration. -/
def LiftConfig.bytes (g : LiftConfig) : List Byte :=
  yesNo g.enabled ++ be2 g.identity ++ be1 g.landings.length ++ g.landings.flatMap be3 ++ be2 g.doorZone ++
    be1 g.creep ++ be1 g.debounce ++ be1 g.silence ++ be1 g.balance ++ be2 g.step ++ be3 g.reach ++ be1 g.cap ++
    g.stall.bytes ++ g.alarm.bytes ++ g.shared.bytes ++ g.silent.bytes ++ g.manual.bytes ++ be1 g.page.val ++
    be1 g.forwarding.code

/-- A car record in its decoded form, in the order of section 3.1 (log 19). -/
def CarRecord.bytes (r : CarRecord) : List Byte :=
  be1 r.mode.code ++ be3 r.position ++ velocityBytes r.velocity ++ be1 r.load ++ be1 r.occupancy.code ++
    be1 r.doors.code ++ yesNo r.alarm ++ be1 r.presses ++ yesNo r.chainOpen ++ yesNo r.brakeLifted ++ be1 r.echo

/-- The dynamic part of a lift record, in the order of section 2.2. -/
def LiftDynamic.bytes (d : LiftDynamic) : List Byte :=
  be1 d.state.code ++ optional (List.replicate 14 0#8) CarRecord.bytes d.lastReport ++ be1 d.nearest ++
    be1 d.stopCount ++ be1 d.silenceCount ++ be1 d.truth.code ++
    optional (be1 0) (fun a => be1 (CauseSet.code a)) (if d.latch.isEmpty then none else some d.latch) ++
    optional (be1 0) be1 d.pressBaseline ++ optional (be1 0) (fun c : CaseNo => be1 c.val) d.openCase

/-- A panel record: configuration and dynamic fields (section 2.3); hold active is 0 no, 1 yes (log 40). -/
def Panel.bytes (p : Panel) : List Byte :=
  let toggle := match p.dyn.toggle with
    | some false => 0
    | some true => 1
    | none => 2
  yesNo p.config.enabled ++ p.config.map.toList.flatMap (fun m => be2 m.toNat) ++
    optional (be1 0) be1 p.dyn.logged ++ be1 toggle ++ yesNo p.dyn.hold ++ be1 p.dyn.pressNumber ++
    be1 p.dyn.inputs.toNat

/-- A crew configuration. -/
def CrewConfig.bytes (g : CrewConfig) : List Byte :=
  yesNo g.enabled ++ be1 g.tag ++ be1 (packBits g.coverage.toList) ++ be1 g.post.val

/-- A crew record as READ carries it (section 5.1, R162); sweep is 0 no, 1 yes (log 40). -/
def CrewView.bytes (v : CrewView) : List Byte :=
  v.config.bytes ++ yesNo v.onDuty ++ yesNo v.sweep ++ be1 v.held.length ++
    v.held.flatMap (fun e => be1 e.1.val ++ be2 e.2.toNat) ++
    optional (List.replicate 6 0#8) (fun e : CaseNo × BitVec 16 × Timer => be1 e.1.val ++ be2 e.2.1.toNat ++ timerBytes e.2.2)
      v.offer ++
    optional (be2 0) (fun n : BitVec 16 => be2 n.toNat) v.offerLost ++
    optional (be1 0) (fun p : PanelIdx => be1 p.val) v.logged ++ be1 v.implausible

/-- A class entry. -/
def ClassEntry.bytes (e : ClassEntry) : List Byte :=
  be1 e.base ++ be2 e.interval ++ be1 (sourceCode e.clear) ++ be1 (sourceCode e.stop) ++ be1 e.limit ++ be1 e.skip ++
    yesNo e.closeOnAccept

/-- A procedure step record (section 11.3). -/
def StepRecord.bytes (r : StepRecord) : List Byte :=
  be1 r.action ++ be1 r.argument ++ be2 r.limit ++ be1 (flag r.common 128 + r.target.val)

/-- One line's settings. -/
def LineSettings.bytes (v : LineSettings) : List Byte :=
  be1 v.defaultMode.code ++ be1 v.cycleInterval ++ be2 v.quietCeiling ++ be1 v.answerWindow

/-- The sector settings. -/
def Settings.bytes (v : Settings) : List Byte :=
  be2 v.d1 ++ be2 v.d2 ++ be2 v.offerTimeout ++ yesNo (v.tieMode == .rotate) ++ be2 v.settleLimit ++
    v.lines.toList.flatMap LineSettings.bytes

/-! ### Case records (R168) -/

/-- FREE 0, OPEN 1, CLOSING 2. -/
def RecordState.code : RecordState → Nat
  | .free => 0
  | .opened => 1
  | .closing => 2

/-- RUNNING 0, FINISHED 1, HANDED_OVER 2. -/
def ProcStatus.code : ProcStatus → Nat
  | .running => 0
  | .finished => 1
  | .handedOver => 2

/-- A wait: NONE 0, EVENT 1 with its event, DELIVERY 2, RELEASE 3 (log 19). -/
def Wait.bytes : Wait → List Byte
  | .none => be1 0 ++ be1 0
  | .event e => be1 1 ++ be1 e.code
  | .delivery => be1 2 ++ be1 0
  | .release => be1 3 ++ be1 0

/-- The procedure part (section 6.2). -/
def Procedure.bytes (p : Procedure) : List Byte :=
  be1 p.ownPage.val ++ be1 p.step.val ++ yesNo p.onCommon ++ be1 p.status.code ++ p.wait.bytes ++ be1 p.retry ++
    timerBytes p.timer

/-- AWAIT_HOLD 0, AWAIT_CHAIN 1, PULSE_PENDING 2, SETTLING 3. -/
def SubState.code : SubState → Nat
  | .awaitHold => 0
  | .awaitChain => 1
  | .pulsePending => 2
  | .settling => 3

/-- The release record (section 7.1). Pulses needed takes one byte (DEDUCED, log 19): the table names no upper end, but an ALLOWED
plan makes it at most the pulse cap, which is at most 63 (R129 step 6). -/
def Release.bytes (q : Release) : List Byte :=
  be1 q.sub.code ++ be1 q.panel.val ++ be1 q.direction.code ++ be1 q.target ++ be3 q.distance ++ be1 q.needed ++
    be1 q.lastPress ++ be1 q.sequence ++ be1 q.repeats ++ timerBytes q.settle

/-- The pending command: its command record and the block that set it, procedure 0, release 1 (log 19). -/
def PendingCommand.bytes (p : PendingCommand) : List Byte := p.command.bytes ++ yesNo (p.owner == .release)

/-- The arrival window (R102, R168). -/
def Window.bytes (w : Window) : List Byte :=
  windowTimerBytes w.minRunOut w.minTimer ++ windowTimerBytes w.maxRunOut w.maxTimer

/-- A case record as READ_CASE carries it, with the lift's identity (R168, log 19); its yes-or-no fields are 0 no, 1 yes
(log 40). The procedure, the release and the notice owed flag are fields of section 4.1 and have bullets of their own in R168:
each is sent once, at the place of its own bullet, and not at its place in section 4.1 (DESIGN CHOICE, log 42). -/
def Case.bytes (r : Case) (identity : Nat) : List Byte :=
  be1 r.record.code ++ be2 r.serial.toNat ++ be1 r.lift.val ++ be1 r.causes.code ++ be1 r.urgency ++
    yesNo r.occupancyCounted ++ be1 r.dispatch.code ++ optional (be1 0) (fun k : CrewNo => be1 k.val) r.crew ++
    be1 (packBits ((List.finRange 8).map r.declined.contains)) ++ be4 r.openedAt.toNat ++
    optional (be4 0) (fun n : BitVec 32 => be4 n.toNat) r.acceptedAt ++ be2 r.interval ++ timerBytes r.escalation ++
    be1 r.escalations ++ be1 (sourceCode r.clear) ++ be1 (sourceCode r.stop) ++ be1 r.limit ++ yesNo r.late ++
    be1 r.seen.code ++ be1 r.presses ++ optional (List.replicate 6 0#8) PendingCommand.bytes r.pending ++
    optional (be1 0) (fun x : CloseReason => be1 x.code) r.closeReason ++ be2 identity ++ r.procedure.bytes ++
    be1 r.pulses ++ optional (List.replicate 14 0#8) Release.bytes r.release ++ r.window.bytes ++ yesNo r.owed

/-- OFF 0, CYCLE 1, WAIT_INTERVAL 2, QUIET_IDLE 3. -/
def LineState.code : LineState → Nat
  | .off => 0
  | .cycle => 1
  | .waitInterval => 2
  | .quietIdle => 3

/-- One line's counters (R169). -/
def LineCounters.bytes (c : LineCounters) : List Byte :=
  be1 c.state.code ++ be1 c.mode.code ++ [c.cycleNumber] ++ be2 c.errors ++ be4 c.cycles.toNat ++ be1 c.routine ++
    be1 c.answers

/-- The trunk counters, in the order of R157. -/
def TrunkCounters.bytes (c : TrunkCounters) : List Byte :=
  be2 c.nearCheck ++ be2 c.nearKind ++ be2 c.farCheck ++ be2 c.forwardDrops ++ be2 c.relayDrops ++ be2 c.summaryDrops ++
    be2 c.answersLost ++ be2 c.noticesLost

/-- The counters (R169); UP is 0, the first of its list, and "some latch set" likewise (section 11.4, log 19). -/
def CountersView.bytes (v : CountersView) : List Byte :=
  v.lines.toList.flatMap LineCounters.bytes ++ be1 (flag (!v.nearUp) 1) ++ be1 (flag (!v.farUp) 1) ++ v.trunk.bytes ++
    be1 v.forward ++ be1 v.relay ++ be1 v.own ++ [v.sequence] ++ be4 v.stamp.toNat ++ be2 v.serial.toNat ++
    be1 v.openCases ++ be1 v.closingCases ++ be1 (flag (!v.someLatch) 1) ++ v.implausible.toList.flatMap be1

/-! ### Answers and whole frames -/

/-- The data of an ANSWER (section 11.4). -/
def AnswerData.bytes : AnswerData → List Byte
  | .none => []
  | .lift r => r.config.bytes ++ r.dyn.bytes
  | .liftEcho g => g.bytes
  | .panel p => p.bytes
  | .crew v => v.bytes
  | .crewEcho g => g.bytes
  | .classEntry e => e.bytes
  | .travel t => be2 t.min ++ be2 t.max
  | .step r => r.bytes
  | .settings v => v.bytes
  | .named serial record => be2 serial.toNat ++ be1 record.val
  | .ended n => be1 n
  | .surveyed serial identity urgency line => be2 serial.toNat ++ be2 identity ++ be1 urgency ++ be1 line
  | .case c identity => c.bytes identity
  | .counters v => v.bytes

/-- The body of a frame of the gateway's own. -/
def OwnBody.bytes : OwnBody → List Byte
  | .answer request code data => [request] ++ be1 code.code ++ data.bytes
  | .crewAnswer code tag serial offer =>
    be1 code.code ++ [tag] ++ yesNo serial.isSome ++ be2 (serial.getD 0).toNat ++
      match offer with
      | some f => be2 f.identity ++ be1 f.urgency ++ be1 f.line.val
      | none => []
  | .notice n => n.bytes
  | .call n => n.bytes
  | .summary m => m.bytes

/-- The kind byte of a frame of the gateway's own. -/
def OwnBody.kind : OwnBody → Byte
  | .answer _ _ _ => 0x81#8
  | .crewAnswer _ _ _ _ => 0x82#8
  | .notice _ => 0x83#8
  | .call _ => 0x84#8
  | .summary _ => 0x85#8

/-- A frame of the gateway's own, with its check (section 11.2, R172). -/
def OwnFrame.bytes (f : OwnFrame) : List Byte :=
  let body := f.body.bytes
  let head := be2 f.destination.toNat ++ be2 f.source.toNat ++ [f.body.kind, f.tag] ++ be1 body.length
  head ++ body ++ checkBytes (trunkCrc (head ++ body))

/-- The bytes of a frame in transmission out of NEAR; a relayed frame keeps the check it arrived with (R172). -/
def NearFrame.bytes : NearFrame → List Byte
  | .own f => f.bytes
  | .relayed bytes => bytes

end Sys2Proof.Machine
end

