-- ==== Sys2Proof/Safety.lean ====
section
/-! DEFINITION. What the statements speak of: a gateway whose transmitters have nothing to begin, and the properties of a
state that the spec promises of every reachable one. -/

namespace Sys2Proof.Machine

/-- Neither transmitter can begin a frame: each side is DOWN or already sending (R149, R155). -/
def State.Busy (s : State) : Prop :=
  (s.trunk.nearUp = true → s.trunk.nearTx ≠ none) ∧ (s.trunk.farUp = true → s.trunk.farTx ≠ none)

/-- The queue bounds of R151 and R17. -/
structure State.QueuesBounded (s : State) : Prop where
  own : s.trunk.own.length ≤ 32
  relay : s.trunk.relay.length ≤ 16
  forward : s.trunk.forward.length ≤ 16
  routine : ∀ l, (s.line l).routine.length ≤ 8

/-- The lamp is lit exactly while a case record is OPEN (R83). -/
def State.LampTrue (s : State) : Prop := s.lamp = s.anyOpen

/-- No two enabled lift records share an identity (R25). -/
def State.IdentitiesApart (s : State) : Prop :=
  ∀ i j, (s.lift i).config.enabled = true → (s.lift j).config.enabled = true →
    (s.lift i).config.identity = (s.lift j).config.identity → i = j

/-- No two enabled crew records share a tag (R85). -/
def State.TagsApart (s : State) : Prop :=
  ∀ j k, (s.crew j).config.enabled = true → (s.crew k).config.enabled = true →
    (s.crew j).config.tag = (s.crew k).config.tag → j = k

/-- The rotation order holds each lift index exactly once (R92). -/
def State.RotationWhole (s : State) : Prop := s.rotation.Perm (List.finRange 64)

/-- A held case of a crew: ASSIGNED, ON_SITE or CLEARED (R101). -/
def DispatchState.isHeld : DispatchState → Bool
  | .waiting => false
  | .offered => false
  | .assigned => true
  | .onSite => true
  | .cleared => true

/-- Offers, held lists and dispatch states agree (R95, R101). -/
structure State.DispatchSound (s : State) : Prop where
  offered : ∀ k o, (s.crew k).dyn.offer = some o →
    s.isOpen o.case = true ∧ (s.caseAt o.case).dispatch = .offered ∧ (s.caseAt o.case).crew = some k
  named : ∀ c, s.isOpen c = true → (s.caseAt c).dispatch = .offered →
    ∃ k o, (s.crew k).dyn.offer = some o ∧ o.case = c
  held : ∀ k c, c ∈ (s.crew k).dyn.held →
    s.isOpen c = true ∧ (s.caseAt c).dispatch.isHeld = true ∧ (s.caseAt c).crew = some k
  kept : ∀ c, s.isOpen c = true → (s.caseAt c).dispatch.isHeld = true → ∃ k, c ∈ (s.crew k).dyn.held
  once : ∀ k, (s.crew k).dyn.held.Nodup
  room : ∀ k, (s.crew k).dyn.held.length + (if (s.crew k).dyn.offer.isSome then 1 else 0) ≤ 3

/-- The counted fields of the case records stay in their ranges (R68, R69, R71, R123, R127, R133). -/
structure Case.InRange (r : Case) : Prop where
  urgency : r.urgency ≤ 7
  escalations : r.escalations ≤ 15
  presses : r.presses ≤ 255
  retry : r.procedure.retry ≤ 15
  pulses : r.pulses ≤ 63
  repeats : ∀ q, r.release = some q → q.repeats ≤ 255

/-- Every case record's counted fields are in range. -/
def State.CasesInRange (s : State) : Prop := ∀ c, (s.caseAt c).InRange

/-- A record that is not OPEN holds no release record and no pending command (section 4.1, R76, R127). -/
def State.ClosedHoldNothing (s : State) : Prop :=
  ∀ c, s.isOpen c = false → (s.caseAt c).release = none ∧ (s.caseAt c).pending = none

/-- A CLOSING record waits for its CLOSED notice: its flag is set, and what the notice is made with stands in it (R77, R82). -/
def State.ClosingOwed (s : State) : Prop :=
  ∀ c, (s.caseAt c).record = .closing → (s.caseAt c).owed = true ∧ (s.caseAt c).closeReason ≠ none ∧
    (s.caseAt c).closedIdentity ≠ none ∧ (s.caseAt c).closedAt ≠ none

/-- Cause truth: MANUAL is never in the set, a cause that is not enabled never either, a lift in DISABLED or OFFLINE has
an empty set, and a lift is in DISABLED exactly while its record is not enabled (R26, R28, R36, R46). -/
structure Lift.TruthSound (r : Lift) : Prop where
  known : r.dyn.state = .disabled ↔ r.config.enabled = false
  manual : r.dyn.truth.manual = false
  enabled : ∀ c, r.dyn.truth.has c = true → (r.config.cause c).enabled = true
  off : r.dyn.state = .disabled ∨ r.dyn.state = .offline → r.dyn.truth = .empty

/-- Every lift's cause truth is sound. -/
def State.TruthSound (s : State) : Prop := ∀ i, (s.lift i).TruthSound

/-- The divisors are always at least 2 (R142), and each stage's count stays below its running divisor (section 8.1). -/
structure State.DivisorsSound (s : State) : Prop where
  d1 : 2 ≤ s.settings.d1
  d2 : 2 ≤ s.settings.d2
  running1 : 2 ≤ s.time.runningD1
  running2 : 2 ≤ s.time.runningD2
  first : s.time.firstStage < s.time.runningD1
  second : s.time.secondStage < s.time.runningD2

/-- The eight trunk counters and the line error counters are 0 to 65,535 (R157, R2). -/
structure State.CountersBounded (s : State) : Prop where
  nearCheck : s.trunk.counters.nearCheck ≤ 65535
  nearKind : s.trunk.counters.nearKind ≤ 65535
  farCheck : s.trunk.counters.farCheck ≤ 65535
  forwardDrops : s.trunk.counters.forwardDrops ≤ 65535
  relayDrops : s.trunk.counters.relayDrops ≤ 65535
  summaryDrops : s.trunk.counters.summaryDrops ≤ 65535
  answersLost : s.trunk.counters.answersLost ≤ 65535
  noticesLost : s.trunk.counters.noticesLost ≤ 65535
  errors : ∀ l, (s.line l).errors ≤ 65535

/-! ### What the statements about commands speak of -/

/-- Room in the own queue for `n` frames, on a gateway whose transmitters have nothing to begin. -/
structure State.Ready (s : State) (n : Nat) : Prop where
  busy : s.Busy
  room : s.trunk.own.length + n ≤ 32

/-- The state with one more frame at the tail of the own queue (R151). -/
def State.withOwn (s : State) (f : OwnFrame) : State :=
  { s with trunk := { s.trunk with own := s.trunk.own ++ [f] } }

/-- The state with one more ANSWER at the tail, sent back to the request's source under its tag (R151, R160). -/
def State.withAnswer (s : State) (o : Origin) (kind : Byte) (code : AnswerCode) (data : AnswerData) : State :=
  s.withOwn ⟨o.source, s.straps.setWidth 16, o.tag, .answer kind code data⟩

/-- The state with one more frame to the broadcast address at the tail, tagged with the upstream sequence, which moves on
(R151). -/
def State.withBroadcast (s : State) (b : OwnBody) : State :=
  { s with trunk := { s.trunk with
      own := s.trunk.own ++ [⟨0xFFFF#16, s.straps.setWidth 16, s.trunk.sequence, b⟩]
      sequence := s.trunk.sequence + 1 } }

/-- The state with more frames to the broadcast address at the tail, in the order of the list. -/
def State.withBroadcasts (s : State) (bodies : List OwnBody) : State := bodies.foldl State.withBroadcast s

/-- A notice about case record `c`, whose record reads `r`, with the common fields of R82. -/
def State.noticeAbout (s : State) (c : CaseNo) (r : Case) (kind : NoticeKind) (arg : NoticeArg) : Notice where
  kind := kind
  case := some (r.serial, c)
  identity := some (s.lift r.lift).config.identity
  stamp := s.time.stamp
  rank := some (r.urgency, r.dispatch)
  crewTag := r.crew.map fun k => (s.crew k).config.tag
  arg := arg

/-- The state with a notice about a case at the tail. -/
def State.withNotice (s : State) (c : CaseNo) (r : Case) (kind : NoticeKind) (arg : NoticeArg) : State :=
  s.withBroadcast (.notice (s.noticeAbout c r kind arg))

/-- The tags a CALL notice about a case of the lift names (R100). That they stand in crew record order is the model's choice
(log 38). -/
def State.calledTags (s : State) (i : LiftIdx) (declined : List CrewNo) : List Nat :=
  ((List.finRange 8).filter fun k =>
    (s.crew k).config.enabled && (s.crew k).dyn.onDuty && (s.crew k).config.coverage[(lineOf i).val] &&
      (s.crew k).dyn.offer.isNone && !declined.contains k).map fun k => (s.crew k).config.tag

/-- The state with the CALL notice about a case at the tail (R100). -/
def State.withCall (s : State) (c : CaseNo) (r : Case) : State :=
  s.withBroadcast (.call (s.noticeAbout c r .call (.tags (s.calledTags r.lift r.declined))))

/-- The tag is that of the enabled crew record `k`, which is on duty (R85, R89). -/
structure State.OnDuty (s : State) (tag : Nat) (k : CrewNo) : Prop where
  resolves : s.resolveTag tag = some k
  duty : (s.crew k).dyn.onDuty = true

/-- The line has nothing to send: no open case of the line has a pending command, no panel answer is pending, the routine
queue is empty. -/
structure State.NothingToSend (s : State) (l : LineId) : Prop where
  cases : ∀ c, s.isOpen c = true → lineOf (s.caseAt c).lift = l → (s.caseAt c).pending = none
  answers : ∀ k : Fin 4, (s.line l).answers[k.val] = none
  routine : (s.line l).routine = []

/-- The record of line `l` once a START that carries `command` has opened the window of the first of `slots`; the places the
command came from are as they were (R4, R6). -/
def State.startedWith (s : State) (l : LineId) (wake : Option WakeSource) (command : Option LineCommand)
    (slots : List Slot) : Line :=
  { s.line l with
    state := .cycle
    cycleNumber := (s.line l).cycleNumber + 1
    slotSet := slots
    currentSlot := slots.head?
    windowMs := (s.lineSettings l).answerWindow
    collided := false
    intervalTimer := .running (s.lineSettings l).cycleInterval
    ceilingTimer := .running (s.lineSettings l).quietCeiling
    cycles := (s.line l).cycles + 1
    lastStart := some ⟨(s.line l).cycleNumber, (s.line l).mode, slots, wake, command⟩ }

/-- The record of line `l` once a START without a command has opened the window of `first`, the lowest of the slots polled
(R4, R6). -/
def State.polling (s : State) (l : LineId) (wake : Option WakeSource) (first : Slot) (slots : List Slot) : Line :=
  s.startedWith l wake none (first :: slots)

/-- The line keeps polling after this cycle: its default mode is CONTINUOUS, a case is open on it, a lift of it has to be watched,
or a command or an answer waits to be sent (R11). -/
def State.KeepsPolling (s : State) (l : LineId) : Prop :=
  (s.lineSettings l).defaultMode = .continuous ∨ (∃ c, s.isOpen c = true ∧ lineOf (s.caseAt c).lift = l) ∨
    (∃ k, (s.lift (liftAt l k)).dyn.state ∈ [LiftState.offline, .unseen, .halted, .stalled, .silent]) ∨
    (s.line l).routine ≠ [] ∨ ∃ k : Fin 4, (s.line l).answers[k.val] ≠ none

/-- A crew request can be answered on its route: there is room for `n` frames, and where a panel's line stands in QUIET_IDLE, which
the answer ends with a START (R13), the panel is polled and nothing else waits to be sent there. -/
structure State.Answers (s : State) (route : Route) (n : Nat) : Prop where
  ready : s.Ready n
  line : ∀ p, route = .panel p → (s.line (panelLine p)).state = .quietIdle →
    s.NothingToSend (panelLine p) ∧ (s.panel p).config.enabled = true

/-- The state once a crew request has been answered on its route: a CREW_ANSWER at the tail, or the panel's pending answer with the
present stamp, which a line in QUIET_IDLE sends with a START at once (R13, R16, R89, R151). -/
def State.withCrewAnswer (s : State) (route : Route) (tag : Nat) (code : AnswerCode) (named : Option (BitVec 16))
    (info : Option OfferInfo) : State :=
  match route with
  | .trunk o => s.withOwn ⟨o.source, s.straps.setWidth 16, o.tag, .crewAnswer code (BitVec.ofNat 8 tag) named info⟩
  | .panel p =>
    let l := panelLine p
    let answer : PanelAnswer := ⟨code, tag, named, s.time.stamp⟩
    s.setLine l (if (s.line l).state = .quietIdle
      then s.startedWith l none (some (.toPanel (panelPlace p) answer)) (s.slotSet l)
      else { s.line l with answers := (s.line l).answers.set (panelPlace p).val (some answer) })

/-- A request's serial, where it carries one, names OPEN case record `c`: the case has the serial, and no lower OPEN record has it
(R58). -/
def State.NamesCase (s : State) (serial : Option (BitVec 16)) (c : CaseNo) : Prop :=
  serial = none ∨ ∃ n, serial = some n ∧ s.isOpen c = true ∧ (s.caseAt c).serial = n ∧
    ∀ e < c, s.isOpen e = true → (s.caseAt e).serial ≠ n

/-- An evaluation of lift `i` as the state stands reaches nobody but the lift: it raises no cause, and the lift has neither a case
nor a latch that the new truth could end (R47, R49, R67, R74). -/
structure State.QuietTruth (s : State) (i : LiftIdx) : Prop where
  raised : raisedCauses (s.lift i).config (s.lift i).dyn.truth (s.truthOf i) = .empty
  noCase : (s.lift i).dyn.openCase = none
  noLatch : (s.lift i).dyn.latch = .empty

/-- Whether SHARED is re-evaluated for a lift of line `l` when the slots that meet `p` are: it stands in another state than DISABLED
and OFFLINE (R48). -/
def State.evaluated (s : State) (l : LineId) (p : Fin 16 → Bool) (i : LiftIdx) : Bool :=
  lineOf i == l && p (carSlotOf i) && (s.lift i).dyn.state != .disabled && (s.lift i).dyn.state != .offline

/-- The state once SHARED has been re-evaluated for the car slots of line `l` that meet `p`, where that reaches nobody but the
lifts: their truth is brought up to date (R48). -/
def State.withTruths (s : State) (l : LineId) (p : Fin 16 → Bool) : State :=
  { s with lifts := tab fun i =>
      if s.evaluated l p i then { s.lift i with dyn := { (s.lift i).dyn with truth := s.truthOf i } } else s.lift i }

/-- No lift waits for a case record, and lift `i` has no LEVEL cause that a close would put back (R66, R78). -/
structure State.NoReopening (s : State) (i : LiftIdx) : Prop where
  latches : ∀ j, (s.lift j).dyn.latch = .empty
  level : (s.lift i).trueLevel = .empty

/-- Everything but the own queue, the upstream sequence, the count of summaries dropped at a full queue (R152), the lines,
lifts and panels is the same in both states. -/
structure State.SameBeyondLines (s t : State) : Prop where
  straps : t.straps = s.straps
  lamp : t.lamp = s.lamp
  time : t.time = s.time
  settings : t.settings = s.settings
  cases : t.cases = s.cases
  classes : t.classes = s.classes
  serial : t.serial = s.serial
  crews : t.crews = s.crews
  travel : t.travel = s.travel
  rotation : t.rotation = s.rotation
  store : t.store = s.store
  freeDraws : t.freeDraws = s.freeDraws
  pending : t.pending = s.pending
  trunk : t.trunk = { s.trunk with
    own := t.trunk.own
    sequence := t.trunk.sequence
    counters := { s.trunk.counters with summaryDrops := t.trunk.counters.summaryDrops } }

/-- The summaries of the enabled lifts of line `l` whose state becomes `st` with no last report: one for each lift whose state
changes and whose forwarding mode is not NONE (R52, R53). That they stand in ascending slot order is the model's choice (log 41). -/
def State.entrySummaries (s : State) (l : LineId) (st : LiftState) : List OwnBody :=
  ((List.finRange 16).filter fun k =>
    (s.lift (liftAt l k)).config.enabled && (s.lift (liftAt l k)).dyn.state != st &&
      (s.lift (liftAt l k)).config.forwarding != .none).map fun k =>
    .summary ⟨(s.lift (liftAt l k)).config.identity, s.time.stamp, st, none⟩

/-- A crew without case record `c`, whose case had the serial: the case leaves the held list, and an offer of it is cancelled,
its serial kept as the offer lost mark (R76 step 1, R99). -/
def Crew.freedOf (k : Crew) (c : CaseNo) (serial : BitVec 16) : Crew :=
  { k with dyn := { k.dyn with
      held := k.dyn.held.filter fun e => e != c
      offer := k.dyn.offer.filter fun x => x.case != c
      offerLost := if k.dyn.offer.any fun x => x.case == c then some serial else k.dyn.offerLost } }

/-- The record of a case that is closed and waits for its CLOSED notice to be sent: CLOSING, the reason, the
crew's tag, the lift's identity and the stamp kept, its timers stopped, its pending command and release discarded (R76, R77, R154). -/
def State.closingRecord (s : State) (c : CaseNo) (reason : CloseReason) : Case :=
  let r := s.caseAt c
  { r with
    record := .closing
    closeReason := some reason
    closeTag := r.crew.map fun k => (s.crew k).config.tag
    closedIdentity := some (s.lift r.lift).config.identity
    closedAt := some s.time.stamp
    window := { r.window with minTimer := .stopped, maxTimer := .stopped }
    pending := none
    release := none
    procedure := { r.procedure with timer := .stopped }
    escalation := .stopped
    owed := true }

/-- The state after the gateway's own close of case record `c` with the reason, but for its notice and what reopens: the crews
lose the case, the record reads `r'`, the lift has no open case, the lamp is judged (R76, R83). -/
def State.closedWith (s : State) (c : CaseNo) (r' : Case) : State :=
  let r := s.caseAt c
  let d := (s.lift r.lift).dyn
  { s with
    lamp := (List.finRange 16).any fun e => e != c && s.isOpen e
    crews := s.crews.map fun (k : Crew) => k.freedOf c r.serial
    lifts := s.lifts.set r.lift.val { s.lift r.lift with dyn := { d with openCase := none } }
    cases := s.cases.set c.val r' }

/-- The state after a close whose CLOSED notice finds room and where nothing reopens: the record is FREE (R76, R77). -/
def State.closedOff (s : State) (c : CaseNo) (reason : CloseReason) : State :=
  (s.closedWith c .free).withBroadcast (.notice (s.noticeAbout c (s.caseAt c) .closed (.closed reason)))

/-- The smallest of a class field over the causes of a set, at most `top` (R62, R64). -/
def State.leastOf (s : State) (field : ClassEntry → Nat) (top : Nat) (set : CauseSet) : Nat :=
  [Cause.stall, .alarm, .shared, .silent, .manual].foldr
    (fun x m => if set.has x then min (field (s.classes[x.index.val])) m else m) top

/-- The class entry of the first cause of a set in the order STALL, ALARM, SHARED, SILENT, MANUAL (R62). -/
def State.leadingClass (s : State) (set : CauseSet) : ClassEntry :=
  if set.stall then s.classes[0] else if set.alarm then s.classes[1] else if set.shared then s.classes[2]
    else if set.silent then s.classes[3] else s.classes[4]

/-- The urgency a case of lift `i` with these causes opens with: the smallest base, improved by one where the last report shows
OCCUPIED (R62, R66). -/
def State.urgencyAtOpening (s : State) (i : LiftIdx) (set : CauseSet) : Nat :=
  if (s.lift i).dyn.lastReport.any fun n => n.occupancy == .occupied then s.leastOf ClassEntry.base 7 set - 1
  else s.leastOf ClassEntry.base 7 set

/-- The record of a case of lift `i` as it opens with a set of causes (R62, R110). -/
def State.recordAtOpening (s : State) (i : LiftIdx) (set : CauseSet) : Case :=
  { Case.free with
    record := .opened
    serial := s.serial
    lift := i
    causes := set
    urgency := s.urgencyAtOpening i set
    occupancyCounted := (s.lift i).dyn.lastReport.any fun n => n.occupancy == .occupied
    dispatch := .waiting
    openedAt := s.time.stamp
    interval := s.leastOf ClassEntry.interval 65535 set
    escalation := .running (s.leastOf ClassEntry.interval 65535 set)
    escalations := 0
    clear := (s.leadingClass set).clear
    stop := (s.leadingClass set).stop
    limit := s.leastOf ClassEntry.limit 15 set
    procedure := ⟨(s.lift i).config.page, 0, false, .running, .none, 0, .stopped⟩ }

/-- The record of an open case once the causes `new`, none of which it had, have joined it (R64). -/
def State.recordJoined (s : State) (r : Case) (new : CauseSet) : Case :=
  let all := r.causes.union new
  let interval := min r.interval (s.leastOf ClassEntry.interval 65535 new)
  { r with
    causes := all
    urgency := min r.urgency (s.leastOf ClassEntry.base 7 new)
    interval := interval
    escalation := match r.escalation with
      | .running n => if interval < n then .running interval else .running n
      | .stopped => .stopped
      | .due => .due
    limit := min r.limit (s.leastOf ClassEntry.limit 15 new)
    clear := (s.leadingClass all).clear
    stop := (s.leadingClass all).stop }

/-- The record of an open case once a named event has reached it: the event is seen, and the escalation timer is stopped by the stop
source, or else started again by the clear source while it runs (R73, steps 1 to 3). -/
def Case.met (r : Case) (e : NamedEvent) : Case :=
  { r with
    seen := r.seen.insert e
    escalation := if r.stop = some e then .stopped
      else if r.clear = some e ∧ r.escalation ≠ .stopped then .running r.interval else r.escalation }

/-- How many of the thresholds 1, 1 + N, 1 + 2N, … lie above `before` and not above `total` (R69). -/
def pressThresholds (skip before total : Nat) : Nat :=
  ((List.range 256).filter fun t => 1 ≤ t && (t - 1) % skip == 0 && before < t && t ≤ total).length

/-- The record of an open case once a count of new presses has reached it, with the press skip N (R69). -/
def Case.pressed (r : Case) (skip n : Nat) : Case :=
  { r with
    presses := min 255 (r.presses + n)
    urgency := r.urgency - pressThresholds skip r.presses (min 255 (r.presses + n)) }

/-- The car events of a report, given the lift state and the last report before it and those after it: in the order CAR_MOVED,
IN_ZONE, DOORS_OPEN, EVACUATED, each where its condition holds (R51). -/
structure CarEvents (before after : LiftState) (previous : Option CarRecord) (now : CarRecord) (events : List NamedEvent) :
    Prop where
  order : events.Sublist [.carMoved, .inZone, .doorsOpen, .evacuated]
  moved : .carMoved ∈ events ↔ (before = .halted ∨ before = .stalled) ∧ after = .running
  zone : .inZone ∈ events ↔ before ≠ .parked ∧ after = .parked
  doors : .doorsOpen ∈ events ↔ now.doors = .opened ∧ ∀ m, previous = some m → m.doors ≠ .opened
  evacuated : .evacuated ∈ events ↔ now.occupancy = .empty ∧ now.inZone = true ∧ now.doors = .opened

/-- The state once a case of lift `i` with these causes has opened in record `c`, before its procedure's first activation: the
record, the lift's open case with its latch absent, the serial, the lamp, OPENED and CALL (R62, R63, R83). -/
def State.openedIn (s : State) (c : CaseNo) (i : LiftIdx) (set : CauseSet) : State :=
  let r := s.recordAtOpening i set
  (({ s with
      serial := s.serial + 1
      lamp := true
      cases := s.cases.set c.val r
      lifts := s.lifts.set i.val { s.lift i with dyn := { (s.lift i).dyn with openCase := some c, latch := .empty } } }
    ).withNotice c r .opened (.causes set)).withCall c r

/-- Once case record `c` is closed, its lift has a fresh case at once, in record `e` and of the causes `set`: no latch is set, the
causes are the enabled LEVEL ones that are still true, `e` is the lowest record then FREE, and the first step of the lift's page
is END(HANDOVER) (R78, R66). -/
structure State.Reopens (s : State) (c e : CaseNo) (set : CauseSet) : Prop where
  latches : ∀ j, (s.lift j).dyn.latch = .empty
  causes : ∀ x, set.has x = true ↔ ((s.lift (s.caseAt c).lift).config.cause x).enabled = true ∧
    ((s.lift (s.caseAt c).lift).config.cause x).trigger = .level ∧ (s.lift (s.caseAt c).lift).dyn.truth.has x = true
  some : set ≠ .empty
  place : e = c ∨ (s.caseAt e).record = .free
  lowest : ∀ d < e, d ≠ c ∧ (s.caseAt d).record ≠ .free
  action : (s.stepOf ⟨(s.lift (s.caseAt c).lift).config.page, 0, false, .running, .none, 0, .stopped⟩).action = 12
  argument : (s.stepOf ⟨(s.lift (s.caseAt c).lift).config.page, 0, false, .running, .none, 0, .stopped⟩).argument = 2

/-- The state once a case of lift `i` with these causes has opened in record `e` and its first step, END(HANDOVER), has handed it
over. -/
def State.openedAndHandedOver (s : State) (e : CaseNo) (i : LiftIdx) (set : CauseSet) : State :=
  let handed : Case := { s.recordAtOpening i set with
    procedure := ⟨(s.lift i).config.page, 0, false, .handedOver, .none, 0, .stopped⟩ }
  ((s.openedIn e i set).setCase e handed).withNotice e handed .handover (.handover .ended)

/-- The lift's latch without its LEVEL causes that are now false (R66, steps 1 and 2). -/
def Lift.standingLatch (r : Lift) : CauseSet :=
  .filter fun x => r.dyn.latch.has x && ((r.config.cause x).trigger == .edge || r.standingTruth.has x)

end Sys2Proof.Machine
end

