-- ==== Sys2Proof/Certificates/Slice0/Obligations.lean ====
section
/-! DEFINITION. The statements for the provers. -/

open Sys2Proof Sys2Proof.Machine

/-! ### The queue of commands, reset, and what every handling keeps -/

/-- A step hands the front command to its meaning with the rest of the queue. On an empty queue one period of the reference
clock passes (that it does so there is the model's choice, log 20; what a period does is stated in TicksCountEveryTimer). -/
def Obligations.StepHandlesTheFrontCommand : Prop :=
  (∀ (c : Instr) (rest : List Instr) (s : State), step { s with pending := c :: rest } = exec c { s with pending := rest }) ∧
  ∀ s : State, s.pending = [] → step s = .next s.clockPeriod

/-- R2, R23, R28, R30, R57, R59, R84, R91, R108, R110, R142, R158: the values after a power-on reset, whole records: the lines
with their settings, every lift record with its configuration and its dynamic part, the panels, every field of every case record
(R127 gives the release and the pulses, R102 the window), the crews, the travel table, the procedure store, the class table, the
rotation order (R92), the sector settings (R128), the time base and the trunk port. (The tick-end mark of the time base and the
closing tag of a case are the model's own, log 2 and R154.) -/
def Obligations.ResetStandsAtThePowerOnValues : Prop :=
  (∀ l, let r := State.reset.line l
    r.state = .off ∧ r.routine = [] ∧ (∀ k : Fin 4, r.answers[k.val] = none) ∧ r.cycleNumber = 0#8 ∧
    r.mode = .continuous ∧ r.slotSet = [] ∧ r.currentSlot = none ∧ r.intervalTimer = .stopped ∧
    r.ceilingTimer = .stopped ∧ r.errors = 0 ∧ r.cycles = 0#32 ∧
    State.reset.lineSettings l = ⟨.continuous, 5, 50, 6⟩) ∧
  (∀ i : LiftIdx, (State.reset.lift i).dyn = ⟨.disabled, none, 0, 0, 0, .empty, .empty, none, none, .empty⟩ ∧
    (State.reset.lift i).config = {
      enabled := false, identity := 65534 - i.val, landings := [0, 3000], doorZone := 75, creep := 2, debounce := 4
      silence := 3, balance := 45, step := 400, reach := 12000, cap := 40
      stall := ⟨true, .level⟩, alarm := ⟨true, .edge⟩, shared := ⟨true, .level⟩, silent := ⟨true, .level⟩
      manual := ⟨true, .edge⟩, page := 15, forwarding := .changes }) ∧
  (∀ p, State.reset.panel p = ⟨⟨false, Vector.replicate 4 0#16⟩, ⟨none, none, false, 0, 0#4⟩⟩) ∧
  (∀ c, State.reset.caseAt c = {
    record := .free, serial := 0#16, lift := 0, causes := ⟨false, false, false, false, false⟩, urgency := 7
    occupancyCounted := false, dispatch := .waiting, crew := none, declined := [], openedAt := 0#32, acceptedAt := none
    interval := 10, escalation := .stopped, escalations := 0, clear := none, stop := none, limit := 15, late := false
    seen := ⟨false, false, false, false, false, false⟩, presses := 0
    procedure := { ownPage := 0, step := 0, onCommon := false, status := .finished, wait := .none, retry := 0, timer := .stopped }
    release := none, pending := none, owed := false, closeReason := none, pulses := 0
    window := { minTimer := .stopped, maxTimer := .stopped, minRunOut := false, maxRunOut := false }
    closeTag := none, closedIdentity := none, closedAt := none }) ∧
  (∀ k : CrewNo, (State.reset.crew k).config = ⟨false, k.val + 1, Vector.replicate 4 true, 0⟩ ∧
    (State.reset.crew k).dyn = ⟨false, false, [], none, none, none, 0⟩) ∧
  (∀ i : Fin 16, State.reset.travel[i.val] = ⟨0, 9000⟩) ∧
  (∀ i : Fin 256, State.reset.store[i.val].decoded = some (.ending false) ∧ State.reset.store[i.val].limit = 0 ∧
    State.reset.store[i.val].target = 0 ∧ State.reset.store[i.val].common = false) ∧
  State.reset.classes =
    #v[⟨3, 1800, some .voiceContact, some .crewArrived, 3, 4, false⟩,
       ⟨2, 1200, some .voiceContact, some .crewArrived, 3, 4, false⟩,
       ⟨3, 1200, some .voiceContact, some .crewArrived, 3, 4, false⟩,
       ⟨5, 3000, none, some .crewArrived, 2, 4, false⟩, ⟨4, 1800, none, some .crewArrived, 3, 4, false⟩] ∧
  State.reset.rotation = List.finRange 64 ∧ State.reset.serial = 0#16 ∧ State.reset.lamp = false ∧
  State.reset.settings.d1 = 2048 ∧ State.reset.settings.d2 = 100 ∧ State.reset.settings.offerTimeout = 300 ∧
  State.reset.settings.tieMode = .oldest ∧ State.reset.settings.settleLimit = 50 ∧
  State.reset.time = ⟨2048, 100, 0, 0, false, 0#32⟩ ∧
  State.reset.trunk.own = [] ∧ State.reset.trunk.relay = [] ∧ State.reset.trunk.forward = [] ∧
  State.reset.trunk.counters = ⟨0, 0, 0, 0, 0, 0, 0, 0⟩ ∧ State.reset.trunk.sequence = 0#8 ∧
  State.reset.trunk.turn = .relay ∧ State.reset.trunk.nearTx = none ∧ State.reset.trunk.farTx = none

/-- The state after a power-on reset has every property that the steps keep. -/
def Obligations.KeptPropertiesHoldAfterReset : Prop :=
  State.reset.QueuesBounded ∧ State.reset.LampTrue ∧ State.reset.IdentitiesApart ∧ State.reset.TagsApart ∧
  State.reset.RotationWhole ∧ State.reset.DispatchSound ∧ State.reset.CasesInRange ∧ State.reset.ClosedHoldNothing ∧
  State.reset.ClosingOwed ∧ State.reset.TruthSound ∧ State.reset.DivisorsSound ∧ State.reset.CountersBounded

/-- No command makes the gateway stop: every handling comes to its end, whatever the state, where the own queue keeps its
bound of R151. (That a handling is cut into internal jobs with a budget is the model's choice, log 4; this says the budget
is never met, so that no behaviour is lost by it.) -/
def Obligations.EveryHandlingComesToItsEnd : Prop :=
  ∀ (c : Instr) (s : State), s.trunk.own.length ≤ 32 → ∃ t, exec c s = .next t

/-- R151, R17: every step keeps the bounds of the four kinds of queue. R142, R143, R157: every step keeps the
written and the running divisors at least 2, each stage's count below its running divisor, and every saturating counter of the
port and of the lines at most 65,535. -/
def Obligations.StepsKeepEveryBound : Prop :=
  (∀ s t : State, s.QueuesBounded → step s = .next t → t.QueuesBounded) ∧
  ((∀ s t : State, s.DivisorsSound → step s = .next t → t.DivisorsSound) ∧
   ∀ s t : State, s.CountersBounded → step s = .next t → t.CountersBounded)

/-- R25, R85: no step lets two enabled lift records share an identity, or two enabled crew records a tag. R92: every
step keeps the rotation order an arrangement that contains each of the 64 lift indices exactly once. -/
def Obligations.StepsKeepNamesApartAndTheRotationWhole : Prop :=
  ((∀ s t : State, s.IdentitiesApart → step s = .next t → t.IdentitiesApart) ∧
   ∀ s t : State, s.TagsApart → step s = .next t → t.TagsApart) ∧
  (∀ s t : State, s.RotationWhole → step s = .next t → t.RotationWhole)

/-- R95, R101: every step keeps offers, held lists and dispatch states in agreement. -/
def Obligations.StepsKeepDispatchSound : Prop :=
  ∀ s t : State, s.DispatchSound → step s = .next t → t.DispatchSound

/-- R68, R69, R71, R123, R127, R133: every step keeps the counted fields of every case record in their ranges. R76,
R127: after every step a record that is not OPEN holds no release record and no pending command. R77, R82: after every step a CLOSING
record has its owed flag set and holds what its CLOSED notice was made with at the close (its place in the record: log 12). R83: after every
step the lamp is lit exactly while a case record is OPEN. -/
def Obligations.StepsKeepCaseRecordsSound : Prop :=
  (∀ s t : State, s.CasesInRange → step s = .next t → t.CasesInRange) ∧
  (∀ s t : State, s.ClosedHoldNothing → step s = .next t → t.ClosedHoldNothing) ∧
  (∀ s t : State, s.ClosingOwed → step s = .next t → t.ClosingOwed) ∧
  (∀ s t : State, s.LampTrue → step s = .next t → t.LampTrue)

/-- R26, R46: every step keeps cause truth sound: MANUAL is never in it, a cause not enabled is never in it, and it is
empty in DISABLED and OFFLINE; a lift is in DISABLED exactly while its record is not enabled. -/
def Obligations.StepsKeepCauseTruthSound : Prop :=
  ∀ s t : State, s.TruthSound → step s = .next t → t.TruthSound

/-- R68 and sections 4.1 to 4.6: in a handling that opens no case (the serial counter stands), a case that stays open keeps its serial, its lift and its
opening stamp, its urgency never becomes greater, its causes and its event-seen set never lose a member, and its press total
and pulse count never fall. -/
def Obligations.OpenCasesOnlyImprove : Prop :=
  ∀ (c : Instr) (s t : State) (e : CaseNo), exec c s = .next t → t.serial = s.serial →
    s.isOpen e = true → t.isOpen e = true → s.CasesInRange →
    (t.caseAt e).serial = (s.caseAt e).serial ∧ (t.caseAt e).lift = (s.caseAt e).lift ∧
    (t.caseAt e).openedAt = (s.caseAt e).openedAt ∧ (t.caseAt e).urgency ≤ (s.caseAt e).urgency ∧
    (∀ x, (s.caseAt e).causes.has x = true → (t.caseAt e).causes.has x = true) ∧
    (∀ x, (s.caseAt e).seen.has x = true → (t.caseAt e).seen.has x = true) ∧
    (s.caseAt e).presses ≤ (t.caseAt e).presses ∧ (s.caseAt e).pulses ≤ (t.caseAt e).pulses

/-- R23, R30, R59, R84, R91, R108, R164: a table keeps its contents until a write of that table (as a command or in a NEAR
frame) or a power-on reset; a lift's forwarding mode also until SET_FORWARD. The
commands that wait (the model's own queue, log 20) are touched by no handling. -/
def Obligations.TablesChangeOnlyByTheirWrites : Prop :=
  (∀ (c : Instr) (s t : State), exec c s = .next t → t.pending = s.pending) ∧
  ∀ (c : Instr) (s t : State), exec c s = .next t → c ≠ .powerOnReset → (∀ b, c ≠ .nearFrameReceived b) →
    ((∀ o i w, c ≠ .writeLift o i w) → (∀ o i m, c ≠ .setForward o i m) →
      ∀ i, (t.lift i).config = (s.lift i).config) ∧
    ((∀ o i w, c ≠ .writePanel o i w) → ∀ p, (t.panel p).config = (s.panel p).config) ∧
    ((∀ o i w, c ≠ .writeCrew o i w) → ∀ k, (t.crew k).config = (s.crew k).config) ∧
    ((∀ o i w, c ≠ .writeClass o i w) → t.classes = s.classes) ∧
    ((∀ o i a b, c ≠ .writeTravel o i a b) → t.travel = s.travel) ∧
    ((∀ o i w, c ≠ .writeStep o i w) → t.store = s.store) ∧
    ((∀ o i w, c ≠ .writeSectorSettings o i w) → t.settings = s.settings)

/-! ### Pins, ticks and expiries -/

/-- R142, 00_scope 5, R158: a power-on reset puts every block at its power-on values; the pins stay as they are. The waiting
commands and the count of free values drawn are the model's own (log 10, 20, 21). STRAP_CHANGE moves the sector address and
nothing else. -/
def Obligations.PinsResetAndReaddress : Prop :=
  (∀ s : State, exec .powerOnReset s = .next { State.reset with
      straps := s.straps
      trunk := { State.reset.trunk with nearUp := s.trunk.nearUp, farUp := s.trunk.farUp }
      freeDraws := s.freeDraws
      pending := s.pending }) ∧
  ∀ (s : State) (a : BitVec 12), exec (.strapChange a) s = .next { s with straps := a } ∧
    State.sector { s with straps := a } = a.setWidth 16

/-- R142, R143, R145: at the end of a tick the stamp goes up by one, wrapping, the written divisors become the
running ones, both stages start again from 0, and every running timer counts one tick; nothing else changes. R145: a
timer started with n (above 0) stands at n - m after m ticks, for every m below n, and runs out at the n-th; a
stopped one stays stopped. (That an expiry not yet taken is marked is the model's, log 1.) R142: a carry of the first stage
starts it again from 0 and is counted by the second, and the running D2-th ends the tick. (That the command TICK_END stands for
the end that such a carry has already taken, and otherwise lets the clock run on to the end of the tick, is the model's, log 2.)
A tick lasts D1 times D2 periods: m of them after its beginning the first stage has counted m modulo D1 and the second m divided
by D1, and the last of them ends it. -/
def Obligations.TicksCountEveryTimer : Prop :=
  (∀ s : State, s.time.tickDue = false → ∃ t, exec .tickEnd s = .next t ∧
     t.time = ⟨s.settings.d1, s.settings.d2, 0, 0, false, s.time.stamp + 1⟩ ∧
     (∀ l, t.line l = { s.line l with
       intervalTimer := (s.line l).intervalTimer.tick, ceilingTimer := (s.line l).ceilingTimer.tick }) ∧
     (∀ c, t.caseAt c = { s.caseAt c with
       escalation := (s.caseAt c).escalation.tick
       procedure := { (s.caseAt c).procedure with timer := (s.caseAt c).procedure.timer.tick }
       release := (s.caseAt c).release.map fun q => { q with settle := q.settle.tick }
       window := { (s.caseAt c).window with
         minTimer := (s.caseAt c).window.minTimer.tick, maxTimer := (s.caseAt c).window.maxTimer.tick } }) ∧
     (∀ k, t.crew k = { s.crew k with dyn := { (s.crew k).dyn with
       offer := (s.crew k).dyn.offer.map fun o => { o with timer := o.timer.tick } } }) ∧
     t = { s with time := t.time, lines := t.lines, cases := t.cases, crews := t.crews }) ∧
  (∀ s : State, s.time.tickDue = true → exec .tickEnd s = .next { s with time := { s.time with tickDue := false } }) ∧
  ((∀ n m : Nat, m < n → Timer.tick^[m] (.running n) = .running (n - m)) ∧
   (∀ n : Nat, 0 < n → Timer.tick^[n] (.running n) = .due) ∧
   ∀ m : Nat, Timer.tick^[m] .stopped = .stopped) ∧
  (∀ s : State,
     (s.time.secondStage + 1 < s.time.runningD2 → exec .firstStageCarry s = .next { s with time := { s.time with
       firstStage := 0, secondStage := s.time.secondStage + 1, tickDue := false } }) ∧
     (s.time.secondStage + 1 = s.time.runningD2 → ∃ t,
       exec .tickEnd { s with time := { s.time with tickDue := false } } = .next t ∧
       exec .firstStageCarry s = .next { t with time := { t.time with tickDue := true } })) ∧
  ∀ s : State, 0 < s.time.runningD1 → 0 < s.time.runningD2 → s.time.firstStage = 0 → s.time.secondStage = 0 →
     s.time.tickDue = false →
     (∀ m < s.time.runningD1 * s.time.runningD2, State.clockPeriod^[m] s = { s with time := { s.time with
       firstStage := m % s.time.runningD1, secondStage := m / s.time.runningD1 } }) ∧
     exec .tickEnd s = .next (State.clockPeriod^[s.time.runningD1 * s.time.runningD2] s)

/-- R145 (and log 1): an expiry command whose timer has not run out, or is no longer there, changes nothing. R12,
R13, R145: an interval timer that runs out outside WAIT_INTERVAL, or a ceiling timer outside QUIET_IDLE, only stops
(STOP finds it run out, R11). -/
def Obligations.ExpiriesWithoutAnOwnerDoNothing : Prop :=
  (∀ s : State,
     (∀ l, (s.line l).intervalTimer ≠ .due → exec (.intervalTimerExpiry l) s = .next s) ∧
     (∀ l, (s.line l).ceilingTimer ≠ .due → exec (.ceilingTimerExpiry l) s = .next s) ∧
     (∀ c, (s.caseAt c).escalation ≠ .due → exec (.escalationTimerExpiry c) s = .next s) ∧
     (∀ k, (∀ o, (s.crew k).dyn.offer = some o → o.timer ≠ .due) → exec (.offerTimerExpiry k) s = .next s) ∧
     (∀ c, (s.caseAt c).window.minTimer ≠ .due → exec (.minTimerExpiry c) s = .next s) ∧
     (∀ c, (s.caseAt c).window.maxTimer ≠ .due → exec (.maxTimerExpiry c) s = .next s) ∧
     (∀ c, (s.caseAt c).procedure.timer ≠ .due → exec (.stepTimerExpiry c) s = .next s) ∧
     ∀ c, (∀ q, (s.caseAt c).release = some q → q.settle ≠ .due) → exec (.settleTimerExpiry c) s = .next s) ∧
  (∀ (s : State) (l : LineId), s.Busy →
     ((s.line l).state ≠ .waitInterval → (s.line l).intervalTimer = .due →
       exec (.intervalTimerExpiry l) s = .next (s.setLine l { s.line l with intervalTimer := .stopped })) ∧
     ((s.line l).state ≠ .quietIdle → (s.line l).ceilingTimer = .due →
       exec (.ceilingTimerExpiry l) s = .next (s.setLine l { s.line l with ceilingTimer := .stopped })))

/-- R6, R12, R13: the interval timer's end in WAIT_INTERVAL, the ceiling timer's end in QUIET_IDLE and a burst in
QUIET_IDLE each send a START, with no command where there is none to send; the first window opens, both timers
start, and a wake is named. R12, R14, section 1.4: a burst in CYCLE only marks the window that is open, which is
judged when it closes; a burst in WAIT_INTERVAL or OFF is ignored. (That the mark is a field is the model's, log 3.) R4: a START
polls the car slots of enabled lifts and the panel slots of enabled panels, in ascending order. R13: a burst names a slot
where it is a well-formed WAKE naming one of 0 to 19, and is UNKNOWN otherwise. R15, R17: a START carries the command that
the selection of StartsCarryTheFirstCandidate chooses, which leaves its place, and where no slot is polled the STOP follows at
once (R6, R11). R18: where that is a case's pending command, the command is cleared, and its owner is told: a procedure that waits
for the delivery goes on (R117), here to an END(HANDOVER), and one that does not is left alone; a release with its pulse pending
counts it and goes to SETTLING with RELEASE_PULSE (R135). -/
def Obligations.TimersAndWakesBeginOneCycle : Prop :=
  (∀ (s : State) (l : LineId) (first : Slot) (slots : List Slot), s.Busy → s.NothingToSend l →
     s.slotSet l = first :: slots →
     ((s.line l).state = .waitInterval → (s.line l).intervalTimer = .due →
       exec (.intervalTimerExpiry l) s = .next (s.setLine l (s.polling l none first slots))) ∧
     ((s.line l).state = .quietIdle → (s.line l).ceilingTimer = .due →
       exec (.ceilingTimerExpiry l) s = .next (s.setLine l (s.polling l none first slots))) ∧
     ∀ burst, (s.line l).state = .quietIdle →
       exec (.wake l burst) s = .next (s.setLine l (s.polling l (some (wakeSourceOf burst)) first slots))) ∧
  (∀ (s : State) (l : LineId) (burst : List Byte),
     ((s.line l).state = .cycle → (s.line l).currentSlot.isSome = true →
       exec (.wake l burst) s = .next (s.setLine l { s.line l with collided := true }) ∧
       exec (.wakeBurstInCycle l) s = .next (s.setLine l { s.line l with collided := true })) ∧
     ((s.line l).state = .waitInterval ∨ (s.line l).state = .off →
       exec (.wake l burst) s = .next s ∧ exec (.wakeBurstInCycle l) s = .next s)) ∧
  (∀ (s : State) (l : LineId),
     (∀ k : Fin 16, carSlot k ∈ s.slotSet l ↔ (s.lift (liftAt l k)).config.enabled = true) ∧
     (∀ k : Fin 4, panelSlot k ∈ s.slotSet l ↔ (s.panel (panelAt l k)).config.enabled = true) ∧
     (s.slotSet l).Pairwise (· < ·)) ∧
  (∀ (burst : List Byte) (slot : Slot), wakeSourceOf burst = .slot slot ↔
     ∃ b : Byte, burst = [5#8, b] ++ checkBytes (lineCrc [5#8, b]) ∧ b.toNat % 32 = slot.val) ∧
  ∀ (s : State) (l : LineId) (t : Option WakeSource → State),
     let starts : Prop :=
       ((s.line l).state = .waitInterval → (s.line l).intervalTimer = .due →
         exec (.intervalTimerExpiry l) s = .next (t none)) ∧
       ((s.line l).state = .quietIdle → (s.line l).ceilingTimer = .due →
         exec (.ceilingTimerExpiry l) s = .next (t none)) ∧
       ∀ burst, (s.line l).state = .quietIdle → exec (.wake l burst) s = .next (t (some (wakeSourceOf burst)))
     let x := s.select l (s.slotSet l)
     let begun (w : Option WakeSource) : State :=
       s.setLine l { s.startedWith l w x.command (s.slotSet l) with answers := x.answers, routine := x.routine }
     (x.delivered = none → s.Busy → s.slotSet l ≠ [] → (∀ w, t w = begun w) → starts) ∧
     (s.Busy → s.slotSet l = [] → (∀ w, t w = (stopLine (begun w) l).1) → starts) ∧
     ∀ c m, x.delivered = some (c, m) →
       let a := s.caseAt c
       let p := a.procedure
       (s.Busy → m.owner = .procedure → (p.status ≠ .running ∨ p.wait ≠ .delivery) →
         (∀ w, t w = (begun w).setCase c { a with pending := none }) → starts) ∧
       (s.Ready 1 → a.owed = false → m.owner = .procedure → p.status = .running → p.wait = .delivery →
         ∀ step : Fin 16, step.val = p.step.val + 1 →
         (s.stepOf { p with step := step }).action = 12 → (s.stepOf { p with step := step }).argument = 2 →
         let handed := { a with
           pending := none, procedure := { p with step := step, status := .handedOver, wait := .none, timer := .stopped } }
         (∀ w, t w = ((begun w).setCase c handed).withNotice c handed .handover (.handover .ended)) → starts) ∧
       (s.Ready 1 → a.owed = false → ∀ sequence direction q, m = ⟨.brakePulse sequence direction, .release⟩ →
         a.release = some q → q.sub = .pulsePending →
         let settling := { a with
           pending := none
           pulses := min 63 (a.pulses + 1)
           release := some { q with sequence := sequence, settle := .running s.settings.settleLimit, sub := .settling } }
         (∀ w, t w = ((begun w).setCase c settling).withNotice c settling .releasePulse
           (.pulse settling.pulses ((s.lift a.lift).dyn.lastReport.map CarRecord.position))) → starts)

/-- R71, R72: the escalation timer of an open case runs out: the urgency improves, the count goes up, stopping at
15, the declined set empties, ESCALATED is made with the new urgency and count, and the timer starts again; below
the handover limit the procedure goes on; at the limit one that is RUNNING is handed over with reason ESCALATION, its wait ended
and a command it waits on withdrawn (R115), and one that is not is left as it is. R102, R104: the min timer's end sets its mark
and nothing else; the max timer's end sets its mark, and makes a case that is ASSIGNED late: the urgency improves, and LATE is
made. -/
def Obligations.CaseTimersImproveTheUrgency : Prop :=
  (∀ (s : State) (c : CaseNo), s.Ready 2 → s.isOpen c = true → (s.caseAt c).escalation = .due →
     (s.caseAt c).owed = false →
     let p := (s.caseAt c).procedure
     let r := { s.caseAt c with
       urgency := (s.caseAt c).urgency - 1
       escalations := min 15 ((s.caseAt c).escalations + 1)
       declined := []
       escalation := .running (s.caseAt c).interval }
     let u := (s.setCase c r).withNotice c r .escalated (.count r.escalations)
     let handed := { r with
       procedure := { p with status := .handedOver, wait := .none, timer := .stopped }
       pending := match r.pending with
         | some q => if p.wait = .delivery ∧ q.owner = .procedure then none else some q
         | none => none }
     ((r.escalations < r.limit ∨ p.status ≠ .running) → exec (.escalationTimerExpiry c) s = .next u) ∧
     (r.limit ≤ r.escalations → p.status = .running → exec (.escalationTimerExpiry c) s =
       .next ((u.setCase c handed).withNotice c handed .handover (.handover .escalation)))) ∧
  (∀ (s : State) (c : CaseNo), s.Ready 1 → s.isOpen c = true → (s.caseAt c).escalation = .due →
     (s.caseAt c).owed = false → min 15 ((s.caseAt c).escalations + 1) < (s.caseAt c).limit →
     let r := { s.caseAt c with
       urgency := (s.caseAt c).urgency - 1
       escalations := min 15 ((s.caseAt c).escalations + 1)
       declined := []
       escalation := .running (s.caseAt c).interval }
     exec (.escalationTimerExpiry c) s =
       .next ((s.setCase c r).withNotice c r .escalated (.count r.escalations))) ∧
  (∀ (s : State) (c : CaseNo),
     ((s.caseAt c).window.minTimer = .due → exec (.minTimerExpiry c) s = .next (s.setCase c { s.caseAt c with
       window := { (s.caseAt c).window with minTimer := .stopped, minRunOut := true } })) ∧
     ((s.caseAt c).window.maxTimer = .due → s.isOpen c = true → (s.caseAt c).dispatch = .assigned → s.Ready 1 →
       (s.caseAt c).owed = false →
       let r := { s.caseAt c with
         window := { (s.caseAt c).window with maxTimer := .stopped, maxRunOut := true }
         urgency := (s.caseAt c).urgency - 1
         late := true }
       exec (.maxTimerExpiry c) s = .next ((s.setCase c r).withNotice c r .late .none)) ∧
     ((s.caseAt c).window.maxTimer = .due → (s.caseAt c).dispatch ≠ .assigned → s.Busy →
       exec (.maxTimerExpiry c) s = .next (s.setCase c { s.caseAt c with
         window := { (s.caseAt c).window with maxTimer := .stopped, maxRunOut := true } })))

/-- R98, R100: a crew's offer runs out: the offer is cleared, the case returns to WAITING with no crew, the crew enters its
declined set once, OFFER_EXPIRED names the crew, and CALL follows. No answer is made and no offer lost mark is set. (That the
tags in CALL stand in crew record order is the model's choice, log 38.) -/
def Obligations.OfferExpiryReturnsTheCase : Prop :=
  ∀ (s : State) (k : CrewNo) (c : CaseNo), s.Ready 2 → (s.crew k).dyn.offer = some ⟨c, .due⟩ →
    (s.caseAt c).owed = false →
    let r := { s.caseAt c with
      dispatch := .waiting
      crew := none
      declined := if k ∈ (s.caseAt c).declined then (s.caseAt c).declined else (s.caseAt c).declined ++ [k] }
    let u := (s.setCrewDyn k { (s.crew k).dyn with offer := none }).setCase c r
    exec (.offerTimerExpiry k) s =
      .next ((u.withNotice c r .offerExpired (.tag (s.crew k).config.tag)).withCall c r)

/-- R111, R117, R121: the step timer of a waiting step runs out: the step fails, a command that the procedure set is
withdrawn, and the activation goes on from the branch; here the branch names an END(HANDOVER) step, which hands the
procedure over (R125, R115). R124, R139: where the step is a RELEASE, its release ends first: the record is discarded, a
BRAKE_PULSE not yet sent is cleared, and RELEASE_ABORTED TIMEOUT is made. R136, R132: the settle timer runs out in SETTLING: the
release record is discarded and RELEASE_ABORTED NO_ECHO is made; the pulses stay counted. A procedure that is RUNNING and waits
for the release fails its step after that notice, here again to an END(HANDOVER); one that does not is told nothing. -/
def Obligations.StepAndSettleTimersEndTheirWaits : Prop :=
  (∀ (s : State) (c : CaseNo), s.Ready 1 → s.isOpen c = true → (s.caseAt c).owed = false →
     (s.caseAt c).procedure.status = .running → (s.caseAt c).procedure.timer = .due →
     ((∃ e, (s.caseAt c).procedure.wait = .event e) ∨ (s.caseAt c).procedure.wait = .delivery) →
     let p := (s.caseAt c).procedure
     let at' := { p with step := (s.stepOf p).target, onCommon := (s.stepOf p).common }
     (s.stepOf at').action = 12 → (s.stepOf at').argument = 2 →
     let r := { s.caseAt c with
       procedure := { at' with status := .handedOver, wait := .none, timer := .stopped }
       pending := match (s.caseAt c).pending with
         | some q => if p.wait = .delivery ∧ q.owner = .procedure then none else some q
         | none => none }
     exec (.stepTimerExpiry c) s = .next ((s.setCase c r).withNotice c r .handover (.handover .ended))) ∧
  (∀ (s : State) (c : CaseNo) (q : Release), s.Ready 2 → s.isOpen c = true → (s.caseAt c).owed = false →
     (s.caseAt c).release = some q → (s.caseAt c).procedure.status = .running → (s.caseAt c).procedure.wait = .release →
     let p := (s.caseAt c).procedure
     let at' := { p with step := (s.stepOf p).target, onCommon := (s.stepOf p).common }
     (s.stepOf at').action = 12 → (s.stepOf at').argument = 2 →
     let ended := { s.caseAt c with
       release := none
       pending := match (s.caseAt c).pending with
         | some m => if q.sub = .pulsePending ∧ m.owner = .release then none else some m
         | none => none }
     let handed := { ended with procedure := { at' with status := .handedOver, wait := .none, timer := .stopped } }
     let after (why : AbortReason) : State :=
       (((s.setCase c ended).withNotice c ended .releaseAborted (.aborted why ended.pulses)).setCase c handed).withNotice c
         handed .handover (.handover .ended)
     (p.timer = .due → exec (.stepTimerExpiry c) s = .next (after .timeout)) ∧
     (q.sub = .settling → q.settle = .due → exec (.settleTimerExpiry c) s = .next (after .noEcho))) ∧
  (∀ (s : State) (c : CaseNo) (q : Release), s.Ready 1 → s.isOpen c = true → (s.caseAt c).owed = false →
     (s.caseAt c).release = some q → q.sub = .settling → q.settle = .due →
     ((s.caseAt c).procedure.status ≠ .running ∨ (s.caseAt c).procedure.wait ≠ .release) →
     let r := { s.caseAt c with release := none }
     exec (.settleTimerExpiry c) s =
       .next ((s.setCase c r).withNotice c r .releaseAborted (.aborted .noEcho (s.caseAt c).pulses)))

/-! ### Windows and wakes -/

/-- R7, R8, R45, R47, R54: nothing in a car slot's window, the silence below its threshold and no cause true: the
silence count goes up, stopping at 15, nothing is told of, and the window of the next slot in the set opens. R10,
R7, R14: a panel slot that is silent with its hold not active keeps every field, and the window counts one line
error (saturating) exactly where it held an unfinished frame or a collision, and none where it held nothing. A taken
report is stored in the lift record, its state set, and a summary made in the mode ALL; here no cause is enabled, no
case is open on the lift and the mode is not CHANGES. R9: a taken PANEL answer brings the panel's dynamic fields up to date;
here it makes no request and no lift's SHARED is to be re-evaluated. R88, R137: a crew that leaves loses its logged panel where
that is this one, and a release it made from this panel aborts CREW_LEFT; one that logs in takes this panel as its logged panel.
R103: the login is an arrival at its first held ASSIGNED case on the panel's line, judged by the min timer, with its notice
alone. R9 step 2: a request whose toggle differs is the command of its kind by the panel's route. R8: a slot whose record is no
longer enabled hands nothing on; its error counts all the same. R7, R11: where the window that closes was the last of the cycle, the
STOP follows: the line waits for its interval, or stands in QUIET_IDLE, by the next mode, and where the timer it would wait for no
longer runs, the next START follows at once. (Reports of a lift with an open case, or that raise a cause, are stated in
ReportsSetTheLiftState.) -/
def Obligations.WindowsHandOnTheirOutcome : Prop :=
  (∀ (s : State) (l : LineId) (k : Fin 16) (next : Slot), s.Busy →
     (s.line l).state = .cycle → (s.line l).currentSlot = some (carSlot k) → (s.line l).collided = false →
     (s.line l).slotSet.find? (fun x => carSlot k < x) = some next →
     let i := liftAt l k
     (s.lift i).config.enabled = true → (s.lift i).dyn.truth = .empty → s.truthOf i = .empty →
     min 15 ((s.lift i).dyn.silenceCount + 1) < (s.lift i).config.silence →
     exec (.answerWindowClose l .nothing) s = .next
       ((s.setLift i { s.lift i with dyn := { (s.lift i).dyn with
           silenceCount := min 15 ((s.lift i).dyn.silenceCount + 1) } }).setLine l
         { s.line l with currentSlot := some next })) ∧
  (∀ (s : State) (l : LineId) (k : Fin 4) (next : Slot) (held : WindowHeld), s.Busy →
     (s.line l).state = .cycle → (s.line l).currentSlot = some (panelSlot k) →
     (s.line l).slotSet.find? (fun x => panelSlot k < x) = some next →
     (s.panel (panelAt l k)).dyn.hold = false → (held = .nothing ∨ held = .unfinished ∨ (s.line l).collided = true) →
     exec (.answerWindowClose l held) s = .next (s.setLine l { s.line l with
       currentSlot := some next
       collided := false
       errors := if held = .nothing ∧ (s.line l).collided = false then (s.line l).errors
         else min 65535 ((s.line l).errors + 1) })) ∧
  (∀ (s : State) (l : LineId) (k : Fin 16) (next : Slot) (held : WindowHeld) (r : CarReport), s.Ready 1 →
    (s.line l).state = .cycle → (s.line l).currentSlot = some (carSlot k) →
    (s.line l).slotSet.find? (fun x => carSlot k < x) = some next →
    judgeWindow (carSlot k) (s.line l).collided held = .report r →
    let i := liftAt l k
    let g := (s.lift i).config
    let d := (s.lift i).dyn
    g.enabled = true → d.openCase = none → d.truth = .empty → (∀ x, (g.cause x).enabled = false) →
    g.forwarding ≠ .changes →
    let zone := inDoorZone g.landings g.doorZone r.position
    let stops := stopCountAfter d.stopCount (moving g.creep r.velocityCode) zone
    let d1 := { d with
      state := liftStateOf r.mode (moving g.creep r.velocityCode) zone stops g.debounce
      lastReport := some (r.decoded zone)
      nearest := nearestLanding g.landings r.position
      stopCount := stops
      silenceCount := 0
      pressBaseline := some r.presses
      keptTruth := .empty }
    let u := s.setLift i ⟨g, d1⟩
    let v := if g.forwarding = .all then u.withBroadcast (.summary ⟨g.identity, s.time.stamp, d1.state, d1.lastReport⟩)
      else u
    exec (.answerWindowClose l held) s = .next
      (v.setLine l { s.line l with currentSlot := some next, collided := false })) ∧
  (∀ (s : State) (l : LineId) (k : Fin 4) (next : Slot) (held : WindowHeld) (r : PanelReport), s.Ready 1 →
    (s.line l).state = .cycle → (s.line l).currentSlot = some (panelSlot k) →
    (s.line l).slotSet.find? (fun x => panelSlot k < x) = some next →
    judgeWindow (panelSlot k) (s.line l).collided held = .panel r →
    let p := panelAt l k
    let d := (s.panel p).dyn
    (s.panel p).config.enabled = true →
    (d.toggle = none ∨ d.toggle = some r.toggle ∨ r.logged = none ∨ r.request = none) →
    (r.inputs = d.inputs ∨ ∀ n : Fin 16, (s.lift (liftAt l n)).dyn.state = .disabled) →
    let u : State := (s.setPanel p ⟨(s.panel p).config, r.logged, some r.toggle, r.hold, r.pressNumber, r.inputs⟩).setLine l
      { s.line l with currentSlot := some next, collided := false }
    let noneHere : Prop := ∀ c q, s.isOpen c = true → (s.caseAt c).release = some q → q.panel ≠ p
    ((∀ t, r.logged ≠ d.logged → (d.logged = some t ∨ r.logged = some t) → s.resolveTag t = none) →
      (noneHere ∨ (r.hold = d.hold ∧ r.pressNumber = d.pressNumber)) → exec (.answerWindowClose l held) s = .next u) ∧
    (∀ tag j, d.logged = some tag → r.logged = none → s.resolveTag tag = some j →
      let v := u.setCrewDyn j { (s.crew j).dyn with
        logged := if (s.crew j).dyn.logged = some p then none else (s.crew j).dyn.logged }
      (noneHere → exec (.answerWindowClose l held) s = .next v) ∧
      ∀ c q, s.isOpen c = true → (s.caseAt c).release = some q → q.panel = p → (s.caseAt c).crew = some j →
        (∀ e x, e ≠ c → s.isOpen e = true → (s.caseAt e).release = some x → x.panel ≠ p) → (s.caseAt c).owed = false →
        ((s.caseAt c).procedure.status ≠ .running ∨ (s.caseAt c).procedure.wait ≠ .release) →
        let a := { s.caseAt c with
          release := none
          pending := match (s.caseAt c).pending with
            | some m => if q.sub = .pulsePending ∧ m.owner = .release then none else some m
            | none => none }
        exec (.answerWindowClose l held) s =
          .next ((v.setCase c a).withNotice c a .releaseAborted (.aborted .crewLeft a.pulses))) ∧
    ∀ tag j, r.logged = some tag → d.logged ≠ some tag → s.resolveTag tag = some j →
      (∀ t, d.logged = some t → s.resolveTag t = none) → (∀ c, s.isOpen c = true → (s.caseAt c).release = none) →
      (d.toggle = none ∨ d.toggle = some r.toggle ∨ r.request = none) →
      let e := (s.crew j).dyn
      let here := (s.heldOrder j).find? fun c =>
        (s.caseAt c).dispatch == .assigned && lineOf (s.caseAt c).lift == l
      (here = none → exec (.answerWindowClose l held) s = .next (u.setCrewDyn j { e with logged := some p })) ∧
      ∀ c, here = some c → s.isOpen c = true → (s.caseAt c).owed = false →
        (s.caseAt c).procedure.wait ≠ .event .crewArrived →
        let a := s.caseAt c
        let q := { a with dispatch := .onSite, window := { a.window with minTimer := .stopped, maxTimer := .stopped } }
        let q1 := { q with
          seen := { q.seen with crewArrived := true }
          escalation := if q.stop = some .crewArrived then .stopped
            else if q.clear = some .crewArrived ∧ q.escalation ≠ .stopped then .running q.interval else q.escalation }
        (a.window.minRunOut = true → exec (.answerWindowClose l held) s = .next
          ((((u.setCrewDyn j { e with logged := some p }).setCase c q).withNotice c q .arrived .none).setCase c q1)) ∧
        (a.window.minRunOut = false → exec (.answerWindowClose l held) s = .next
          ((u.setCrewDyn j { e with logged := some p, implausible := min 15 (e.implausible + 1) }).withNotice c a
            .implausible (.count (min 15 (e.implausible + 1)))))) ∧
  (∀ (s : State) (l : LineId) (slot : Slot) (held : WindowHeld), s.Busy →
    (s.line l).state = .cycle → (s.line l).currentSlot = some slot →
    ((∃ k : Fin 4, slot = panelSlot k ∧ (s.panel (panelAt l k)).dyn.hold = false ∧
        ∃ error, judgeWindow slot (s.line l).collided held = SlotAnswer.silent error) ∨
      (∃ k : Fin 4, slot = panelSlot k ∧ (s.panel (panelAt l k)).config.enabled = false) ∨
      ∃ k : Fin 16, slot = carSlot k ∧ (s.lift (liftAt l k)).config.enabled = false) →
    let r := { s.line l with
      errors := if judgeWindow slot (s.line l).collided held = SlotAnswer.silent true then min 65535 ((s.line l).errors + 1)
        else (s.line l).errors }
    let waiting := { r with
      state := .waitInterval, mode := .continuous, currentSlot := none, collided := false, lastStop := some .continuous }
    let quiet := { r with
      state := .quietIdle, mode := .quiet, currentSlot := none, collided := false, lastStop := some .quiet }
    let closes (t : State) : Prop := exec (.answerWindowClose l held) s = .next t
    (∀ next, (s.line l).slotSet.find? (fun x => slot < x) = some next →
      closes (s.setLine l { r with currentSlot := some next, collided := false })) ∧
    ((s.line l).slotSet.find? (fun x => slot < x) = none →
      (∀ n, r.intervalTimer = .running n → s.KeepsPolling l → closes (s.setLine l waiting)) ∧
      (∀ n, r.ceilingTimer = .running n → ¬ s.KeepsPolling l → closes (s.setLine l quiet)) ∧
      ∀ first slots, s.NothingToSend l → s.slotSet l = first :: slots →
        ((∀ n, r.intervalTimer ≠ .running n) → s.KeepsPolling l →
          closes (s.setLine l ((s.setLine l waiting).polling l none first slots))) ∧
        ((∀ n, r.ceilingTimer ≠ .running n) → ¬ s.KeepsPolling l →
          closes (s.setLine l ((s.setLine l quiet).polling l none first slots))))) ∧
  ∀ (s : State) (p : PanelIdx) (old toggle : Bool) (tag : Nat) (n : Option (BitVec 16)),
    (s.panel p).dyn.toggle = some old → old ≠ toggle → (s.panel p).dyn.logged = some tag →
    let u := s.setPanelDyn p { (s.panel p).dyn with toggle := some toggle }
    let made (q : CrewRequest) := finish (panelRequest s p toggle (some q) n)
    made .dutyOn = exec (.dutyOn (.panel p) tag) u ∧ made .dutyOff = exec (.dutyOff (.panel p) tag) u ∧
    made .sweepOn = exec (.sweepOn (.panel p) tag) u ∧ made .sweepOff = exec (.sweepOff (.panel p) tag) u ∧
    made .job = exec (.job (.panel p) tag) u ∧ made .accept = exec (.accept (.panel p) tag n) u ∧
    made .decline = exec (.decline (.panel p) tag n) u ∧ made .arrived = exec (.arrived (.panel p) tag n) u ∧
    made .voice = exec (.voice (.panel p) tag n) u ∧ made .standDown = exec (.standDown (.panel p) tag n) u

/-- R7, R14, R1, R173: how a window is judged: a collision, an unfinished frame, a wrong check, a frame of another kind or length
is silent with one error; nothing is silent without; a report with a good check and listed codes is taken; one with a good check
and a code outside its list, a car mode, occupancy or doors code of 3, a crew tag of 255 or a request code of 11 to 15, is silent
with one error. -/
def Obligations.WindowsAreJudgedByTheirFrames : Prop :=
  (∀ slot held, judgeWindow slot true held = .silent true) ∧
  (∀ slot, judgeWindow slot false .unfinished = .silent true ∧ judgeWindow slot false .nothing = .silent false) ∧
  (∀ (slot : Slot) (bytes : List Byte), slot.val < 16 →
    (bytes.length ≠ 11 ∨ bytes[0]? ≠ some 2#8 ∨ bytes.drop 9 ≠ checkBytes (lineCrc (bytes.take 9))) →
    judgeWindow slot false (.frame bytes) = .silent true) ∧
  (∀ (slot : Slot) (bytes : List Byte), 16 ≤ slot.val →
    (bytes.length ≠ 8 ∨ bytes[0]? ≠ some 3#8 ∨ bytes.drop 6 ≠ checkBytes (lineCrc (bytes.take 6))) →
    judgeWindow slot false (.frame bytes) = .silent true) ∧
  (∀ (slot : Slot) (b : Vector Byte 8) (r : CarReport), slot.val < 16 →
    decodeReport b[0] b[1] b[2] b[3] b[4] b[5] b[6] b[7] = some r →
    judgeWindow slot false (.frame (2#8 :: b.toList ++ checkBytes (lineCrc (2#8 :: b.toList)))) = .report r) ∧
  (∀ (slot : Slot) (b : Vector Byte 5) (r : PanelReport), 16 ≤ slot.val →
    decodePanel b[0] b[1] b[2] b[3] b[4] = some r →
    judgeWindow slot false (.frame (3#8 :: b.toList ++ checkBytes (lineCrc (3#8 :: b.toList)))) = .panel r) ∧
  (∀ (slot : Slot) (b : Vector Byte 8), slot.val < 16 →
    let unlisted : Prop := b[0].toNat / 64 = 3 ∨ b[6].toNat / 64 = 3 ∨ b[6].toNat / 16 % 4 = 3
    (unlisted ↔ decodeReport b[0] b[1] b[2] b[3] b[4] b[5] b[6] b[7] = none) ∧
    (unlisted → judgeWindow slot false (.frame (2#8 :: b.toList ++ checkBytes (lineCrc (2#8 :: b.toList)))) = .silent true)) ∧
  ∀ (slot : Slot) (b : Vector Byte 5), 16 ≤ slot.val →
    let unlisted : Prop := b[0].toNat = 255 ∨ 10 < b[1].toNat / 8 % 16
    (unlisted ↔ decodePanel b[0] b[1] b[2] b[3] b[4] = none) ∧
    (unlisted → judgeWindow slot false (.frame (3#8 :: b.toList ++ checkBytes (lineCrc (3#8 :: b.toList)))) = .silent true)

/-! ### The trunk -/

/-- R147 to R149: a bad frame on NEAR is counted; a good frame for another address joins the forward queue while FAR is UP
and there is room, and is dropped and counted otherwise; a frame for this address of another kind is counted; one of another
kind for the broadcast address is both offered to the forward queue and counted; while NEAR is DOWN nothing is received. (Frames
taken for their kind are stated in FramesAndCommandsAgree.) -/
def Obligations.NearFramesAreTakenForwardedOrCounted : Prop :=
  ∀ (s : State) (bytes : List Byte), s.Busy →
    (s.trunk.nearUp = false → exec (.nearFrameReceived bytes) s = .next s) ∧
    (s.trunk.nearUp = true → readTrunk bytes = none → exec (.nearFrameReceived bytes) s = .next { s with
      trunk := { s.trunk with counters := { s.trunk.counters with nearCheck := satInc 65535 s.trunk.counters.nearCheck } } }) ∧
    ∀ f, s.trunk.nearUp = true → readTrunk bytes = some f →
      (f.destination ≠ s.straps.setWidth 16 → f.destination ≠ 0xFFFF#16 →
        exec (.nearFrameReceived bytes) s = .next { s with trunk :=
          if s.trunk.farUp = true ∧ s.trunk.forward.length < 16 then { s.trunk with forward := s.trunk.forward ++ [bytes] }
          else { s.trunk with counters := { s.trunk.counters with
            forwardDrops := satInc 65535 s.trunk.counters.forwardDrops } } }) ∧
      (f.destination = s.straps.setWidth 16 → f.kind.toNat ≠ 1 → f.kind.toNat ≠ 2 → f.kind.toNat ≠ 3 →
        exec (.nearFrameReceived bytes) s = .next { s with trunk := { s.trunk with counters := { s.trunk.counters with
          nearKind := satInc 65535 s.trunk.counters.nearKind } } }) ∧
      (f.destination = 0xFFFF#16 → f.kind.toNat ≠ 1 → f.kind.toNat ≠ 2 → f.kind.toNat ≠ 3 →
        exec (.nearFrameReceived bytes) s = .next { s with trunk :=
          if s.trunk.farUp = true ∧ s.trunk.forward.length < 16 then { s.trunk with
            forward := s.trunk.forward ++ [bytes]
            counters := { s.trunk.counters with nearKind := satInc 65535 s.trunk.counters.nearKind } }
          else { s.trunk with counters := { s.trunk.counters with
            nearKind := satInc 65535 s.trunk.counters.nearKind
            forwardDrops := satInc 65535 s.trunk.counters.forwardDrops } } })

/-- R148, R156, R160: a good frame for this address is handled as the command its body spells: a MGMT body as its request, a
CONTROL body as its command, a CREW body as its request by the trunk route; one for the broadcast address is offered to the
forward queue too. That the frame and the table's own command have one meaning is the model's choice (log 24), that a CONTROL
frame for INHIBIT or RESTORE is taken with any argument byte g likewise (log 30), and that a broadcast frame is offered before
it is acted on likewise (log 39). R161, R173: which MGMT bodies decode; one that does not is answered BAD_VALUE under its kind byte,
and a CONTROL body that is not one of the four likewise; R89: a CREW body that is not one of the ten requests is answered BAD_INDEX
for a tag that resolves to nothing and BAD_VALUE, the offer lost mark becoming absent, for one that does; nothing else changes. (The
request-kind byte of an empty MGMT body and of a CONTROL body, and the tag of an empty CREW body, are free values, log 10.) -/
def Obligations.FramesAndCommandsAgree : Prop :=
  (∀ (s : State) (bytes : List Byte) (f : TrunkFrame), s.trunk.nearUp = true → readTrunk bytes = some f →
    (f.destination = s.straps.setWidth 16 ∨ f.destination = 0xFFFF#16) →
    let o : Origin := ⟨f.source, f.tag⟩
    let u : State := if f.destination = s.straps.setWidth 16 then s else { s with trunk :=
      if s.trunk.farUp = true ∧ s.trunk.forward.length < 16 then { s.trunk with forward := s.trunk.forward ++ [bytes] }
      else { s.trunk with counters := { s.trunk.counters with
        forwardDrops := satInc 65535 s.trunk.counters.forwardDrops } } }
    (f.kind = 1#8 →
      (∀ t i, decodeMgmt f.body = some (.read t i) → exec (.nearFrameReceived bytes) s = exec (.read o t i) u) ∧
      (∀ i w, decodeMgmt f.body = some (.writeLift i w) → exec (.nearFrameReceived bytes) s = exec (.writeLift o i w) u) ∧
      (∀ i w, decodeMgmt f.body = some (.writePanel i w) → exec (.nearFrameReceived bytes) s = exec (.writePanel o i w) u) ∧
      (∀ i w, decodeMgmt f.body = some (.writeCrew i w) → exec (.nearFrameReceived bytes) s = exec (.writeCrew o i w) u) ∧
      (∀ i w, decodeMgmt f.body = some (.writeClass i w) → exec (.nearFrameReceived bytes) s = exec (.writeClass o i w) u) ∧
      (∀ i a b, decodeMgmt f.body = some (.writeTravel i a b) →
        exec (.nearFrameReceived bytes) s = exec (.writeTravel o i a b) u) ∧
      (∀ i w, decodeMgmt f.body = some (.writeStep i w) → exec (.nearFrameReceived bytes) s = exec (.writeStep o i w) u) ∧
      (∀ i w, decodeMgmt f.body = some (.writeSettings i w) →
        exec (.nearFrameReceived bytes) s = exec (.writeSectorSettings o i w) u) ∧
      (∀ i m, decodeMgmt f.body = some (.setForward i m) → exec (.nearFrameReceived bytes) s = exec (.setForward o i m) u) ∧
      (∀ l, decodeMgmt f.body = some (.lineEnable l) → exec (.nearFrameReceived bytes) s = exec (.lineEnable o l) u) ∧
      (∀ l, decodeMgmt f.body = some (.lineDisable l) → exec (.nearFrameReceived bytes) s = exec (.lineDisable o l) u) ∧
      (∀ l, decodeMgmt f.body = some (.lineReset l) → exec (.nearFrameReceived bytes) s = exec (.lineReset o l) u) ∧
      (∀ i, decodeMgmt f.body = some (.setBottom i) → exec (.nearFrameReceived bytes) s = exec (.setBottom o i) u) ∧
      (∀ k, decodeMgmt f.body = some (.survey k) → exec (.nearFrameReceived bytes) s = exec (.survey o k) u) ∧
      (∀ n, decodeMgmt f.body = some (.caseOpen n) → exec (.nearFrameReceived bytes) s = exec (.caseOpen o n) u) ∧
      (∀ n, decodeMgmt f.body = some (.caseClose n) → exec (.nearFrameReceived bytes) s = exec (.caseClose o n) u) ∧
      (∀ r, decodeMgmt f.body = some (.readCase r) → exec (.nearFrameReceived bytes) s = exec (.readCase o r) u) ∧
      (decodeMgmt f.body = some .readCounters → exec (.nearFrameReceived bytes) s = exec (.readCounters o) u) ∧
      ∀ n, decodeMgmt f.body = some (.warmRestart n) → exec (.nearFrameReceived bytes) s = exec (.warmRestart o n) u) ∧
    (f.kind = 2#8 → ∀ a b g : Byte,
      (f.body = [a, b, 1#8, g] → exec (.nearFrameReceived bytes) s = exec (.controlInhibit o (num2 a b)) u) ∧
      (f.body = [a, b, 2#8, g] → exec (.nearFrameReceived bytes) s = exec (.controlRestore o (num2 a b)) u) ∧
      (f.body = [a, b, 3#8, g] → exec (.nearFrameReceived bytes) s = exec (.controlAnnounce o (num2 a b) g.toNat) u) ∧
      (f.body = [a, b, 5#8, g] → exec (.nearFrameReceived bytes) s = exec (.controlService o (num2 a b) g.toNat) u)) ∧
    (f.kind = 3#8 → ∀ tag m a b : Byte, let n := if m.getLsbD 0 then some (word2 a b) else none
      (f.body = [tag, 1#8, m, a, b] → exec (.nearFrameReceived bytes) s = exec (.dutyOn (.trunk o) tag.toNat) u) ∧
      (f.body = [tag, 2#8, m, a, b] → exec (.nearFrameReceived bytes) s = exec (.dutyOff (.trunk o) tag.toNat) u) ∧
      (f.body = [tag, 3#8, m, a, b] → exec (.nearFrameReceived bytes) s = exec (.sweepOn (.trunk o) tag.toNat) u) ∧
      (f.body = [tag, 4#8, m, a, b] → exec (.nearFrameReceived bytes) s = exec (.sweepOff (.trunk o) tag.toNat) u) ∧
      (f.body = [tag, 5#8, m, a, b] → exec (.nearFrameReceived bytes) s = exec (.job (.trunk o) tag.toNat) u) ∧
      (f.body = [tag, 6#8, m, a, b] → exec (.nearFrameReceived bytes) s = exec (.accept (.trunk o) tag.toNat n) u) ∧
      (f.body = [tag, 7#8, m, a, b] → exec (.nearFrameReceived bytes) s = exec (.decline (.trunk o) tag.toNat n) u) ∧
      (f.body = [tag, 8#8, m, a, b] → exec (.nearFrameReceived bytes) s = exec (.arrived (.trunk o) tag.toNat n) u) ∧
      (f.body = [tag, 9#8, m, a, b] → exec (.nearFrameReceived bytes) s = exec (.voice (.trunk o) tag.toNat n) u) ∧
      (f.body = [tag, 10#8, m, a, b] → exec (.nearFrameReceived bytes) s = exec (.standDown (.trunk o) tag.toNat n) u)) ∧
    (s.Ready 1 →
      let drawn : State := { u with freeDraws := u.freeDraws + 1 }
      let answers (t : State) : Prop := exec (.nearFrameReceived bytes) s = .next t
      (f.kind = 1#8 →
        (∀ kind rest, f.body = kind :: rest → decodeMgmt f.body = none → answers (u.withAnswer o kind .badValue .none)) ∧
        (f.body = [] → ∃ kind, answers (drawn.withAnswer o kind .badValue .none))) ∧
      (f.kind = 2#8 → (f.body.length ≠ 4 ∨ ∃ c, f.body[2]? = some c ∧ c ∉ [1#8, 2#8, 3#8, 5#8]) →
        ∃ kind, answers (drawn.withAnswer o kind .badValue .none)) ∧
      (f.kind = 3#8 →
        (∀ tag rest, f.body = tag :: rest → (rest.length ≠ 4 ∨ ∃ c, rest[0]? = some c ∧ (c = 0#8 ∨ 10#8 < c)) →
          (s.resolveTag tag.toNat = none → answers (u.withCrewAnswer (.trunk o) tag.toNat .badIndex none none)) ∧
          ∀ k, s.resolveTag tag.toNat = some k → answers ((u.setCrewDyn k { (s.crew k).dyn with offerLost := none }).withCrewAnswer
            (.trunk o) tag.toNat .badValue none none)) ∧
        (f.body = [] → ∃ tag : Byte, answers (drawn.withCrewAnswer (.trunk o) tag.toNat .badValue none none))))) ∧
  decodeMgmt [] = none ∧
  ∀ (kind : Byte) (rest : List Byte), decodeMgmt (kind :: rest) ≠ none ↔
    (kind ∈ [1#8, 3#8, 9#8, 10#8] ∧ rest.length = 2) ∨
    (kind ∈ [4#8, 5#8, 6#8, 7#8, 8#8, 11#8, 13#8] ∧ rest.length = 1) ∨
    (kind = 12#8 ∧ rest = []) ∨
    (kind = 2#8 ∧ ∃ table index record, rest = table :: index :: record ∧
      ((table = 0#8 ∧ ∃ n, record[3]? = some n ∧ record.length = 23 + 3 * n.toNat) ∨
        (table = 1#8 ∧ record.length = 9) ∨ (table = 2#8 ∧ record.length = 4) ∨ (table = 3#8 ∧ record.length = 8) ∨
        (table = 4#8 ∧ record.length = 4) ∨ (table = 5#8 ∧ record.length = 5) ∨ (table = 6#8 ∧ record.length = 29)))

/-- R150, R147: a frame on FAR is dealt with whatever its destination and kind: a bad one is counted, a good one joins the
relay queue of up to 16, and is dropped and counted where the queue is full; it is never taken. -/
def Obligations.FarFramesAreRelayedOrCounted : Prop :=
  ∀ (s : State) (bytes : List Byte), s.Busy →
    (s.trunk.farUp = false → exec (.farFrameReceived bytes) s = .next s) ∧
    (s.trunk.farUp = true → readTrunk bytes = none → exec (.farFrameReceived bytes) s = .next { s with
      trunk := { s.trunk with counters := { s.trunk.counters with farCheck := satInc 65535 s.trunk.counters.farCheck } } }) ∧
    (s.trunk.farUp = true → readTrunk bytes ≠ none → exec (.farFrameReceived bytes) s = .next { s with trunk :=
      if s.trunk.relay.length < 16 then { s.trunk with relay := s.trunk.relay ++ [bytes] }
      else { s.trunk with counters := { s.trunk.counters with
        relayDrops := satInc 65535 s.trunk.counters.relayDrops } } })

/-- R147, R149: a side that goes DOWN loses the frame in transmission without a count; FAR going from UP to DOWN discards
every frame still waiting, each counted; a side that is UP already is left as it is. R155: NEAR coming UP begins at once where a
frame waits in the own or the relay queue, and chooses between their heads as at the end of a transmission (here stated for a
port that owes no notice, and in general as that very choice); where nothing waits it only shows UP. FAR coming UP begins
with the head of the forward queue where a frame waits (which no run reaches while FAR is DOWN), and only shows UP where none
does. -/
def Obligations.LinkChangesLoseWhatWasLeaving : Prop :=
  (∀ s : State, s.Busy →
    exec (.linkStateChange .near false) s = .next { s with trunk := { s.trunk with nearUp := false, nearTx := none } } ∧
    exec (.linkStateChange .far false) s = .next { s with trunk :=
      if s.trunk.farUp = true then { s.trunk with
        farUp := false, farTx := none, forward := []
        counters := { s.trunk.counters with
          forwardDrops := min 65535 (s.trunk.counters.forwardDrops + s.trunk.forward.length) } }
      else s.trunk } ∧
    (s.trunk.nearUp = true → exec (.linkStateChange .near true) s = .next s) ∧
    (s.trunk.farUp = true → exec (.linkStateChange .far true) s = .next s) ∧
    (s.trunk.nearUp = false → s.trunk.nearTx = none → s.trunk.own = [] → s.trunk.relay = [] →
      exec (.linkStateChange .near true) s = .next { s with trunk := { s.trunk with nearUp := true } }) ∧
    (s.trunk.farUp = false → s.trunk.farTx = none → s.trunk.forward = [] →
      exec (.linkStateChange .far true) s = .next { s with trunk := { s.trunk with farUp := true } }) ∧
    (s.trunk.farUp = false → s.trunk.farTx = none → ∀ b rest, s.trunk.forward = b :: rest →
      exec (.linkStateChange .far true) s = .next { s with trunk := { s.trunk with
        farUp := true, forward := rest, farTx := some b } })) ∧
  (∀ s : State, s.trunk.nearUp = false → s.trunk.nearTx = none → (s.trunk.farUp = true → s.trunk.farTx ≠ none) →
    (∀ c, (s.caseAt c).owed = false) →
    (∀ b rest, s.trunk.own = [] → s.trunk.relay = b :: rest →
      exec (.linkStateChange .near true) s = .next { s with trunk := { s.trunk with
        nearUp := true, relay := rest, nearTx := some (.relayed b) } }) ∧
    (∀ f rest, s.trunk.own = f :: rest → (s.trunk.relay = [] ∨ f.isSummary = false) →
      exec (.linkStateChange .near true) s = .next { s with trunk := { s.trunk with
        nearUp := true, own := rest, nearTx := some (.own f) } }) ∧
    ∀ f rest b others, s.trunk.own = f :: rest → f.isSummary = true → s.trunk.relay = b :: others →
      (s.trunk.turn = .relay → exec (.linkStateChange .near true) s = .next { s with trunk := { s.trunk with
        nearUp := true, relay := others, nearTx := some (.relayed b), turn := .own } }) ∧
      (s.trunk.turn = .own → exec (.linkStateChange .near true) s = .next { s with trunk := { s.trunk with
        nearUp := true, own := rest, nearTx := some (.own f), turn := .relay } })) ∧
  ∀ s : State, s.trunk.nearUp = false → s.trunk.nearTx = none →
    exec (.linkStateChange .near true) s = exec .nearTransmitComplete { s with trunk := { s.trunk with nearUp := true } }

/-- R155: the NEAR transmitter becomes idle and chooses: alone, the head that waits; the own head where it is not a
summary; between a relay head and a summary, the turn mark, which then moves to the other; nothing where nothing
waits. No notice is owed here (R154 has its own statement). R149: the FAR transmitter becomes idle and takes the
head of the forward queue, which leaves the queue; it sends nothing else. -/
def Obligations.TransmittersChooseTheirNextFrame : Prop :=
  (∀ s : State, s.trunk.nearUp = true → (s.trunk.farUp = true → s.trunk.farTx ≠ none) →
     (∀ c, (s.caseAt c).owed = false) →
     (s.trunk.own = [] → s.trunk.relay = [] →
       exec .nearTransmitComplete s = .next { s with trunk := { s.trunk with nearTx := none } }) ∧
     (∀ b rest, s.trunk.own = [] → s.trunk.relay = b :: rest →
       exec .nearTransmitComplete s = .next { s with trunk := { s.trunk with relay := rest, nearTx := some (.relayed b) } }) ∧
     (∀ f rest, s.trunk.own = f :: rest → (s.trunk.relay = [] ∨ f.isSummary = false) →
       exec .nearTransmitComplete s = .next { s with trunk := { s.trunk with own := rest, nearTx := some (.own f) } }) ∧
     ∀ f rest b others, s.trunk.own = f :: rest → f.isSummary = true → s.trunk.relay = b :: others →
       (s.trunk.turn = .relay → exec .nearTransmitComplete s = .next { s with trunk := { s.trunk with
         relay := others, nearTx := some (.relayed b), turn := .own } }) ∧
       (s.trunk.turn = .own → exec .nearTransmitComplete s = .next { s with trunk := { s.trunk with
         own := rest, nearTx := some (.own f), turn := .relay } })) ∧
  (∀ s : State, s.trunk.farUp = true → (s.trunk.nearUp = true → s.trunk.nearTx ≠ none) →
     (s.trunk.forward = [] → exec .farTransmitComplete s = .next { s with trunk := { s.trunk with farTx := none } }) ∧
     ∀ b rest, s.trunk.forward = b :: rest →
       exec .farTransmitComplete s = .next { s with trunk := { s.trunk with forward := rest, farTx := some b } })

/-- R154: a departure from the own queue gives the freed place to the lowest owed case; for an OPEN record a SNAPSHOT is made
as the case then stands, takes the sequence, joins the tail, and the flag is cleared; for a CLOSING record the CLOSED notice is
sent with the reason, the urgency, the dispatch state, the crew's tag, the identity and the stamp of the close, where its fields were
fixed (R82), and the record becomes FREE (R77); here no latch waits for it (R66). R151, R152: in a
queue of 32 frames a notice-class frame displaces the oldest summary, which is counted; with no summary in it an ANSWER is lost
and counted, a CALL, TABLE_FULL or RESTARTED dropped and counted, and a case's notice is owed; a summary is dropped and counted.
R153: while a case's flag is set its notices fold into it. The sequence is taken all the same. -/
def Obligations.DepartureServesTheLowestOwedCase : Prop :=
  (∀ (s : State) (c : CaseNo) (f : OwnFrame) (rest : List OwnFrame),
    s.trunk.nearUp = true → (s.trunk.farUp = true → s.trunk.farTx ≠ none) →
    s.trunk.own = f :: rest → f.isSummary = false →
    (s.caseAt c).owed = true → (∀ d < c, (s.caseAt d).owed = false) →
    let r := s.caseAt c
    let u : State := { s with trunk := { s.trunk with own := rest, nearTx := some (.own f) } }
    (s.isOpen c = true → exec .nearTransmitComplete s = .next
      ((u.withNotice c r .snapshot (.snapshot r.causes r.escalations r.seen)).setCase c { r with owed := false })) ∧
    (∀ reason identity stamp, r.record = .closing → r.closeReason = some reason → r.closedIdentity = some identity →
      r.closedAt = some stamp → (∀ i, (s.lift i).dyn.latch = .empty) →
      exec .nearTransmitComplete s = .next ((u.withBroadcast (.notice ⟨.closed, some (r.serial, c),
        some identity, stamp, some (r.urgency, r.dispatch), r.closeTag,
        .closed reason⟩)).setCase c .free))) ∧
  (∀ s : State, 32 ≤ s.trunk.own.length →
    let n := s.trunk.counters
    (∀ older m newer, s.trunk.own = older ++ m :: newer → m.isSummary = true → (∀ f ∈ older, f.isSummary = false) →
      let joined (f : OwnFrame) (sequence : BitVec 8) : State := { s with trunk := { s.trunk with
        own := older ++ newer ++ [f]
        sequence := sequence
        counters := { n with summaryDrops := min 65535 (n.summaryDrops + 1) } } }
      let frame (b : OwnBody) : OwnFrame := ⟨0xFFFF#16, s.straps.setWidth 16, s.trunk.sequence, b⟩
      (∀ o b, s.offerAnswer o b = joined ⟨o.source, s.straps.setWidth 16, o.tag, b⟩ s.trunk.sequence) ∧
      (∀ b, s.offerLoose b = joined (frame b) (s.trunk.sequence + 1)) ∧
      ∀ c x, (s.caseAt c).owed = false →
        s.offerCase c x = (joined (frame (.notice x)) (s.trunk.sequence + 1), .entered)) ∧
    ((∀ f ∈ s.trunk.own, f.isSummary = false) →
      (∀ o b, s.offerAnswer o b =
        { s with trunk := { s.trunk with counters := { n with answersLost := min 65535 (n.answersLost + 1) } } }) ∧
      (∀ b, s.offerLoose b = { s with trunk := { s.trunk with
        sequence := s.trunk.sequence + 1, counters := { n with noticesLost := min 65535 (n.noticesLost + 1) } } }) ∧
      ∀ c x, (s.caseAt c).owed = false → s.offerCase c x =
        ({ s.setCase c { s.caseAt c with owed := true } with
          trunk := { s.trunk with sequence := s.trunk.sequence + 1 } }, .kept)) ∧
    (∀ m, s.offerSummary m = { s with trunk := { s.trunk with
      sequence := s.trunk.sequence + 1, counters := { n with summaryDrops := min 65535 (n.summaryDrops + 1) } } })) ∧
  (∀ (s : State) (c : CaseNo) (x : Notice), (s.caseAt c).owed = true →
    s.offerCase c x = ({ s with trunk := { s.trunk with sequence := s.trunk.sequence + 1 } }, .kept)) ∧
  ∀ (s : State) (o : Origin), s.Busy → 32 ≤ s.trunk.own.length → (∀ f ∈ s.trunk.own, f.isSummary = false) →
    exec (.read o 6 0) s = .next { s with trunk := { s.trunk with counters := { s.trunk.counters with
      answersLost := min 65535 (s.trunk.counters.answersLost + 1) } } }

/-! ### Reads -/

/-- R162, R168, R169, R107: READ of each of the seven tables, READ_CASE and READ_COUNTERS answer OK with the record or the
values as they stand, SURVEY answers what a JOB of the crew would be offered, and none of them changes anything else. -/
def Obligations.ReadsAnswerAndChangeNothing : Prop :=
  ∀ (s : State) (o : Origin), s.Ready 1 →
    (∀ i : LiftIdx, exec (.read o 0 i.val) s = .next (s.withAnswer o 1#8 .ok (.lift { s.lift i with dyn :=
      { (s.lift i).dyn with nearest := min (s.lift i).dyn.nearest ((s.lift i).config.landings.length - 1) } }))) ∧
    (∀ p : PanelIdx, exec (.read o 1 p.val) s = .next (s.withAnswer o 1#8 .ok (.panel (s.panel p)))) ∧
    (∀ k : CrewNo, exec (.read o 2 k.val) s = .next (s.withAnswer o 1#8 .ok (.crew
      { config := (s.crew k).config
        onDuty := (s.crew k).dyn.onDuty
        sweep := (s.crew k).dyn.sweep
        held := (s.heldOrder k).map fun c => (c, (s.caseAt c).serial)
        offer := (s.crew k).dyn.offer.map fun x => (x.case, (s.caseAt x.case).serial, x.timer)
        offerLost := (s.crew k).dyn.offerLost
        logged := (s.crew k).dyn.logged
        implausible := (s.crew k).dyn.implausible }))) ∧
    (∀ i : Fin 5, exec (.read o 3 i.val) s = .next (s.withAnswer o 1#8 .ok (.classEntry s.classes[i.val]))) ∧
    (∀ i : Fin 16, exec (.read o 4 i.val) s = .next (s.withAnswer o 1#8 .ok (.travel s.travel[i.val]))) ∧
    (∀ i : Fin 256, exec (.read o 5 i.val) s = .next (s.withAnswer o 1#8 .ok (.step s.store[i.val]))) ∧
    exec (.read o 6 0) s = .next (s.withAnswer o 1#8 .ok (.settings s.settings)) ∧
    (∀ c : CaseNo, exec (.readCase o c.val) s = .next (s.withAnswer o 11#8 .ok
      (.case (s.caseAt c) (s.lift (s.caseAt c).lift).config.identity))) ∧
    (∃ v : CountersView, exec (.readCounters o) s = .next (s.withAnswer o 12#8 .ok (.counters v)) ∧
      (∀ l : LineId, v.lines[l.val] = ⟨(s.line l).state, (s.line l).mode, (s.line l).cycleNumber, (s.line l).errors,
        (s.line l).cycles, (s.line l).routine.length, ((s.line l).answers.toList.filter Option.isSome).length⟩) ∧
      v.nearUp = s.trunk.nearUp ∧ v.farUp = s.trunk.farUp ∧ v.trunk = s.trunk.counters ∧
      v.forward = s.trunk.forward.length ∧ v.relay = s.trunk.relay.length ∧ v.own = s.trunk.own.length ∧
      v.sequence = s.trunk.sequence ∧ v.stamp = s.time.stamp ∧ v.serial = s.serial ∧
      v.openCases = ((List.finRange 16).filter fun c => (s.caseAt c).record == .opened).length ∧
      v.closingCases = ((List.finRange 16).filter fun c => (s.caseAt c).record == .closing).length ∧
      (v.someLatch = true ↔ ∃ i, (s.lift i).dyn.latch ≠ .empty) ∧
      ∀ k : CrewNo, v.implausible[k.val] = (s.crew k).dyn.implausible) ∧
    ∀ k : CrewNo, exec (.survey o k.val) s = .next
      (let offered (c : CaseNo) : State := s.withAnswer o 8#8 .offer (.surveyed (s.caseAt c).serial
        (s.lift (s.caseAt c).lift).config.identity (s.caseAt c).urgency (lineOf (s.caseAt c).lift).val)
      if (s.crew k).config.enabled = false then s.withAnswer o 8#8 .badIndex .none
      else if (s.crew k).dyn.onDuty = false then s.withAnswer o 8#8 .wrongState .none
      else match (s.crew k).dyn.offer, s.choice k with
        | some x, _ => offered x.case
        | none, some c => offered c
        | none, none => s.withAnswer o 8#8 .noCase .none)

/-- R161, R162: a table other than the seven is answered BAD_VALUE, and an index outside its range BAD_INDEX, by every request
that carries one; the ANSWER is its only trace. -/
def Obligations.IndicesOutsideTheirRangeAreRefused : Prop :=
  ∀ (s : State) (o : Origin) (n : Nat), s.Ready 1 →
    (∀ t, 6 < t → exec (.read o t n) s = .next (s.withAnswer o 1#8 .badValue .none)) ∧
    (64 ≤ n → exec (.read o 0 n) s = .next (s.withAnswer o 1#8 .badIndex .none) ∧
      (∀ w : LiftWrite, w.decodes = true → exec (.writeLift o n w) s = .next (s.withAnswer o 2#8 .badIndex .none)) ∧
      (∀ m ≤ 2, exec (.setForward o n m) s = .next (s.withAnswer o 3#8 .badIndex .none)) ∧
      exec (.setBottom o n) s = .next (s.withAnswer o 7#8 .badIndex .none)) ∧
    (16 ≤ n → exec (.read o 1 n) s = .next (s.withAnswer o 1#8 .badIndex .none) ∧
      exec (.read o 4 n) s = .next (s.withAnswer o 1#8 .badIndex .none) ∧
      (∀ w, exec (.writePanel o n w) s = .next (s.withAnswer o 2#8 .badIndex .none)) ∧
      (∀ a b, exec (.writeTravel o n a b) s = .next (s.withAnswer o 2#8 .badIndex .none)) ∧
      exec (.readCase o n) s = .next (s.withAnswer o 11#8 .badIndex .none)) ∧
    (8 ≤ n → exec (.read o 2 n) s = .next (s.withAnswer o 1#8 .badIndex .none) ∧
      (∀ w : CrewWrite, w.coverage < 16 → exec (.writeCrew o n w) s = .next (s.withAnswer o 2#8 .badIndex .none)) ∧
      exec (.survey o n) s = .next (s.withAnswer o 8#8 .badIndex .none)) ∧
    (5 ≤ n → exec (.read o 3 n) s = .next (s.withAnswer o 1#8 .badIndex .none) ∧
      ∀ w, exec (.writeClass o n w) s = .next (s.withAnswer o 2#8 .badIndex .none)) ∧
    (256 ≤ n → exec (.read o 5 n) s = .next (s.withAnswer o 1#8 .badIndex .none) ∧
      ∀ w, exec (.writeStep o n w) s = .next (s.withAnswer o 2#8 .badIndex .none)) ∧
    (n ≠ 0 → exec (.read o 6 n) s = .next (s.withAnswer o 1#8 .badIndex .none) ∧
      ∀ w, exec (.writeSectorSettings o n w) s = .next (s.withAnswer o 2#8 .badIndex .none)) ∧
    (4 ≤ n → exec (.lineEnable o n) s = .next (s.withAnswer o 4#8 .badIndex .none) ∧
      exec (.lineDisable o n) s = .next (s.withAnswer o 5#8 .badIndex .none) ∧
      exec (.lineReset o n) s = .next (s.withAnswer o 6#8 .badIndex .none)) ∧
    (2 ≤ n → exec (.warmRestart o n) s = .next (s.withAnswer o 13#8 .badValue .none))

/-! ### Writes -/

/-- R161, R173: a lift write with a cause byte above 3 does not decode and is answered BAD_VALUE, whatever its index. R32, R33,
R35: a lift write is refused with nothing changed, the lock before the values: LOCKED while the lift has an open
case; else BAD_VALUE for an identity another enabled record holds or the value 65,535, for a landing list that is too short,
too long, not ascending or too high, for SHARED not LEVEL, MANUAL not EDGE, an enabled byte or a forwarding mode outside its
list. -/
def Obligations.FaultyLiftWritesAreRefused : Prop :=
  (∀ (s : State) (o : Origin) (n : Nat) (w : LiftWrite), s.Ready 1 →
    (w.decodes = false ↔ 3 < w.stall ∨ 3 < w.alarm ∨ 3 < w.shared ∨ 3 < w.silent ∨ 3 < w.manual) ∧
    (w.decodes = false → exec (.writeLift o n w) s = .next (s.withAnswer o 2#8 .badValue .none))) ∧
  ∀ (s : State) (o : Origin) (i : LiftIdx) (w : LiftWrite), s.Ready 1 → w.decodes = true →
    ((s.lift i).dyn.openCase ≠ none → exec (.writeLift o i.val w) s = .next (s.withAnswer o 2#8 .locked .none)) ∧
    ((s.lift i).dyn.openCase = none →
      ((∃ j, j ≠ i ∧ (s.lift j).config.enabled = true ∧ (s.lift j).config.identity = w.identity) ∨
        65535 ≤ w.identity ∨ w.landings.length < 2 ∨ 24 < w.landings.length ∨ ¬ w.landings.Pairwise (· < ·) ∨
        (∃ h ∈ w.landings, 1048575 < h) ∨ w.shared / 2 = 0 ∨ w.manual / 2 = 1 ∨ 1 < w.enabled ∨ 2 < w.forwarding) →
      exec (.writeLift o i.val w) s = .next (s.withAnswer o 2#8 .badValue .none))

/-- R34, R36, R28, R52, R67: an accepted lift write stores the record, each of the nine numeric fields clamped to its range of
section 2.1, and is answered CLAMPED with the record where one of them was, OK otherwise; it then acts by the enabled field
before and after: the dynamic part stays; or the lift enters UNSEEN or OFFLINE with its line; or DISABLED; or, enabled
throughout, loses the causes now disabled from its truth and its latch. A summary tells of a changed state unless the mode is
NONE. R13: an enabling write ends the QUIET_IDLE of the line with a START that polls the lift; here nothing waits to be sent. (What a
LINE_RESET has kept of the truth stays kept through such a write, and until the first taken report a cause so kept is not false for
the latch: the model's choice, log 34.) -/
def Obligations.AcceptedLiftWritesActByTheEnabledField : Prop :=
  ∀ (s : State) (o : Origin) (i : LiftIdx) (w : LiftWrite) (g : LiftConfig), s.Ready 2 →
    (s.lift i).dyn.openCase = none →
    w.stall ≤ 3 → w.alarm ≤ 3 → 2 ≤ w.shared → w.shared ≤ 3 → w.silent ≤ 3 → w.manual ≤ 1 →
    w.enabled ≤ 1 → w.forwarding ≤ 2 → w.identity < 65535 →
    (∀ j, j ≠ i → (s.lift j).config.enabled = true → (s.lift j).config.identity ≠ w.identity) →
    2 ≤ w.landings.length → w.landings.length ≤ 24 → w.landings.Pairwise (· < ·) → (∀ h ∈ w.landings, h ≤ 1048575) →
    let cause (b : Nat) : CauseSetting := ⟨b % 2 == 1, if b < 2 then .edge else .level⟩
    g.enabled = (w.enabled == 1) → g.identity = w.identity → g.landings = w.landings →
    g.doorZone = max 25 (min 300 w.doorZone) → g.creep = max 1 (min 20 w.creep) →
    g.debounce = max 1 (min 15 w.debounce) → g.silence = max 1 (min 15 w.silence) →
    g.balance = max 30 (min 60 w.balance) → g.step = max 50 (min 2000 w.step) →
    g.reach = max 500 (min 60000 w.reach) → g.cap = max 1 (min 63 w.cap) → g.page.val = min 15 w.page →
    g.stall = cause w.stall → g.alarm = cause w.alarm → g.shared = cause w.shared → g.silent = cause w.silent →
    g.manual = cause w.manual →
    g.forwarding = (if w.forwarding = 0 then .all else if w.forwarding = 1 then .changes else .none) →
    let d := (s.lift i).dyn
    let a := if g.doorZone = w.doorZone ∧ g.creep = w.creep ∧ g.debounce = w.debounce ∧ g.silence = w.silence ∧
        g.balance = w.balance ∧ g.step = w.step ∧ g.reach = w.reach ∧ g.cap = w.cap ∧ g.page.val = w.page
      then s.withAnswer o 2#8 .ok .none else s.withAnswer o 2#8 .clamped (.liftEcho g)
    let entered (st : LiftState) : State :=
      let u := a.setLift i ⟨g, st, none, 0, 0, 0, .empty, .empty, none, none, .empty⟩
      if d.state = st ∨ g.forwarding = .none then u
      else u.withBroadcast (.summary ⟨g.identity, s.time.stamp, st, none⟩)
    ((s.lift i).config.enabled = false → g.enabled = false →
      exec (.writeLift o i.val w) s = .next (a.setLift i ⟨g, d⟩)) ∧
    ((s.lift i).config.enabled = false → g.enabled = true → (s.line (lineOf i)).state = .off →
      exec (.writeLift o i.val w) s = .next (entered .offline)) ∧
    ((s.lift i).config.enabled = false → g.enabled = true → (s.line (lineOf i)).state ≠ .off →
      (s.line (lineOf i)).state ≠ .quietIdle → exec (.writeLift o i.val w) s = .next (entered .unseen)) ∧
    ((s.lift i).config.enabled = false → g.enabled = true → (s.line (lineOf i)).state = .quietIdle →
      s.NothingToSend (lineOf i) → ∀ first slots, (entered .unseen).slotSet (lineOf i) = first :: slots →
      exec (.writeLift o i.val w) s = .next ((entered .unseen).setLine (lineOf i)
        ((entered .unseen).polling (lineOf i) none first slots))) ∧
    ((s.lift i).config.enabled = true → g.enabled = false →
      exec (.writeLift o i.val w) s = .next (entered .disabled)) ∧
    ((s.lift i).config.enabled = true → g.enabled = true →
      let kept (x : CauseSet) : CauseSet := ⟨x.stall && g.stall.enabled, x.alarm && g.alarm.enabled,
        x.shared && g.shared.enabled, x.silent && g.silent.enabled, x.manual && g.manual.enabled⟩
      let truth := kept d.truth
      let latch := kept d.latch
      let fallen : Bool := [Cause.stall, .alarm, .shared, .silent, .manual].all fun x =>
        !latch.has x || ((g.cause x).trigger == .level && !truth.has x && (d.lastReport.isSome || !d.keptTruth.has x))
      exec (.writeLift o i.val w) s = .next (a.setLift i ⟨g, { d with
        truth := truth
        latch := if truth ≠ d.truth ∧ fallen = true then .empty else latch }⟩))

/-- R37, R31: a panel write is refused LOCKED while a case on its line holds a release record, and BAD_VALUE for a map naming a
slot outside 0 to 15 or an enabled byte outside its list, with nothing changed; an accepted one is answered OK and stored, and
a panel newly enabled or disabled has its dynamic fields cleared. R13: an enabling write ends the QUIET_IDLE of the line with a START
that polls the panel; here nothing waits to be sent, and no input of the panel is active before. R88, R137: the crew logged at a panel
that is disabled loses it as its logged panel; here no release on another line is tied to that panel. R48: SHARED is re-evaluated for
the lifts in no other state than DISABLED and OFFLINE whose slots a disabled panel's map names at an active input (that it is the map
before the write is DEDUCED, log 25), or that the old map or the new one names while the panel stays enabled (also where the maps are
the same, the model's choice, log 36): here the evaluations raise nothing and the lifts have no case and no latch (what they do
there is stated in TruthAndRaisesFollowTheConditions and PressThresholdsAndLatchTests). -/
def Obligations.PanelWritesAreLockedOrStored : Prop :=
  ∀ (s : State) (o : Origin) (p : PanelIdx) (w : PanelWrite), s.Ready 1 →
    let l := panelLine p
    ((∃ c, s.isOpen c = true ∧ lineOf (s.caseAt c).lift = l ∧ (s.caseAt c).release ≠ none) →
      exec (.writePanel o p.val w) s = .next (s.withAnswer o 2#8 .locked .none)) ∧
    ((∀ c, s.isOpen c = true → lineOf (s.caseAt c).lift = l → (s.caseAt c).release = none) →
      (1 < w.enabled ∨ 65536 ≤ w.map0 ∨ 65536 ≤ w.map1 ∨ 65536 ≤ w.map2 ∨ 65536 ≤ w.map3 →
        exec (.writePanel o p.val w) s = .next (s.withAnswer o 2#8 .badValue .none)) ∧
      (w.enabled ≤ 1 → w.map0 < 65536 → w.map1 < 65536 → w.map2 < 65536 → w.map3 < 65536 →
        let g : PanelConfig := ⟨w.enabled == 1, #v[BitVec.ofNat 16 w.map0, BitVec.ofNat 16 w.map1, BitVec.ofNat 16 w.map2,
          BitVec.ofNat 16 w.map3]⟩
        let a := s.withAnswer o 2#8 .ok .none
        let old := s.panel p
        let writes (t : State) : Prop := exec (.writePanel o p.val w) s = .next t
        let cleared : State := a.setPanel p ⟨g, none, none, false, 0, 0#4⟩
        let named (map : Vector (BitVec 16) 4) (slot : Fin 16) : Bool :=
          (List.finRange 4).any fun k => map[k.val].getLsbD slot.val
        (old.config.enabled = false → w.enabled = 0 → writes (a.setPanel p ⟨g, old.dyn⟩)) ∧
        (old.config.enabled = false → w.enabled = 1 → old.dyn.inputs = 0#4 →
          ((s.line l).state ≠ .quietIdle → writes cleared) ∧
          ((s.line l).state = .quietIdle → s.NothingToSend l → ∀ first slots, cleared.slotSet l = first :: slots →
            writes (cleared.setLine l (cleared.polling l none first slots)))) ∧
        (old.config.enabled = true → w.enabled = 0 →
          let active (slot : Fin 16) : Bool :=
            (List.finRange 4).any fun k => old.dyn.inputs.getLsbD k.val && old.config.map[k.val].getLsbD slot.val
          (∀ k, cleared.evaluated l active (liftAt l k) = true → cleared.QuietTruth (liftAt l k)) →
          ((∀ tag, old.dyn.logged = some tag → s.resolveTag tag = none) → writes (cleared.withTruths l active)) ∧
          ∀ tag j, old.dyn.logged = some tag → s.resolveTag tag = some j →
            (∀ c q, s.isOpen c = true → (s.caseAt c).release = some q → q.panel ≠ p) →
            writes ((cleared.withTruths l active).setCrewDyn j { (s.crew j).dyn with
              logged := if (s.crew j).dyn.logged = some p then none else (s.crew j).dyn.logged })) ∧
        (old.config.enabled = true → w.enabled = 1 →
          let kept : State := a.setPanel p ⟨g, old.dyn⟩
          let either (slot : Fin 16) : Bool := named old.config.map slot || named g.map slot
          (∀ k, kept.evaluated l either (liftAt l k) = true → kept.QuietTruth (liftAt l k)) →
          writes (kept.withTruths l either))))

/-- R161, R173: a crew write with a coverage byte above 15 does not decode and is answered BAD_VALUE, whatever its index. R86, R87:
a crew write is refused LOCKED while the crew holds a case or an offer, and BAD_VALUE for a tag of 0 or 255, a
tag another enabled record holds, an empty coverage or an enabled byte outside its list, with nothing changed; an accepted one
is stored, its post line at most 3 (CLAMPED where it was above), with the consequences of R87 by the enabled field before and
after it; the logged panel found is the lowest enabled panel whose logged crew is the new tag. -/
def Obligations.CrewWritesAreLockedOrStored : Prop :=
  (∀ (s : State) (o : Origin) (n : Nat) (w : CrewWrite), s.Ready 1 → 16 ≤ w.coverage →
    exec (.writeCrew o n w) s = .next (s.withAnswer o 2#8 .badValue .none)) ∧
  ∀ (s : State) (o : Origin) (k : CrewNo) (w : CrewWrite), s.Ready 1 → w.coverage < 16 →
    let d := (s.crew k).dyn
    ((d.held ≠ [] ∨ d.offer ≠ none) → exec (.writeCrew o k.val w) s = .next (s.withAnswer o 2#8 .locked .none)) ∧
    (d.held = [] → d.offer = none →
      (w.tag = 0 ∨ 255 ≤ w.tag ∨ w.coverage = 0 ∨ 1 < w.enabled ∨
        (∃ j, j ≠ k ∧ (s.crew j).config.enabled = true ∧ (s.crew j).config.tag = w.tag) →
        exec (.writeCrew o k.val w) s = .next (s.withAnswer o 2#8 .badValue .none)) ∧
      (0 < w.tag → w.tag < 255 → w.coverage ≠ 0 → w.enabled ≤ 1 →
        (∀ j, j ≠ k → (s.crew j).config.enabled = true → (s.crew j).config.tag ≠ w.tag) →
        ∃ (g : CrewConfig) (found : Option PanelIdx),
          g.enabled = (w.enabled == 1) ∧ g.tag = w.tag ∧ g.post.val = min 3 w.post ∧
          (∀ l : LineId, g.coverage[l.val] = w.coverage.testBit l.val) ∧
          (∀ p, found = some p ↔ ((s.panel p).config.enabled = true ∧ (s.panel p).dyn.logged = some w.tag ∧
            ∀ q < p, ¬ ((s.panel q).config.enabled = true ∧ (s.panel q).dyn.logged = some w.tag))) ∧
          exec (.writeCrew o k.val w) s = .next
            ((if 3 < w.post then s.withAnswer o 2#8 .clamped (.crewEcho g) else s.withAnswer o 2#8 .ok .none).setCrew k
              ⟨g, match (s.crew k).config.enabled, g.enabled with
                | false, false => d
                | false, true => { d with onDuty := false, sweep := false, logged := found }
                | true, false => { d with onDuty := false, sweep := false, logged := none, offerLost := none }
                | true, true => { d with logged := if (s.crew k).config.tag = w.tag then d.logged else found }⟩)))

/-- R60, R91, R109: a class write is refused LOCKED while any case record is OPEN, and BAD_VALUE for a source or a
close on accept outside its list, else stored with its numbers clamped; a travel write is stored with both values at
most 65,535 and the max raised to the min; a step write is refused LOCKED where its page is the own page of an OPEN
case, or is page 15 and any case is OPEN, else stored as written. Nothing else changes. R164, R143, R128, R91: a
settings write with a mode outside its list is refused BAD_VALUE with nothing changed; an accepted one stores every
setting at once, each clamped to its range, and is answered CLAMPED with the record where one was; the running
divisors and every line stay as they are, but for a line in QUIET_IDLE that it makes CONTINUOUS, which sends a START by the new
settings at once (R3, R13); here nothing waits to be sent on such a line and some member of it is polled. -/
def Obligations.TableAndSettingsWrites : Prop :=
  (∀ (s : State) (o : Origin), s.Ready 1 →
     (∀ (i : Fin 5) (w : ClassWrite),
       ((∃ c, s.isOpen c = true) → exec (.writeClass o i.val w) s = .next (s.withAnswer o 2#8 .locked .none)) ∧
       ((∀ c, s.isOpen c = false) →
         (5 < w.clear ∨ 5 < w.stop ∨ 1 < w.closeOnAccept →
           exec (.writeClass o i.val w) s = .next (s.withAnswer o 2#8 .badValue .none)) ∧
         (∀ clear stop, decodeSource w.clear = some clear → decodeSource w.stop = some stop → w.closeOnAccept ≤ 1 →
           let e : ClassEntry := ⟨min 7 w.base, max 10 (min 65535 w.interval), clear, stop, max 1 (min 15 w.limit),
             max 1 (min 8 w.skip), w.closeOnAccept == 1⟩
           let u := { s with classes := s.classes.set i.val e }
           exec (.writeClass o i.val w) s = .next
             (if e.base = w.base ∧ e.interval = w.interval ∧ e.limit = w.limit ∧ e.skip = w.skip then
               u.withAnswer o 2#8 .ok .none else u.withAnswer o 2#8 .clamped (.classEntry e))))) ∧
     (∀ (i : Fin 16) (lo hi : Nat),
       let v : Travel := ⟨min 65535 lo, max (min 65535 lo) (min 65535 hi)⟩
       let u := { s with travel := s.travel.set i.val v }
       exec (.writeTravel o i.val lo hi) s = .next
         (if v.min = lo ∧ v.max = hi then u.withAnswer o 2#8 .ok .none else u.withAnswer o 2#8 .clamped (.travel v))) ∧
     ∀ (page step : Fin 16) (w : StepWrite),
       ((∃ c, s.isOpen c = true ∧ ((s.caseAt c).procedure.ownPage = page ∨ page = 15)) →
         exec (.writeStep o (page.val * 16 + step.val) w) s = .next (s.withAnswer o 2#8 .locked .none)) ∧
       ((∀ c, s.isOpen c = true → (s.caseAt c).procedure.ownPage ≠ page ∧ page ≠ 15) →
         let e : StepRecord := ⟨w.action, w.argument, w.limit, 128 ≤ w.branch, ⟨w.branch % 16, by omega⟩⟩
         let u := { s with store := s.store.set (page.val * 16 + step.val) e }
         exec (.writeStep o (page.val * 16 + step.val) w) s = .next (u.withAnswer o 2#8 .ok .none))) ∧
  (∀ (s : State) (o : Origin) (w : SettingsWrite), s.Ready 1 →
     (1 < w.tieMode ∨ (∃ l : Fin 4, 1 < w.lines[l.val].defaultMode) →
       exec (.writeSectorSettings o 0 w) s = .next (s.withAnswer o 2#8 .badValue .none)) ∧
     ∀ v : Settings, w.tieMode ≤ 1 → (∀ l : Fin 4, w.lines[l.val].defaultMode ≤ 1) →
       let wakes (l : LineId) : Bool := w.lines[l.val].defaultMode == 0 && (s.line l).state == .quietIdle
       (∀ l, wakes l = true → s.NothingToSend l ∧ s.slotSet l ≠ []) →
       v.d1 = max 2 (min 65535 w.d1) → v.d2 = max 2 (min 65535 w.d2) →
       v.offerTimeout = max 10 (min 6000 w.offerTimeout) →
       v.tieMode = (if w.tieMode = 0 then .oldest else .rotate) → v.settleLimit = max 1 (min 600 w.settleLimit) →
       (∀ l : Fin 4, v.lines[l.val] = ⟨if w.lines[l.val].defaultMode = 0 then .continuous else .quiet,
         max 1 (min 50 w.lines[l.val].cycleInterval), max 10 (min 600 w.lines[l.val].quietCeiling),
         max 2 (min 20 w.lines[l.val].answerWindow)⟩) →
       let u := { s with settings := v }
       let started : State := { u with lines := tab fun l =>
         (if wakes l then u.startedWith l none none (s.slotSet l) else s.line l) }
       exec (.writeSectorSettings o 0 w) s = .next
         (if v.d1 = w.d1 ∧ v.d2 = w.d2 ∧ v.offerTimeout = w.offerTimeout ∧ v.settleLimit = w.settleLimit ∧
             (∀ l : Fin 4, v.lines[l.val].cycleInterval = w.lines[l.val].cycleInterval ∧
               v.lines[l.val].quietCeiling = w.lines[l.val].quietCeiling ∧
               v.lines[l.val].answerWindow = w.lines[l.val].answerWindow)
           then started.withAnswer o 2#8 .ok .none
           else started.withAnswer o 2#8 .clamped (.settings v)))

/-- R27, R92: SET_FORWARD stores the mode and changes nothing else, whether or not the record is enabled or has an open case;
SET_BOTTOM takes the lift out of the rotation order and puts it at the bottom, every other lift keeping its place relative to
the rest. -/
def Obligations.ForwardingAndRotationRequests : Prop :=
  ∀ (s : State) (o : Origin) (i : LiftIdx), s.Ready 1 →
    (∀ m, exec (.setForward o i.val m) s = .next (match m with
      | 0 => (s.setLift i { s.lift i with config := { (s.lift i).config with forwarding := .all } }).withAnswer o 3#8 .ok .none
      | 1 => (s.setLift i { s.lift i with config := { (s.lift i).config with forwarding := .changes } }).withAnswer
          o 3#8 .ok .none
      | 2 => (s.setLift i { s.lift i with config := { (s.lift i).config with forwarding := .none } }).withAnswer o 3#8 .ok .none
      | _ + 3 => s.withAnswer o 3#8 .badValue .none)) ∧
    (s.RotationWhole → ∃ above below, s.rotation = above ++ i :: below ∧
      exec (.setBottom o i.val) s = .next (State.withAnswer { s with rotation := above ++ below ++ [i] } o 7#8 .ok .none))

/-! ### Line requests -/

/-- R19, R165: LINE_ENABLE of a line not in OFF is answered OK and changes nothing; of a line in OFF it restarts the line:
cycle number 0, CONTINUOUS, a START with no wake source at once, every enabled lift UNSEEN with the dynamic part of R28, every
enabled panel cleared, the counters kept (but for the START's own count), answered OK before anything else; R52: where the own
queue has room for them, a summary follows for each lift whose state changes and whose mode is not NONE (in ascending slot order,
the model's choice, log 41), and nothing else of the port changes. Here some member is polled, nothing waits to be sent, and the lifts stand as in OFFLINE. -/
def Obligations.LineEnableRestartsTheLine : Prop :=
  ∀ (s : State) (o : Origin) (l : LineId), s.Ready 1 →
    ((s.line l).state ≠ .off → exec (.lineEnable o l.val) s = .next (s.withAnswer o 4#8 .ok .none)) ∧
    ∀ first slots, (s.line l).state = .off → s.NothingToSend l → s.slotSet l = first :: slots →
      (∀ k, (s.lift (liftAt l k)).config.enabled = true → (s.lift (liftAt l k)).dyn.truth = .empty) →
      (∀ k, (s.panel (panelAt l k)).config.enabled = true → (s.panel (panelAt l k)).dyn.inputs = 0#4) →
      ∃ t, exec (.lineEnable o l.val) s = .next t ∧ s.SameBeyondLines t ∧
        (s.withAnswer o 4#8 .ok .none).trunk.own.IsPrefix t.trunk.own ∧
        (s.trunk.own.length + 17 ≤ 32 →
          t.trunk = ((s.withAnswer o 4#8 .ok .none).withBroadcasts (s.entrySummaries l .unseen)).trunk) ∧
        t.line l = (s.setLine l { s.line l with cycleNumber := 0#8, mode := .continuous }).polling l none first slots ∧
        (∀ m, m ≠ l → t.line m = s.line m) ∧
        (∀ i, t.lift i = if lineOf i = l ∧ (s.lift i).config.enabled = true
          then ⟨(s.lift i).config, .unseen, none, 0, 0, 0, .empty, .empty, none, none, .empty⟩ else s.lift i) ∧
        ∀ p, t.panel p = if panelLine p = l ∧ (s.panel p).config.enabled = true
          then ⟨(s.panel p).config, none, none, false, 0, 0#4⟩ else s.panel p

/-- R20, R165: LINE_DISABLE of a line in OFF is answered OK and changes nothing, and is refused BUSY while a case is open on
the line; otherwise the line enters OFF, mode CONTINUOUS, slot set empty, queues discarded, timers stopped, counters kept,
every enabled lift of the line becomes OFFLINE and its panels are cleared; R88: a crew that was logged at a panel of the line
loses it as its logged panel; R48: inputs that were active re-evaluate no lift, since every lift of the line is then OFFLINE or
DISABLED; R52: where the own queue has room for them, a summary follows for each lift whose state changes and whose mode is not
NONE (in ascending slot order, the model's choice, log 41), and nothing else of the port changes. Here no release on another line
is tied to a panel of this one, and a lift that is not enabled is DISABLED (R28). -/
def Obligations.LineDisableTakesTheLineOff : Prop :=
  ∀ (s : State) (o : Origin) (l : LineId), s.Ready 1 →
    ((s.line l).state = .off → exec (.lineDisable o l.val) s = .next (s.withAnswer o 5#8 .ok .none)) ∧
    ((s.line l).state ≠ .off → (∃ c, s.isOpen c = true ∧ lineOf (s.caseAt c).lift = l) →
      exec (.lineDisable o l.val) s = .next (s.withAnswer o 5#8 .busy .none)) ∧
    ((s.line l).state ≠ .off → (∀ c, s.isOpen c = true → lineOf (s.caseAt c).lift ≠ l) →
      (∀ c q, s.isOpen c = true → (s.caseAt c).release = some q → panelLine q.panel ≠ l) →
      (∀ i, lineOf i = l → (s.lift i).config.enabled = false → (s.lift i).dyn.state = .disabled) →
      ∃ t, exec (.lineDisable o l.val) s = .next t ∧ s.SameBeyondLines { t with crews := s.crews } ∧
        (s.withAnswer o 5#8 .ok .none).trunk.own.IsPrefix t.trunk.own ∧
        (s.trunk.own.length + 17 ≤ 32 →
          t.trunk = ((s.withAnswer o 5#8 .ok .none).withBroadcasts (s.entrySummaries l .offline)).trunk) ∧
        t.line l = { s.line l with
          state := .off, mode := .continuous, slotSet := [], currentSlot := none, collided := false, routine := []
          answers := Vector.replicate 4 none, intervalTimer := .stopped, ceilingTimer := .stopped } ∧
        (∀ m, m ≠ l → t.line m = s.line m) ∧
        (∀ i, t.lift i = if lineOf i = l ∧ (s.lift i).config.enabled = true
          then ⟨(s.lift i).config, .offline, none, 0, 0, 0, .empty, .empty, none, none, .empty⟩ else s.lift i) ∧
        (∀ p, t.panel p = if panelLine p = l then ⟨(s.panel p).config, none, none, false, 0, 0#4⟩ else s.panel p) ∧
        ∀ k,
          let leaves : Prop := ∃ p tag, panelLine p = l ∧ (s.panel p).dyn.logged = some tag ∧ s.resolveTag tag = some k ∧
            (s.crew k).dyn.logged = some p
          (leaves → t.crew k = { s.crew k with dyn := { (s.crew k).dyn with logged := none } }) ∧
          (¬ leaves → t.crew k = s.crew k))

/-- R21, R28, R165: LINE_RESET of a line in OFF is refused WRONG_STATE and changes nothing; otherwise the queues are
discarded, every enabled lift becomes UNSEEN, its nearest landing, cause truth, latch and open case kept, the panels keep
their dynamic fields, and the line restarts with cycle number 0, CONTINUOUS and a START at once; the counters keep their
values (but for the START's own count); R52: with room in the own queue the summaries follow, one for each lift whose state
changes. Each open case on the line loses its pending command (step 2), and a release it holds aborts LINE_RESET (step 3,
R138; the cases in ascending record order, the model's choice, log 33); here no procedure waits for either. The lifts, and so their
summaries, go in ascending slot order (the model's choice, log 41). The truth so kept is marked as standing until the first taken
report (R21, R28; what that means beside R46 is the model's choice, log 34, stated in TruthAndRaisesFollowTheConditions). Where one case is
open on the line and its procedure waits for the delivery of the lost command (R117), or for the aborted release (R132), the
step fails and takes its branch, here to an END(HANDOVER). Some member is polled. -/
def Obligations.LineResetRestartsTheLine : Prop :=
  ∀ (s : State) (o : Origin) (l : LineId), s.Ready 1 →
    ((s.line l).state = .off → exec (.lineReset o l.val) s = .next (s.withAnswer o 6#8 .wrongState .none)) ∧
    ∀ first slots, (s.line l).state ≠ .off → s.slotSet l = first :: slots →
      let here (c : CaseNo) : Bool := s.isOpen c && lineOf (s.caseAt c).lift == l
      let stripped (c : CaseNo) : Case := { s.caseAt c with pending := none, release := none }
      let restarted (t : State) : Prop := s.SameBeyondLines { t with cases := s.cases } ∧ t.panels = s.panels ∧
        t.line l = (s.setLine l { s.line l with
          cycleNumber := 0#8, mode := .continuous, routine := [], answers := Vector.replicate 4 none }).polling
            l none first slots ∧
        (∀ m, m ≠ l → t.line m = s.line m) ∧
        ∀ i, t.lift i = if lineOf i = l ∧ (s.lift i).config.enabled = true
          then { s.lift i with dyn := { (s.lift i).dyn with
            state := .unseen, lastReport := none, stopCount := 0, silenceCount := 0, pressBaseline := none
            keptTruth := if (s.lift i).dyn.lastReport = none then (s.lift i).dyn.keptTruth.union (s.lift i).dyn.truth
              else (s.lift i).dyn.truth } }
          else s.lift i
      (∀ aborts : List CaseNo,
        aborts = (List.finRange 16).filter (fun c => here c && (s.caseAt c).release.isSome) →
        s.trunk.own.length + 1 + aborts.length ≤ 32 → (∀ c ∈ aborts, (s.caseAt c).owed = false) →
        (∀ c, here c = true → (s.caseAt c).procedure.status ≠ .running ∨
          ((s.caseAt c).procedure.wait ≠ .delivery ∧ (s.caseAt c).procedure.wait ≠ .release)) →
        let told := (s.withAnswer o 6#8 .ok .none).withBroadcasts (aborts.map fun c =>
          .notice (s.noticeAbout c (stripped c) .releaseAborted (.aborted .lineReset (s.caseAt c).pulses)))
        ∃ t, exec (.lineReset o l.val) s = .next t ∧ restarted t ∧
          (∀ c, t.caseAt c = if here c then stripped c else s.caseAt c) ∧
          told.trunk.own.IsPrefix t.trunk.own ∧
          (s.trunk.own.length + 17 + aborts.length ≤ 32 →
            t.trunk = (told.withBroadcasts (s.entrySummaries l .unseen)).trunk)) ∧
      ∀ c, here c = true → (∀ e, here e = true → e = c) → (s.caseAt c).owed = false → s.trunk.own.length + 3 ≤ 32 →
        let p := (s.caseAt c).procedure
        let at' := { p with step := (s.stepOf p).target, onCommon := (s.stepOf p).common }
        p.status = .running → (s.stepOf at').action = 12 → (s.stepOf at').argument = 2 →
        let handed : Case := { stripped c with procedure := { at' with status := .handedOver, wait := .none, timer := .stopped } }
        let toldOver (r : Case) : OwnBody := .notice (s.noticeAbout c r .handover (.handover .ended))
        let gone (r : Case) : OwnBody :=
          .notice (s.noticeAbout c r .releaseAborted (.aborted .lineReset (s.caseAt c).pulses))
        ((∃ m, (s.caseAt c).pending = some m ∧ m.owner = .procedure) → p.wait = .delivery → (s.caseAt c).release = none →
          ∃ t, exec (.lineReset o l.val) s = .next t ∧ restarted t ∧
            (∀ e, t.caseAt e = if e = c then handed else s.caseAt e) ∧
            ((s.withAnswer o 6#8 .ok .none).withBroadcasts [toldOver handed]).trunk.own.IsPrefix t.trunk.own) ∧
        ((s.caseAt c).release ≠ none → p.wait = .release →
          ∃ t, exec (.lineReset o l.val) s = .next t ∧ restarted t ∧
            (∀ e, t.caseAt e = if e = c then handed else s.caseAt e) ∧
            ((s.withAnswer o 6#8 .ok .none).withBroadcasts [gone (stripped c), toldOver handed]).trunk.own.IsPrefix t.trunk.own)

/-! ### Cases by request -/

/-- R166, R61 to R65: CASE_OPEN is answered BAD_INDEX for an identity that resolves to nothing, and WRONG_STATE where MANUAL is not
enabled or the lift is OFFLINE; OK with the case's names where the lift has a case, which MANUAL joins (CAUSE_ADDED, R64) or already
is in (nothing changes); R72: a joining that brings the handover limit of the OPEN case down to the escalation count, or below, hands
a RUNNING procedure over with reason ESCALATION after it, its wait ended and a command it waits on withdrawn (R115); QUEUED where no
record is FREE, MANUAL entering the latch, with TABLE_FULL where no latch was set. -/
def Obligations.CaseOpenJoinsOrQueues : Prop :=
  (∀ (s : State) (o : Origin) (identity : Nat), s.Ready 1 → s.resolveIdentity identity = none →
    exec (.caseOpen o identity) s = .next (s.withAnswer o 9#8 .badIndex .none)) ∧
  ∀ (s : State) (o : Origin) (identity : Nat) (i : LiftIdx), s.Ready 2 → s.resolveIdentity identity = some i →
    let d := (s.lift i).dyn
    (((s.lift i).config.manual.enabled = false ∨ d.state = .offline) →
      exec (.caseOpen o identity) s = .next (s.withAnswer o 9#8 .wrongState .none)) ∧
    ((s.lift i).config.manual.enabled = true → d.state ≠ .offline →
      (∀ c, d.openCase = some c → (s.caseAt c).causes.manual = true →
        exec (.caseOpen o identity) s = .next (s.withAnswer o 9#8 .ok (.named (s.caseAt c).serial c))) ∧
      (∀ c, d.openCase = some c → (s.caseAt c).causes.manual = false → (s.caseAt c).owed = false →
        let r := s.caseAt c
        let e := s.classes[4]
        let first := if r.causes.stall then s.classes[0] else if r.causes.alarm then s.classes[1]
          else if r.causes.shared then s.classes[2] else if r.causes.silent then s.classes[3] else e
        let interval := min r.interval (min 65535 e.interval)
        let r1 := { r with
          causes := { r.causes with manual := true }
          urgency := min r.urgency (min 7 e.base)
          interval := interval
          escalation := match r.escalation with
            | .running n => if interval < n then .running interval else .running n
            | .stopped => .stopped
            | .due => .due
          limit := min r.limit (min 15 e.limit)
          clear := first.clear
          stop := first.stop }
        let p := r.procedure
        let u := ((s.withAnswer o 9#8 .ok (.named r.serial c)).setCase c r1).withNotice c r1 .causeAdded
          (.causes ⟨false, false, false, false, true⟩)
        let handed := { r1 with
          procedure := { p with status := .handedOver, wait := .none, timer := .stopped }
          pending := match r.pending with
            | some q => if p.wait = .delivery ∧ q.owner = .procedure then none else some q
            | none => none }
        (r.escalations < r1.limit ∨ p.status ≠ .running → exec (.caseOpen o identity) s = .next u) ∧
        (r1.limit ≤ r.escalations → p.status = .running → s.isOpen c = true → s.Ready 3 → exec (.caseOpen o identity) s =
          .next ((u.setCase c handed).withNotice c handed .handover (.handover .escalation)))) ∧
      (d.openCase = none → (∀ c, (s.caseAt c).record ≠ .free) →
        let u := (s.withAnswer o 9#8 .queued .none).setLift i { s.lift i with dyn :=
          { d with latch := { d.latch with manual := true } } }
        exec (.caseOpen o identity) s = .next
          (if ∃ j, (s.lift j).dyn.latch ≠ .empty then u
            else u.withBroadcast (.notice ⟨.tableFull, none, some (s.lift i).config.identity, s.time.stamp, none, none,
              .none⟩))))

/-- R166, R61 to R63, R83: with a FREE record and no latch of the lift, CASE_OPEN opens a case of MANUAL alone in the
lowest-numbered FREE record with the values of R62, lights the lamp, takes the serial, and is answered OK before OPENED, CALL
and the first activation; here the lift's page begins with END(HANDOVER), which hands the procedure over (R125, R115). (That the
tags in CALL stand in crew record order is the model's choice, log 38.) -/
def Obligations.CaseOpenOpensTheLowestFreeRecord : Prop :=
  ∀ (s : State) (o : Origin) (identity : Nat) (i : LiftIdx) (c : CaseNo), s.Ready 4 →
    s.resolveIdentity identity = some i → (s.lift i).config.manual.enabled = true → (s.lift i).dyn.state ≠ .offline →
    (s.lift i).dyn.openCase = none → (s.lift i).dyn.latch = .empty →
    (s.caseAt c).record = .free → (∀ e < c, (s.caseAt e).record ≠ .free) →
    (s.stepOf ⟨(s.lift i).config.page, 0, false, .running, .none, 0, .stopped⟩).action = 12 →
    (s.stepOf ⟨(s.lift i).config.page, 0, false, .running, .none, 0, .stopped⟩).argument = 2 →
    let e := s.classes[4]
    let manual : CauseSet := ⟨false, false, false, false, true⟩
    let occupied := (s.lift i).occupied
    let r : Case := { Case.free with
      record := .opened
      serial := s.serial
      lift := i
      causes := manual
      urgency := if occupied then min 7 e.base - 1 else min 7 e.base
      occupancyCounted := occupied
      dispatch := .waiting
      openedAt := s.time.stamp
      interval := min 65535 e.interval
      escalation := .running (min 65535 e.interval)
      escalations := 0
      clear := e.clear
      stop := e.stop
      limit := min 15 e.limit
      procedure := ⟨(s.lift i).config.page, 0, false, .running, .none, 0, .stopped⟩ }
    let r1 : Case := { r with procedure := ⟨(s.lift i).config.page, 0, false, .handedOver, .none, 0, .stopped⟩ }
    let u := ({ s.withAnswer o 9#8 .ok (.named s.serial c) with serial := s.serial + 1, lamp := true }.setLift i
      { s.lift i with dyn := { (s.lift i).dyn with openCase := some c } }).setCase c r
    exec (.caseOpen o identity) s = .next
      ((((u.withNotice c r .opened (.causes manual)).withCall c r).setCase c r1).withNotice c r1 .handover
        (.handover .ended))

/-- R167, R79, R76, R77, R99: CASE_CLOSE of a serial that no OPEN record holds is answered BAD_INDEX with nothing changed;
otherwise OK with serial and record, and the case closes CENTRE in any dispatch state: a crew's offer of it is cancelled with
the mark set to its serial, a held list loses it, the CLOSED notice follows the ANSWER and the record becomes FREE, nothing
reopening here. With the own queue full of notice-class frames (R152) the record stays CLOSING with its notice owed, whose identity
and stamp it keeps (R82). R78, R66:
where LEVEL causes of the lift are still true and no latch is set, a fresh case opens for them at once in the lowest FREE
record, with OPENED and CALL after CLOSED; here the lift's page begins with END(HANDOVER). (That the tags in CALL stand in crew
record order is the model's choice, log 38.) -/
def Obligations.CaseCloseFreesTheRecord : Prop :=
  ∀ (s : State) (o : Origin) (serial : BitVec 16),
    (s.Ready 2 → (∀ c, s.isOpen c = true → (s.caseAt c).serial ≠ serial) →
      exec (.caseClose o serial) s = .next (s.withAnswer o 10#8 .badIndex .none)) ∧
    ∀ c, s.isOpen c = true → (s.caseAt c).serial = serial → (∀ e < c, s.isOpen e = true → (s.caseAt e).serial ≠ serial) →
      (s.caseAt c).owed = false →
      let i := (s.caseAt c).lift
      (s.Ready 2 → s.NoReopening i →
        exec (.caseClose o serial) s = .next ((s.withAnswer o 10#8 .ok (.named serial c)).closedOff c .centre)) ∧
      (s.Busy → 32 ≤ s.trunk.own.length → (∀ f ∈ s.trunk.own, f.isSummary = false) → s.NoReopening i →
        exec (.caseClose o serial) s = .next ({ s with trunk := { s.trunk with
            sequence := s.trunk.sequence + 1
            counters := { s.trunk.counters with answersLost := min 65535 (s.trunk.counters.answersLost + 1) } }
          }.closedWith c (s.closingRecord c .centre))) ∧
      ∀ e set, s.Ready 5 → s.Reopens c e set → exec (.caseClose o serial) s =
        .next (((s.withAnswer o 10#8 .ok (.named serial c)).closedOff c .centre).openedAndHandedOver e i set)

/-- R170, R171, R80, R81, R22, R29, R84, R159: WARM_RESTART without force is refused BUSY while any case is OPEN, with nothing
changed; carried out, every block is cleared and every table kept, RESTARTED with the ended serials is the first frame of the
new own queue and the ANSWER with their number the second, and each enabled line, here with some member polled, sends START at
once. -/
def Obligations.WarmRestartClearsAndKeeps : Prop :=
  ∀ (s : State) (o : Origin) (force : Nat), s.Ready 1 → force ≤ 1 →
    (force = 0 → (∃ c, s.isOpen c = true) → exec (.warmRestart o force) s = .next (s.withAnswer o 13#8 .busy .none)) ∧
    ((force = 1 ∨ ∀ c, s.isOpen c = false) → (∀ l, (s.line l).state ≠ .off → s.slotSet l ≠ []) →
      let ended := (List.finRange 16).filter fun c => (s.caseAt c).record != .free
      let told : Notice := ⟨.restarted, none, none, s.time.stamp, none, none,
        .serials (ended.map fun c => (s.caseAt c).serial)⟩
      ∃ t, exec (.warmRestart o force) s = .next t ∧
        t.lamp = false ∧ (∀ c, t.caseAt c = .free) ∧
        (∀ k, t.crew k = ⟨(s.crew k).config, false, false, [], none, none, none, (s.crew k).dyn.implausible⟩) ∧
        (∀ i, t.lift i = ⟨(s.lift i).config, if (s.lift i).config.enabled = false then LiftState.disabled
          else if (s.line (lineOf i)).state = .off then .offline else .unseen,
          none, 0, 0, 0, .empty, .empty, none, none, .empty⟩) ∧
        (∀ p, t.panel p = ⟨(s.panel p).config, none, none, false, 0, 0#4⟩) ∧
        (∀ l, (s.line l).state = .off → t.line l = { s.line l with
          cycleNumber := 0#8, mode := .continuous, slotSet := [], currentSlot := none, collided := false
          intervalTimer := .stopped, ceilingTimer := .stopped, routine := [], answers := Vector.replicate 4 none
          errors := 0, cycles := 0#32 }) ∧
        (∀ l first slots, (s.line l).state ≠ .off → s.slotSet l = first :: slots → t.line l = { s.line l with
          state := .cycle, cycleNumber := 1#8, mode := .continuous, slotSet := first :: slots
          currentSlot := some first, windowMs := (s.lineSettings l).answerWindow, collided := false
          intervalTimer := .running (s.lineSettings l).cycleInterval
          ceilingTimer := .running (s.lineSettings l).quietCeiling
          routine := [], answers := Vector.replicate 4 none, errors := 0, cycles := 1#32
          lastStart := some ⟨0#8, .continuous, first :: slots, none, none⟩ }) ∧
        t.trunk = { s.trunk with
          own := [⟨0xFFFF#16, s.straps.setWidth 16, 0#8, .notice told⟩,
            ⟨o.source, s.straps.setWidth 16, o.tag, .answer 13#8 .ok (.ended ended.length)⟩]
          relay := [], forward := [], counters := ⟨0, 0, 0, 0, 0, 0, 0, 0⟩, sequence := 1#8, turn := .relay } ∧
        t = { s with
          lamp := t.lamp, cases := t.cases, crews := t.crews, lifts := t.lifts, panels := t.panels, lines := t.lines
          trunk := t.trunk })

/-! ### CONTROL commands -/

/-- R156, R17: a CONTROL command whose tests pass is answered QUEUED and joins the tail of the line's routine queue
for the lift's car slot: INHIBIT always, ANNOUNCE with a message of at most 15, RESTORE and SERVICE while no case is
open on the lift. The request-kind byte of the ANSWER is a free value (log 10). R13, R15: a line in QUIET_IDLE sends a START at once,
which carries the command; here nothing else waits to be sent there. R156: a refused CONTROL command is answered, in this order, BAD_VALUE for an ANNOUNCE message
above 15, BAD_INDEX for an identity that resolves to nothing, WRONG_STATE for a line in OFF, LOCKED for RESTORE and
SERVICE while a case is open on the lift, and FULL for a routine queue of 8; nothing else changes (but for the
model's count of free values, log 10). -/
def Obligations.ControlCommandsAreQueuedOrRefused : Prop :=
  (∀ (s : State) (o : Origin) (identity : Nat) (i : LiftIdx), s.Ready 1 → s.resolveIdentity identity = some i →
     (s.line (lineOf i)).state ≠ .off → ((s.line (lineOf i)).state = .quietIdle → s.NothingToSend (lineOf i)) →
     (s.line (lineOf i)).routine.length < 8 →
     let drawn : State := { s with freeDraws := s.freeDraws + 1 }
     let queued (cmd : CarCommand) (k : Byte) : State :=
       (drawn.setLine (lineOf i) (if (s.line (lineOf i)).state = .quietIdle
         then s.startedWith (lineOf i) none (some (.toCar (carSlotOf i) cmd)) (s.slotSet (lineOf i))
         else { s.line (lineOf i) with
           routine := (s.line (lineOf i)).routine ++ [⟨carSlotOf i, cmd⟩] })).withAnswer o k .queued .none
     (∃ k, exec (.controlInhibit o identity) s = .next (queued .inhibit k)) ∧
     (∀ m ≤ 15, ∃ k, exec (.controlAnnounce o identity m) s = .next (queued (.announce m) k)) ∧
     ((s.lift i).dyn.openCase = none →
       (∃ k, exec (.controlRestore o identity) s = .next (queued .restore k)) ∧
       ∀ g, ∃ k, exec (.controlService o identity g) s = .next (queued (.service g) k))) ∧
  (∀ (s : State) (o : Origin) (identity : Nat), s.Ready 1 →
     let drawn : State := { s with freeDraws := s.freeDraws + 1 }
     let refused (code : AnswerCode) (k : Byte) : State := drawn.withAnswer o k code .none
     (∀ m, 15 < m → ∃ k, exec (.controlAnnounce o identity m) s = .next (refused .badValue k)) ∧
     (s.resolveIdentity identity = none →
       (∃ k, exec (.controlInhibit o identity) s = .next (refused .badIndex k)) ∧
       (∃ k, exec (.controlRestore o identity) s = .next (refused .badIndex k)) ∧
       (∀ m ≤ 15, ∃ k, exec (.controlAnnounce o identity m) s = .next (refused .badIndex k)) ∧
       ∀ g, ∃ k, exec (.controlService o identity g) s = .next (refused .badIndex k)) ∧
     ∀ i, s.resolveIdentity identity = some i →
       ((s.line (lineOf i)).state = .off →
         (∃ k, exec (.controlInhibit o identity) s = .next (refused .wrongState k)) ∧
         (∃ k, exec (.controlRestore o identity) s = .next (refused .wrongState k)) ∧
         (∀ m ≤ 15, ∃ k, exec (.controlAnnounce o identity m) s = .next (refused .wrongState k)) ∧
         ∀ g, ∃ k, exec (.controlService o identity g) s = .next (refused .wrongState k)) ∧
       ((s.line (lineOf i)).state ≠ .off → (s.lift i).dyn.openCase ≠ none →
         (∃ k, exec (.controlRestore o identity) s = .next (refused .locked k)) ∧
         ∀ g, ∃ k, exec (.controlService o identity g) s = .next (refused .locked k)) ∧
       ((s.line (lineOf i)).state ≠ .off → 8 ≤ (s.line (lineOf i)).routine.length →
         (∃ k, exec (.controlInhibit o identity) s = .next (refused .full k)) ∧
         (∀ m ≤ 15, ∃ k, exec (.controlAnnounce o identity m) s = .next (refused .full k)) ∧
         ((s.lift i).dyn.openCase = none →
           (∃ k, exec (.controlRestore o identity) s = .next (refused .full k)) ∧
           ∀ g, ∃ k, exec (.controlService o identity g) s = .next (refused .full k))))

/-! ### Crew requests -/

/-- R89, R16: a request under a tag that no enabled record holds is answered BAD_INDEX with nothing changed; every
request but DUTY_ON of a crew off duty is answered WRONG_STATE, and only the offer lost mark changes, which becomes
absent. Answers go back on the route of the request. R103, R105, R106: an ARRIVED, VOICE or STAND_DOWN that names a
serial not in the crew's held list, or no serial from a crew with an empty list, is answered NOT_HELD; an ARRIVED
naming a held case that is ON_SITE or CLEARED is answered WRONG_STATE; only the offer lost mark changes. -/
def Obligations.CrewRequestsAreJudgedFirst : Prop :=
  (∀ (s : State) (r : Route) (tag : Nat), s.Answers r 1 →
     (s.resolveTag tag = none → ∀ c ∈ [Instr.dutyOn r tag, .dutyOff r tag, .sweepOn r tag, .sweepOff r tag, .job r tag],
       exec c s = .next (s.withCrewAnswer r tag .badIndex none none)) ∧
     (s.resolveTag tag = none → ∀ n, ∀ c ∈ [Instr.accept r tag n, .decline r tag n, .arrived r tag n, .voice r tag n,
         .standDown r tag n],
       exec c s = .next (s.withCrewAnswer r tag .badIndex none none)) ∧
     ∀ k, s.resolveTag tag = some k → (s.crew k).dyn.onDuty = false →
       let u := (s.setCrewDyn k { (s.crew k).dyn with offerLost := none }).withCrewAnswer r tag .wrongState none none
       (∀ c ∈ [Instr.dutyOff r tag, .sweepOn r tag, .sweepOff r tag, .job r tag], exec c s = .next u) ∧
       ∀ n, ∀ c ∈ [Instr.accept r tag n, .decline r tag n, .arrived r tag n, .voice r tag n, .standDown r tag n],
         exec c s = .next u) ∧
  (∀ (s : State) (r : Route) (tag : Nat) (k : CrewNo) (serial : Option (BitVec 16)), s.Answers r 1 → s.OnDuty tag k →
     let only (code : AnswerCode) : State :=
       (s.setCrewDyn k { (s.crew k).dyn with offerLost := none }).withCrewAnswer r tag code none none
     ((serial = none ∧ (s.crew k).dyn.held = []) ∨
         (∃ n, serial = some n ∧ ∀ c ∈ (s.crew k).dyn.held, ¬ (s.isOpen c = true ∧ (s.caseAt c).serial = n)) →
       exec (.arrived r tag serial) s = .next (only .notHeld) ∧ exec (.voice r tag serial) s = .next (only .notHeld) ∧
       exec (.standDown r tag serial) s = .next (only .notHeld)) ∧
     ∀ n c, serial = some n → s.heldSerial k n = some c → (s.caseAt c).dispatch ≠ .assigned →
       exec (.arrived r tag serial) s = .next (only .wrongState))

/-- R90, R89: DUTY_ON makes the crew ON_DUTY and is answered OK, with no CALL and no offer; DUTY_OFF is refused BUSY while the
crew holds a case or an offer, and otherwise makes it OFF_DUTY with sweep no, its logged panel kept; SWEEP_ON and SWEEP_OFF set
the sweep and are answered OK; each answer clears the offer lost mark and nothing else changes. -/
def Obligations.DutyAndSweepRequests : Prop :=
  ∀ (s : State) (r : Route) (tag : Nat) (k : CrewNo), s.Answers r 1 → s.resolveTag tag = some k →
    let d := (s.crew k).dyn
    exec (.dutyOn r tag) s =
      .next ((s.setCrewDyn k { d with onDuty := true, offerLost := none }).withCrewAnswer r tag .ok none none) ∧
    (d.onDuty = true →
      ((d.held ≠ [] ∨ d.offer ≠ none) → exec (.dutyOff r tag) s =
        .next ((s.setCrewDyn k { d with offerLost := none }).withCrewAnswer r tag .busy none none)) ∧
      (d.held = [] → d.offer = none → exec (.dutyOff r tag) s =
        .next ((s.setCrewDyn k { d with onDuty := false, sweep := false, offerLost := none }).withCrewAnswer
          r tag .ok none none)) ∧
      exec (.sweepOn r tag) s =
        .next ((s.setCrewDyn k { d with sweep := true, offerLost := none }).withCrewAnswer r tag .ok none none) ∧
      exec (.sweepOff r tag) s =
        .next ((s.setCrewDyn k { d with sweep := false, offerLost := none }).withCrewAnswer r tag .ok none none))

/-- R93, R95: JOB with an offer outstanding answers OFFER for it again, with the case's fields as they are, and the offer and
its timer run on; without one, a case the choice finds is offered (OFFERED state, crew named, offer timer started, answered
OFFER, then the OFFERED notice), and NO_CASE is answered where it finds none. -/
def Obligations.JobAnswersTheOfferOrMakesOne : Prop :=
  ∀ (s : State) (r : Route) (tag : Nat) (k : CrewNo), s.Answers r 2 → s.OnDuty tag k →
    let d := (s.crew k).dyn
    let info (c : CaseNo) : OfferInfo :=
      ⟨(s.lift (s.caseAt c).lift).config.identity, (s.caseAt c).urgency, lineOf (s.caseAt c).lift⟩
    (∀ x, d.offer = some x → exec (.job r tag) s =
      .next ((s.setCrewDyn k { d with offerLost := none }).withCrewAnswer r tag .offer
        (some (s.caseAt x.case).serial) (some (info x.case)))) ∧
    (d.offer = none → s.choice k = none → exec (.job r tag) s =
      .next ((s.setCrewDyn k { d with offerLost := none }).withCrewAnswer r tag .noCase none none)) ∧
    (∀ c, d.offer = none → s.choice k = some c → (s.caseAt c).owed = false →
      let q := { s.caseAt c with dispatch := .offered, crew := some k }
      exec (.job r tag) s = .next ((((s.setCase c q).setCrewDyn k { d with
          offer := some ⟨c, .running s.settings.offerTimeout⟩, offerLost := none }).withCrewAnswer r tag .offer
            (some q.serial) (some (info c))).withNotice c q .offered .none))

/-- R94: what the choice finds is an OPEN case that is eligible for the crew, and no eligible OPEN case has a
smaller urgency; between equals, in ROTATE mode, none stands higher in the rotation order, and in OLDEST mode none
has been open longer (modulo 2³²), the lower record number winning equal times. Where an eligible case exists, one
is found. R101: the held list as it is read has the crew's held cases, each as often as it is held, and every case
stands before no case of a smaller urgency, nor, of equal urgency, of one accepted longer ago (modulo 2³², log 16),
nor, of equal stamps, of a lower record number. -/
def Obligations.ChoicesAndHeldListsGoByUrgency : Prop :=
  (∀ (s : State) (k : CrewNo),
     let eligible (c : CaseNo) : Prop := s.isOpen c = true ∧ (s.caseAt c).dispatch = .waiting ∧
       (s.crew k).config.coverage[(lineOf (s.caseAt c).lift).val] = true ∧ k ∉ (s.caseAt c).declined ∧
       (s.crew k).dyn.held.length < 3 ∧
       ((∀ h ∈ (s.crew k).dyn.held, (s.caseAt c).urgency < (s.caseAt h).urgency) ∨
         ((s.crew k).dyn.sweep = true ∧ ∃ p, (s.crew k).dyn.logged = some p ∧ panelLine p = lineOf (s.caseAt c).lift))
     let age (c : CaseNo) : Nat := (s.time.stamp - (s.caseAt c).openedAt).toNat
     (∀ c, s.choice k = some c → eligible c ∧ ∀ e, eligible e →
       (s.caseAt c).urgency ≤ (s.caseAt e).urgency ∧
       ((s.caseAt c).urgency = (s.caseAt e).urgency →
         (s.settings.tieMode = .oldest → age e < age c ∨ (age e = age c ∧ c ≤ e)) ∧
         (s.settings.tieMode = .rotate →
           s.rotation.idxOf (s.caseAt c).lift ≤ s.rotation.idxOf (s.caseAt e).lift))) ∧
     ((∃ c, eligible c) → s.choice k ≠ none)) ∧
  (∀ (s : State) (k : CrewNo),
     let age (c : CaseNo) : Nat := (s.time.stamp - (s.caseAt c).acceptedAt.getD 0).toNat
     (s.heldOrder k).Perm (s.crew k).dyn.held ∧
     (s.heldOrder k).Pairwise fun a b =>
       (s.caseAt a).urgency < (s.caseAt b).urgency ∨ ((s.caseAt a).urgency = (s.caseAt b).urgency ∧
         (age b < age a ∨ (age a = age b ∧ a ≤ b))))

/-- R96, R58, R101, R102, R92, R104: an ACCEPT that names the offered case, or none, clears the offer, moves the lift to the bottom
of the rotation order in ROTATE mode, makes the case ASSIGNED with the present stamp, puts it into the held list, starts its
arrival window from the crew's line, and is answered OK before ACCEPTED; a max of 0 makes the case late after it. (A serial that a lower OPEN record holds too does not name
the offered case: R58, where R96's words could be read otherwise, log 37.) -/
def Obligations.AcceptAssignsTheCase : Prop :=
  ∀ (s : State) (r : Route) (tag : Nat) (k : CrewNo) (x : Offer) (serial : Option (BitVec 16)),
    s.Answers r 3 → s.OnDuty tag k → (s.crew k).dyn.offer = some x →
    s.NamesCase serial x.case → (s.caseAt x.case).owed = false →
    (∃ y, (s.caseAt x.case).causes.has y = true ∧ (s.classes[y.index.val]).closeOnAccept = false) →
    let c := x.case
    let v := s.travelOf (match (s.crew k).dyn.logged with
      | some p => panelLine p
      | none => (s.crew k).config.post) (lineOf (s.caseAt c).lift)
    let q := { s.caseAt c with
      dispatch := .assigned
      acceptedAt := some s.time.stamp
      window := ⟨if v.min = 0 then .stopped else .running v.min, if v.max = 0 then .stopped else .running v.max,
        v.min == 0, v.max == 0⟩ }
    let late := { q with urgency := q.urgency - 1, late := true }
    let order : List LiftIdx := if s.settings.tieMode = .rotate then s.rotation.erase q.lift ++ [q.lift] else s.rotation
    let moved : State := { s with rotation := order }
    let u := (((moved.setCase c q).setCrewDyn k { (s.crew k).dyn with
          offer := none, held := (s.crew k).dyn.held ++ [c], offerLost := none }).withCrewAnswer r tag .ok
            (some q.serial) none).withNotice c q .accepted .none
    exec (.accept r tag serial) s = .next (if v.max = 0 then (u.setCase c late).withNotice c late .late .none else u)

/-- R96, R97, R58, R99: an ACCEPT or DECLINE that cannot be taken is answered WRONG_STATE for a serial that does not name the
offered case, another one or one that a lower OPEN record holds too, GONE with the mark's serial where there is no offer but the mark, and WRONG_STATE where there is neither; only the
mark changes, which becomes absent. An ACCEPT of a case whose every cause closes on accept is answered OK and closes it
ACKNOWLEDGED, with no ACCEPTED notice; here the CLOSED notice finds room, and nothing reopens, or (R78) the lift's still-true
LEVEL causes open a fresh case at once. (That R58's lower record is named against R96's words, log 37, and that the tags in CALL
stand in crew record order, log 38, are the model's choices.) -/
def Obligations.AcceptsAndDeclinesThatTakeNoCase : Prop :=
  ∀ (s : State) (r : Route) (tag : Nat) (k : CrewNo) (serial : Option (BitVec 16)), s.Answers r 2 → s.OnDuty tag k →
    let d := (s.crew k).dyn
    let only (code : AnswerCode) (n : Option (BitVec 16)) : State :=
      (s.setCrewDyn k { d with offerLost := none }).withCrewAnswer r tag code n none
    (∀ x, d.offer = some x → ¬ s.NamesCase serial x.case →
      exec (.accept r tag serial) s = .next (only .wrongState none) ∧
      exec (.decline r tag serial) s = .next (only .wrongState none)) ∧
    (∀ n, d.offer = none → d.offerLost = some n →
      exec (.accept r tag serial) s = .next (only .gone (some n)) ∧
      exec (.decline r tag serial) s = .next (only .gone (some n))) ∧
    (d.offer = none → d.offerLost = none →
      exec (.accept r tag serial) s = .next (only .wrongState none) ∧
      exec (.decline r tag serial) s = .next (only .wrongState none)) ∧
    ∀ x, d.offer = some x → s.NamesCase serial x.case →
      s.isOpen x.case = true → (s.caseAt x.case).owed = false →
      (∀ y, (s.caseAt x.case).causes.has y = true → (s.classes[y.index.val]).closeOnAccept = true) →
      let i := (s.caseAt x.case).lift
      let order : List LiftIdx := if s.settings.tieMode = .rotate then s.rotation.erase i ++ [i] else s.rotation
      let moved : State := { s with rotation := order }
      let u := ((moved.setCrewDyn k { d with offer := none, offerLost := none }).withCrewAnswer r tag .ok
        (some (s.caseAt x.case).serial) none).closedOff x.case .acknowledged
      (s.NoReopening i → exec (.accept r tag serial) s = .next u) ∧
      ∀ e set, s.Answers r 5 → s.Reopens x.case e set →
        exec (.accept r tag serial) s = .next (u.openedAndHandedOver e i set)

/-- R97, R58, R100: a DECLINE of the offered case clears the offer, returns the case to WAITING with no crew, enters the crew once in
its declined set, is answered OK naming the case, and DECLINED with the crew's tag and then CALL are made. (That a serial names the
lower of two OPEN records that hold it, log 37, and that the tags in CALL stand in crew record order, log 38, are the model's
choices.) -/
def Obligations.DeclineReturnsTheCase : Prop :=
  ∀ (s : State) (r : Route) (tag : Nat) (k : CrewNo) (x : Offer) (serial : Option (BitVec 16)),
    s.Answers r 3 → s.OnDuty tag k → (s.crew k).dyn.offer = some x →
    s.NamesCase serial x.case → (s.caseAt x.case).owed = false →
    let c := x.case
    let q := { s.caseAt c with
      dispatch := .waiting
      crew := none
      declined := if k ∈ (s.caseAt c).declined then (s.caseAt c).declined else (s.caseAt c).declined ++ [k] }
    let u := ((s.setCase c q).setCrewDyn k { (s.crew k).dyn with offer := none, offerLost := none }).withCrewAnswer
      r tag .ok (some q.serial) none
    exec (.decline r tag serial) s =
      .next ((u.withNotice c q .declined (.tag (s.crew k).config.tag)).withCall c q)

/-- R103, R73, R102: an ARRIVED at a held ASSIGNED case whose min timer has run out makes it ON_SITE, stops its window's timers
(the marks stay), is answered OK before ARRIVED, and then CREW_ARRIVED reaches the case: it is seen, and stops the escalation
timer where it is the stop source, or starts it again where it is the clear source and the timer runs. Before the min timer's
end it is answered IMPLAUSIBLE, the crew's implausible count goes up, stopping at 15, and IMPLAUSIBLE is made. Here no
procedure waits for CREW_ARRIVED. -/
def Obligations.ArrivalIsJudgedByTheMinTimer : Prop :=
  ∀ (s : State) (r : Route) (tag : Nat) (k : CrewNo) (c : CaseNo) (serial : Option (BitVec 16)),
    s.Answers r 2 → s.OnDuty tag k → s.isOpen c = true → (s.caseAt c).owed = false → (s.caseAt c).dispatch = .assigned →
    ((serial = none ∧ (s.crew k).dyn.held ≠ [] ∧
        (s.heldOrder k).find? (fun e => (s.caseAt e).dispatch == .assigned) = some c) ∨
      ∃ n, serial = some n ∧ s.heldSerial k n = some c) →
    (s.caseAt c).procedure.wait ≠ .event .crewArrived →
    let d := (s.crew k).dyn
    let a := s.caseAt c
    let q := { a with dispatch := .onSite, window := { a.window with minTimer := .stopped, maxTimer := .stopped } }
    let q1 := { q with
      seen := { q.seen with crewArrived := true }
      escalation := if q.stop = some .crewArrived then .stopped
        else if q.clear = some .crewArrived ∧ q.escalation ≠ .stopped then .running q.interval else q.escalation }
    (a.window.minRunOut = true → exec (.arrived r tag serial) s = .next
      (((((s.setCase c q).setCrewDyn k { d with offerLost := none }).withCrewAnswer r tag .ok (some a.serial) none).withNotice
        c q .arrived .none).setCase c q1)) ∧
    (a.window.minRunOut = false → exec (.arrived r tag serial) s = .next
      (((s.setCrewDyn k { d with implausible := min 15 (d.implausible + 1), offerLost := none }).withCrewAnswer
        r tag .implausible (some a.serial) none).withNotice c a .implausible (.count (min 15 (d.implausible + 1)))))

/-- R105, R73: VOICE for a held case is answered OK naming it, and VOICE_CONTACT then reaches the case in any
dispatch state: it is seen, and stops the escalation timer where it is the stop source, or starts it again where it
is the clear source and the timer runs. The arbiter makes no notice. Here no procedure waits for VOICE_CONTACT.
R106, R76, R77: STAND_DOWN of a held case is answered OK naming it, and the case closes STOOD_DOWN in whatever
dispatch state it is. Here the CLOSED notice finds room, and nothing reopens, or (R78) the lift's still-true LEVEL causes open a
fresh case at once. (That the tags in CALL stand in crew record order is the model's choice, log 38.) -/
def Obligations.VoiceAndStandDownReachTheHeldCase : Prop :=
  (∀ (s : State) (r : Route) (tag : Nat) (k : CrewNo) (c : CaseNo) (serial : Option (BitVec 16)),
     s.Answers r 1 → s.OnDuty tag k → s.heldNamed k serial = some c → s.isOpen c = true →
     (s.caseAt c).procedure.wait ≠ .event .voiceContact →
     let a := s.caseAt c
     let q := { a with
       seen := { a.seen with voiceContact := true }
       escalation := if a.stop = some .voiceContact then .stopped
         else if a.clear = some .voiceContact ∧ a.escalation ≠ .stopped then .running a.interval else a.escalation }
     exec (.voice r tag serial) s = .next
       (((s.setCrewDyn k { (s.crew k).dyn with offerLost := none }).withCrewAnswer r tag .ok (some a.serial) none).setCase c q)) ∧
  (∀ (s : State) (r : Route) (tag : Nat) (k : CrewNo) (c : CaseNo) (serial : Option (BitVec 16)),
     s.Answers r 2 → s.OnDuty tag k → s.heldNamed k serial = some c → s.isOpen c = true → (s.caseAt c).owed = false →
     let u := ((s.setCrewDyn k { (s.crew k).dyn with offerLost := none }).withCrewAnswer r tag .ok
       (some (s.caseAt c).serial) none).closedOff c .stoodDown
     (s.NoReopening (s.caseAt c).lift → exec (.standDown r tag serial) s = .next u) ∧
     ∀ e set, s.Answers r 5 → s.Reopens c e set →
       exec (.standDown r tag serial) s = .next (u.openedAndHandedOver e (s.caseAt c).lift set))

/-! ### The computations of the blocks -/

/-- R39 to R44, R38: a taken report sets the lift state by the first line of the table of R44, whatever it was before, with the
moving test of R39, the nearest landing of R40 (no landing nearer, none as near below it) and the door zone of R41; the stop
count goes up on a report that is not moving and out of the zone, stopping at 15, and returns to 0 on every other; a silent
slot leaves it, and entries into DISABLED, OFFLINE and UNSEEN return it to 0. R54, R51: then the case manager is told of a changed
truth, the open case is handed the report, its car events, the occupancy change and the new presses, the causes that meet their
triggers are raised, and a summary is decided (R52), in this order; R45: what a silent slot does. As a window's close, for a report
between two windows: one that raises nothing and finds no case; one that opens a case in the lowest FREE record (R61; the page begins
with END(HANDOVER)); one that latches with TABLE_FULL (R65); one whose events, occupancy (R68), presses (R69) and causes (R64) reach
the open case, in which no procedure runs and no release is held; EVACUATED, which closes a WAITING or OFFERED case
CLEARED_UNATTENDED and clears another (R75); and one that ends the last true cause of a WAITING or OFFERED case, which is WITHDRAWN
(R74), also one that a LINE_RESET had kept true until this report (the model's choice, log 34). (An opening's CALL has its tags in
crew record order, the model's choice, log 38.) -/
def Obligations.ReportsSetTheLiftState : Prop :=
  (∀ (s : State) (i : LiftIdx) (r : CarReport), (s.lift i).config.landings ≠ [] →
    let g := (s.lift i).config
    let d := (s.lift i).dyn
    let e := ((takenReport s i r).1.lift i).dyn
    (∃ h : Nat, g.landings[e.nearest]? = some h ∧
      (∀ j x : Nat, g.landings[j]? = some x → ((r.position : Int) - h).natAbs ≤ ((r.position : Int) - x).natAbs ∧
        (j < e.nearest → ((r.position : Int) - h).natAbs < ((r.position : Int) - x).natAbs)) ∧
      let moves : Prop := g.creep ≤ ((r.velocityCode : Int) - 512).natAbs
      let zone : Prop := ((r.position : Int) - h).natAbs ≤ g.doorZone
      (¬ moves → ¬ zone → e.stopCount = min 15 (d.stopCount + 1)) ∧ (moves ∨ zone → e.stopCount = 0) ∧
      (r.mode = .maint → e.state = .maintenance) ∧
      (r.mode ≠ .maint → moves → e.state = .running) ∧
      (r.mode ≠ .maint → ¬ moves → zone → e.state = .parked) ∧
      (r.mode ≠ .maint → ¬ moves → ¬ zone → e.stopCount < g.debounce → e.state = .halted) ∧
      (r.mode ≠ .maint → ¬ moves → ¬ zone → g.debounce ≤ e.stopCount → e.state = .stalled)) ∧
    e.silenceCount = 0 ∧ e.pressBaseline = some r.presses ∧
    (∃ n, e.lastReport = some n ∧ n.position = r.position ∧ n.velocity = ((r.velocityCode : Int) - 512) * 10 ∧
      n.load = min 200 r.load ∧ n.mode = r.mode ∧ n.doors = r.doors ∧ n.occupancy = r.occupancy) ∧
    ((silentSlot s i).1.lift i).dyn.stopCount = d.stopCount ∧
    (∀ st, ((enterState s i st).1.lift i).dyn.stopCount = 0) ∧
    (g.enabled = true → ((resetLift s i).1.lift i).dyn.stopCount = 0)) ∧
  (∀ (s : State) (i : LiftIdx) (r : CarReport),
    let g := (s.lift i).config
    let d := (s.lift i).dyn
    let u := (takenReport s i r).1
    let e := (u.lift i).dyn
    let raised := raisedCauses g d.truth e.truth
    u = s.setLift i ⟨g, e⟩ ∧ e.truth = u.truthOf i ∧ e.latch = d.latch ∧ e.openCase = d.openCase ∧
    ∃ handed : List Job,
      (takenReport s i r).2 = (if d.truth = e.truth ∧ (s.lift i).standingTruth = e.truth then [] else [.truthTold i]) ++ handed ++
        (if raised = .empty then [] else [.raise i raised]) ++ [.summaryReport i d.state d.lastReport] ∧
      (d.openCase = none → handed = []) ∧
      ∀ c, d.openCase = some c → ∃ now events, e.lastReport = some now ∧
        CarEvents d.state e.state d.lastReport now events ∧
        handed = .releaseReport c (s.caseAt c).serial (decide (g.creep ≤ ((r.velocityCode : Int) - 512).natAbs)) ::
          events.map (.event c (s.caseAt c).serial ·) ++
          (if r.occupancy = .occupied ∧ (d.lastReport.any fun m => m.occupancy == .occupied) = false
            then [.occupancy c (s.caseAt c).serial] else []) ++
          (match d.pressBaseline with
            | some b => if (r.presses + 16 - b) % 16 = 0 then []
              else [.presses c (s.caseAt c).serial ((r.presses + 16 - b) % 16)]
            | none => [])) ∧
  (∀ (s : State) (i : LiftIdx),
    let g := (s.lift i).config
    let d := (s.lift i).dyn
    let n := min 15 (d.silenceCount + 1)
    let v := s.setLift i ⟨g, { d with silenceCount := n, state := if g.silence ≤ n then .silent else d.state }⟩
    let raised := raisedCauses g d.truth (v.truthOf i)
    silentSlot s i = (v.setLift i ⟨g, { (v.lift i).dyn with truth := v.truthOf i }⟩,
      (if d.truth = v.truthOf i then [] else [.truthTold i]) ++ (if raised = .empty then [] else [.raise i raised]) ++
        (if (v.lift i).dyn.state = d.state then [] else [.summaryChange i]))) ∧
  (∀ (s : State) (c : CaseNo),
    let a := s.caseAt c
    occupancyChange s c =
      if a.occupancyCounted = true then s else s.setCase c { a with urgency := a.urgency - 1, occupancyCounted := true }) ∧
  ∀ (s : State) (l : LineId) (k : Fin 16) (next : Slot) (held : WindowHeld) (r : CarReport), s.Ready 3 →
    (s.line l).state = .cycle → (s.line l).currentSlot = some (carSlot k) →
    (s.line l).slotSet.find? (fun x => carSlot k < x) = some next →
    judgeWindow (carSlot k) (s.line l).collided held = .report r →
    let i := liftAt l k
    let g := (s.lift i).config
    let d := (s.lift i).dyn
    let u := (takenReport s i r).1
    let e := (u.lift i).dyn
    let raised := raisedCauses g d.truth e.truth
    g.enabled = true → d.latch = .empty →
    let changed : Bool := e.state != d.state || d.lastReport.all fun m =>
      m.mode != r.mode || m.doors != r.doors || m.occupancy != r.occupancy || m.alarm != r.alarm
    let closes (v : State) : Prop := exec (.answerWindowClose l held) s = .next
      ((if g.forwarding = .all ∨ (g.forwarding = .changes ∧ changed = true)
        then v.withBroadcast (.summary ⟨g.identity, s.time.stamp, e.state, e.lastReport⟩) else v).setLine l
        { s.line l with currentSlot := some next, collided := false })
    (d.openCase = none →
      (raised = .empty → closes u) ∧
      (∀ c, raised ≠ .empty → s.Ready 4 → (s.caseAt c).record = .free → (∀ b < c, (s.caseAt b).record ≠ .free) →
        (s.stepOf ⟨g.page, 0, false, .running, .none, 0, .stopped⟩).action = 12 →
        (s.stepOf ⟨g.page, 0, false, .running, .none, 0, .stopped⟩).argument = 2 →
        closes (u.openedAndHandedOver c i raised)) ∧
      (raised ≠ .empty → (∀ c, (s.caseAt c).record ≠ .free) →
        let v := u.setLift i ⟨g, { e with latch := raised }⟩
        closes (if ∃ j, (s.lift j).dyn.latch ≠ .empty then v
          else v.withBroadcast (.notice ⟨.tableFull, none, some g.identity, s.time.stamp, none, none, .none⟩)))) ∧
    ∀ c, d.openCase = some c → s.isOpen c = true → (s.caseAt c).lift = i → (s.caseAt c).owed = false →
      (s.caseAt c).release = none → (s.caseAt c).procedure.status ≠ .running → (s.caseAt c).presses ≤ 255 → 0 < (s.classes[1]).skip →
      let a := s.caseAt c
      let unattended : Prop := a.dispatch = .waiting ∨ a.dispatch = .offered
      let fallen : Prop := (e.truth ≠ d.truth ∨ e.truth ≠ (s.lift i).standingTruth) ∧ unattended ∧
        ∀ x, a.causes.has x = true → (g.cause x).trigger = .level ∧ e.truth.has x = false
      (fallen → raised = .empty → u.NoReopening i → closes (u.closedOff c .withdrawn)) ∧
      (¬ fallen → ∀ now events, e.lastReport = some now → CarEvents d.state e.state d.lastReport now events →
        let a1 := events.foldl Case.met a
        (.evacuated ∈ events → unattended → raised = .empty → u.NoReopening i →
          closes ((u.setCase c a1).closedOff c .clearedUnattended)) ∧
        ((.evacuated ∈ events → ¬ unattended) →
          let clears : Bool := events.contains .evacuated && (a.dispatch == .assigned || a.dispatch == .onSite)
          let a2 := if clears = true then { a1 with
            dispatch := .cleared, escalation := .stopped
            window := { a1.window with minTimer := .stopped, maxTimer := .stopped } } else a1
          let v := if clears = true then (u.setCase c a2).withNotice c a2 .cleared (.source .evacuated) else u
          let a3 := if r.occupancy = .occupied ∧ (d.lastReport.any fun m => m.occupancy == .occupied) = false ∧
              a2.occupancyCounted = false then { a2 with urgency := a2.urgency - 1, occupancyCounted := true } else a2
          let a4 := a3.pressed (s.classes[1]).skip (match d.pressBaseline with
            | some b => (r.presses + 16 - b) % 16
            | none => 0)
          let new := raised.diff a.causes
          let a5 := s.recordJoined a4 new
          (new = .empty → closes (v.setCase c a4)) ∧
          (new ≠ .empty → closes ((v.setCase c a5).withNotice c a5 .causeAdded (.causes new)))))

/-- R46, R28, R49: what an evaluation finds true and what it raises: STALL in the state STALLED, ALARM where the last report shows
the alarm, both held while there is no last report, SHARED where an active input of an enabled panel of the line maps to the
slot, SILENT in the state SILENT, never MANUAL, each only while it is enabled, and none in DISABLED or OFFLINE; an EDGE cause
is raised when it became true, a LEVEL cause whenever it is true. R21, R28, R74: what a LINE_RESET has kept of the set stays kept
through silent slots and evaluations until the first taken report or an entry of another kind; while it is kept an enabled cause of it
stands for the tests of withdrawals and latches (standingTruth), SHARED and SILENT too, which R46 computes afresh in the set (the
model's choice, log 34); with a last report what stands is the enabled causes of the set. R48: a re-evaluation of SHARED does nothing
in DISABLED and OFFLINE; elsewhere it stores the set, tells of a change and raises, and touches nothing else. -/
def Obligations.TruthAndRaisesFollowTheConditions : Prop :=
  (∀ (s : State) (i : LiftIdx),
    let g := (s.lift i).config
    let d := (s.lift i).dyn
    let known : Prop := d.state ≠ .disabled ∧ d.state ≠ .offline
    ((s.truthOf i).stall = true ↔ known ∧ g.stall.enabled = true ∧
      ((d.lastReport ≠ none ∧ d.state = .stalled) ∨ (d.lastReport = none ∧ d.keptTruth.stall = true))) ∧
    ((s.truthOf i).alarm = true ↔ known ∧ g.alarm.enabled = true ∧
      ((∃ n, d.lastReport = some n ∧ n.alarm = true) ∨ (d.lastReport = none ∧ d.keptTruth.alarm = true))) ∧
    ((s.truthOf i).shared = true ↔ known ∧ g.shared.enabled = true ∧
      ∃ (place k : Fin 4), let p := s.panel (panelAt (lineOf i) place)
        p.config.enabled = true ∧ p.dyn.inputs.getLsbD k.val = true ∧
          p.config.map[k.val].getLsbD (carSlotOf i).val = true) ∧
    ((s.truthOf i).silent = true ↔ known ∧ g.silent.enabled = true ∧ d.state = .silent) ∧
    (s.truthOf i).manual = false ∧
    ∀ x, (s.lift i).standingTruth.has x = true ↔ (g.cause x).enabled = true ∧
      (d.truth.has x = true ∨ (d.lastReport = none ∧ d.keptTruth.has x = true))) ∧
  (∀ (g : LiftConfig) (old new : CauseSet) (c : Cause),
    (raisedCauses g old new).has c = true ↔ ((g.cause c).enabled = true ∧ new.has c = true ∧
      ((g.cause c).trigger = .level ∨ old.has c = false))) ∧
  (∀ (s : State) (i : LiftIdx),
    let g := (s.lift i).config
    let d := (s.lift i).dyn
    let t := (resetLift s i).1
    (g.enabled = true → (t.lift i).dyn.truth = d.truth ∧
      ∀ x, d.truth.has x = true → (t.lift i).dyn.keptTruth.has x = true ∧
        ((g.cause x).enabled = true → (t.lift i).standingTruth.has x = true ∧
          ((silentSlot t i).1.lift i).standingTruth.has x = true ∧ ((sharedEval t i).1.lift i).standingTruth.has x = true ∧
          (x = .stall ∨ x = .alarm → (t.truthOf i).has x = true ∧ ((silentSlot t i).1.lift i).dyn.truth.has x = true))) ∧
    ((silentSlot s i).1.lift i).dyn.keptTruth = d.keptTruth ∧ ((sharedEval s i).1.lift i).dyn.keptTruth = d.keptTruth ∧
    (∀ r, ((takenReport s i r).1.lift i).dyn.keptTruth = .empty) ∧
    ∀ st, ((enterState s i st).1.lift i).dyn.keptTruth = .empty) ∧
  ∀ (s : State) (i : LiftIdx),
    let g := (s.lift i).config
    let d := (s.lift i).dyn
    let raised := raisedCauses g d.truth (s.truthOf i)
    (d.state = .disabled ∨ d.state = .offline → sharedEval s i = (s, [])) ∧
    (d.state ≠ .disabled → d.state ≠ .offline → sharedEval s i = (s.setLift i ⟨g, { d with truth := s.truthOf i }⟩,
      (if d.truth = s.truthOf i then [] else [.truthTold i]) ++ if raised = .empty then [] else [.raise i raised]))

/-- R69: a count of new presses is added to the case's total, stopping at 255, and the urgency improves by one for every
threshold 1, 1 + N, 1 + 2N, … above the total before and no greater than the total after. R67: the latch of a lift told of a new
truth set is cleared exactly when every cause in it is LEVEL and none of them is true; R74: and its open case closes WITHDRAWN
exactly when it is WAITING or OFFERED and its causes are so. R61: a raise joins the open case with the causes it lacks (R64), and then
its handover test (R72); or opens a case in the lowest FREE record, with the lift's latch less its LEVEL causes now false; or, where
none is FREE, enters the latch, with TABLE_FULL where no latch was set (R65). R66: latch arbitration gives no record
where none is FREE; otherwise every latch loses its LEVEL causes that are now false, and the lift of the best candidate
urgency among those with causes left, the lower index of equals, has its latch opened as a case in the lowest FREE record;
where no latch is left, none opens. R78, R65: a close with room for its CLOSED notice puts the still-true LEVEL causes into
the lift's latch and then arbitrates, whatever the reason; TABLE_FULL follows where a latch is set then and none was before (that it
follows the arbitration is DEDUCED, log 14; that the tags in CALL stand in crew record order is the model's choice, log 38). A cause
that a LINE_RESET has kept true is not now false before the first taken report, for withdrawals and latches (log 34). -/
def Obligations.PressThresholdsAndLatchTests : Prop :=
  (∀ (s : State) (c : CaseNo) (n : Nat), 0 < (s.classes[1]).skip →
    let r := s.caseAt c
    let total := min 255 (r.presses + n)
    let reached := (List.range 256).filter fun t =>
      1 ≤ t && (t - 1) % (s.classes[1]).skip == 0 && r.presses < t && t ≤ total
    r.presses ≤ 255 → addPresses s c n = s.setCase c { r with presses := total, urgency := r.urgency - reached.length }) ∧
  (∀ (s : State) (i : LiftIdx) (causes : CauseSet), s.trunk.own.length + 2 ≤ 32 →
    let d := (s.lift i).dyn
    (∀ c, d.openCase = some c → (s.caseAt c).owed = false →
      let new := causes.diff (s.caseAt c).causes
      let joined := s.recordJoined (s.caseAt c) new
      (new = .empty → raise s i causes = (s, [])) ∧
      (new ≠ .empty → raise s i causes =
        ((s.setCase c joined).withNotice c joined .causeAdded (.causes new), [.handoverTest c]))) ∧
    (d.openCase = none →
      (∀ c, (s.caseAt c).record = .free → (∀ e < c, (s.caseAt e).record ≠ .free) → causes ≠ .empty →
        raise s i causes = (s.openedIn c i (causes.union (s.lift i).standingLatch), [.go c 0 0 false])) ∧
      ((∀ c, (s.caseAt c).record ≠ .free) → causes ≠ .empty →
        let u := s.setLift i { s.lift i with dyn := { d with latch := d.latch.union causes } }
        raise s i causes = (if ∃ j, (s.lift j).dyn.latch ≠ .empty then u else u.withBroadcast (.notice ⟨.tableFull, none,
          some (s.lift i).config.identity, s.time.stamp, none, none, .none⟩), [])))) ∧
  (∀ (s : State) (i : LiftIdx),
    let d := (s.lift i).dyn
    let stands (x : Cause) : Prop := ((s.lift i).config.cause x).enabled = true ∧
      (d.truth.has x = true ∨ (d.lastReport = none ∧ d.keptTruth.has x = true))
    let fallen : Prop := ∀ x, d.latch.has x = true → ((s.lift i).config.cause x).trigger = .level ∧ ¬ stands x
    let withdrawn (c : CaseNo) : Prop := d.openCase = some c ∧
      ((s.caseAt c).dispatch = .waiting ∨ (s.caseAt c).dispatch = .offered) ∧
      ∀ x, (s.caseAt c).causes.has x = true → ((s.lift i).config.cause x).trigger = .level ∧ ¬ stands x
    (fallen → (truthTold s i).1 = s.setLift i { s.lift i with dyn := { d with latch := .empty } }) ∧
    (¬ fallen → (truthTold s i).1 = s) ∧
    (∀ c, withdrawn c → (truthTold s i).2 = [.close c .withdrawn]) ∧
    ((∀ c, ¬ withdrawn c) → (truthTold s i).2 = [])) ∧
  (∀ s : State, ((∀ c, (s.caseAt c).record ≠ .free) → arbitrate s = (s, [])) ∧
    ∀ c, (s.caseAt c).record = .free → (∀ e < c, (s.caseAt e).record ≠ .free) →
      let left (i : LiftIdx) : CauseSet := (s.lift i).standingLatch
      let u : State := { s with
        lifts := s.lifts.map fun (r : Lift) => { r with dyn := { r.dyn with latch := r.standingLatch } } }
      ((∀ i, left i = .empty) → arbitrate s = (u, [])) ∧
      ∀ i, left i ≠ .empty →
        (∀ j, left j ≠ .empty → s.urgencyAtOpening i (left i) < s.urgencyAtOpening j (left j) ∨
          (s.urgencyAtOpening i (left i) = s.urgencyAtOpening j (left j) ∧ i ≤ j)) →
        s.trunk.own.length + 2 ≤ 32 →
        arbitrate s = (u.openedIn c i (left i), [.go c 0 0 false])) ∧
  ∀ (s : State) (c : CaseNo) (reason : CloseReason), s.isOpen c = true → (s.caseAt c).owed = false →
    s.trunk.own.length < 32 →
    let i := (s.caseAt c).lift
    let u := s.closedOff c reason
    let d := (u.lift i).dyn
    let standing : CauseSet := .filter fun x => d.latch.has x || (((s.lift i).config.cause x).enabled &&
      ((s.lift i).config.cause x).trigger == .level && d.truth.has x)
    let given := arbitrate (u.setLift i { u.lift i with dyn := { d with latch := standing } })
    closeCase s c reason = (if (∀ j, (s.lift j).dyn.latch = .empty) ∧ ∃ j, (given.1.lift j).dyn.latch ≠ .empty
      then given.1.notifyFull i else given.1, given.2)

/-- R129: the release plan, its steps in order: NOT_NEEDED in the door zone of the nearest landing; BALANCED where the load is
less than 5 from the balance; DOWN to the highest landing below p − dz where the load is above it, UP to the lowest landing
above p + dz otherwise, NO_TARGET where there is none; TOO_FAR beyond the reach; TOO_MANY where k and the pulses needed, the
distance divided by the step rounded up, exceed the cap; otherwise ALLOWED with what was found. Equality passes each limit.
R130, R131: a release is refused with the reason of the first test that fails, in their order, and otherwise begins with the
plan, the crew's panel with its press number taken as used, and the car's echo as the pulse sequence. -/
def Obligations.ReleasePlansFollowTheirSteps : Prop :=
  (∀ (g : LiftConfig) (p load k : Nat), g.landings.Pairwise (· < ·) → 0 < g.step →
    (inDoorZone g.landings g.doorZone p = true → planOf g p load k = .notNeeded) ∧
    (inDoorZone g.landings g.doorZone p = false →
      (((load : Int) - g.balance).natAbs < 5 → planOf g p load k = .crewOnly .balanced) ∧
      (5 ≤ ((load : Int) - g.balance).natAbs →
        let beyond (h : Nat) : Prop := if g.balance < load then h + g.doorZone < p else p + g.doorZone < h
        ((∀ h ∈ g.landings, ¬ beyond h) → planOf g p load k = .crewOnly .noTarget) ∧
        ∀ t h, g.landings[t]? = some h → beyond h →
          (∀ x ∈ g.landings, beyond x → if g.balance < load then x ≤ h else h ≤ x) →
          let d := ((h : Int) - p).natAbs
          (g.reach < d → planOf g p load k = .crewOnly .tooFar) ∧
          ∀ n, d ≤ n * g.step → n * g.step < d + g.step →
            1 ≤ n ∧
            (d ≤ g.reach → g.cap < k + n → planOf g p load k = .crewOnly .tooMany) ∧
            (d ≤ g.reach → k + n ≤ g.cap →
              planOf g p load k = .allowed (if g.balance < load then .down else .up) t d n)))) ∧
  ∀ (s : State) (c : CaseNo),
    let r := s.caseAt c
    let g := (s.lift r.lift).config
    (r.dispatch ≠ .onSite → s.releaseStart c = .error .notOnSite) ∧
    (r.dispatch = .onSite → (s.lift r.lift).dyn.lastReport = none → s.releaseStart c = .error .noReport) ∧
    ∀ n, r.dispatch = .onSite → (s.lift r.lift).dyn.lastReport = some n →
      let here (p : PanelIdx) : Prop := panelLine p = lineOf r.lift ∧
        ∃ k, r.crew = some k ∧ (s.crew k).dyn.logged = some p
      (n.mode ≠ .inhibited → s.releaseStart c = .error .mode) ∧
      (n.mode = .inhibited → (∀ p, ¬ here p) → s.releaseStart c = .error .noCrew) ∧
      ∀ p, n.mode = .inhibited → here p →
        (planOf g n.position n.load r.pulses = .notNeeded → s.releaseStart c = .error .notNeeded) ∧
        (∀ why, planOf g n.position n.load r.pulses = .crewOnly why → s.releaseStart c = .error why) ∧
        ∀ direction target d needed, planOf g n.position n.load r.pulses = .allowed direction target d needed →
          s.releaseStart c = .ok { sub := .awaitHold, panel := p, direction := direction, target := target, distance := d
                                   needed := needed, lastPress := (s.panel p).dyn.pressNumber, sequence := n.echo
                                   repeats := 0, settle := .stopped }

/-- R133: what a hold change from the release's own panel does in each sub-state, a press being fresh when the hold is active
with a press number other than the last recorded one; a change from another panel does nothing. R132: an end clears a pulse
not yet sent, discards the record and makes its notice, and a procedure that is RUNNING and waits for the release goes on from
its next step after DONE, from its branch after ABORTED. R134: a report aborts with CHAIN, then MODE; otherwise a stationary
and closed one sets the BRAKE_PULSE of the next sequence in AWAIT_CHAIN, and any other withdraws it in PULSE_PENDING. R135: a
settle report ends the release DONE in the target's door zone, OVERSHOOT in another's, BALANCED in the band, OVERSHOOT where
the target is not the next landing of its direction, TOO_FAR, TOO_MANY, or begins the next pulse's wait. The delivery of the
pulse counts it, starts the settle timer and makes RELEASE_PULSE. -/
def Obligations.HoldChangesActBySubState : Prop :=
  (∀ (s : State) (c : CaseNo) (p : PanelIdx) (q : Release) (was hold : Bool) (press : Nat),
    s.isOpen c = true → (s.caseAt c).release = some q →
    let a := s.caseAt c
    let fresh : Prop := hold = true ∧ press ≠ q.lastPress
    let released : Prop := was = true ∧ hold = false
    let repeated : State := s.setCase c { a with release := some { q with repeats := min 255 (q.repeats + 1) } }
    (p ≠ q.panel → holdChange s c p was hold press = s) ∧
    (p = q.panel → ¬ fresh → ¬ released → holdChange s c p was hold press = s) ∧
    (p = q.panel → q.sub = .awaitHold →
      (fresh → holdChange s c p was hold press =
        s.setCase c { a with release := some { q with lastPress := press, sub := .awaitChain } }) ∧
      (released → holdChange s c p was hold press = s)) ∧
    (p = q.panel → q.sub = .awaitChain →
      (fresh → holdChange s c p was hold press = repeated) ∧
      (released → holdChange s c p was hold press =
        s.setCase c { a with release := some { q with lastPress := press, sub := .awaitHold } })) ∧
    (p = q.panel → q.sub = .pulsePending →
      (fresh → holdChange s c p was hold press = repeated) ∧
      (released → ∀ m, a.pending = some ⟨m, .release⟩ → holdChange s c p was hold press =
        s.setCase c { a with pending := none, release := some { q with lastPress := press, sub := .awaitHold } })) ∧
    (p = q.panel → q.sub = .settling →
      (fresh → holdChange s c p was hold press = repeated) ∧
      (released → holdChange s c p was hold press = s))) ∧
  (∀ (s : State) (c : CaseNo) (q : Release) (e : ReleaseEnd), (s.caseAt c).release = some q → s.trunk.own.length < 32 →
    (s.caseAt c).owed = false →
    let p := (s.caseAt c).procedure
    let a := { s.caseAt c with
      release := none
      pending := match (s.caseAt c).pending with
        | some m => if q.sub = .pulsePending ∧ m.owner = .release then none else some m
        | none => none }
    let told := match e with
      | .done at' => (s.setCase c a).withNotice c a .releaseDone (.pulse a.pulses (some at'))
      | .aborted why => (s.setCase c a).withNotice c a .releaseAborted (.aborted why a.pulses)
    let goesTo : Job := match e with
      | .done _ => .go c 0 (p.step.val + 1) p.onCommon
      | .aborted _ => .go c 0 (s.stepOf p).target.val (s.stepOf p).common
    (p.status = .running → p.wait = .release → endRelease s c e =
      (told.setCase c { a with procedure := { p with wait := .none, timer := .stopped } }, [goesTo])) ∧
    (p.status ≠ .running ∨ p.wait ≠ .release → endRelease s c e = (told, []))) ∧
  (∀ (s : State) (c : CaseNo) (q : Release) (n : CarRecord) (moves : Bool), (s.caseAt c).release = some q →
    (s.lift (s.caseAt c).lift).dyn.lastReport = some n →
    let a := s.caseAt c
    let g := (s.lift a.lift).config
    let ends (e : ReleaseEnd) : Prop := releaseReport s c moves = endRelease s c e
    let nothing : Prop := releaseReport s c moves = (s, [])
    let still : Prop := n.brakeLifted = false ∧ moves = false
    (n.chainOpen = true → ends (.aborted .chain)) ∧
    (n.chainOpen = false → n.mode ≠ .inhibited → ends (.aborted .mode)) ∧
    (n.chainOpen = false → n.mode = .inhibited →
      (q.sub = .awaitHold → nothing) ∧
      (q.sub = .awaitChain → (¬ still → nothing) ∧ (still → releaseReport s c moves = (s.setCase c { a with
        pending := some ⟨.brakePulse ((q.sequence + 1) % 8) q.direction, .release⟩
        release := some { q with sub := .pulsePending } }, [.lineWork (lineOf a.lift)]))) ∧
      (q.sub = .pulsePending → (still → nothing) ∧ (¬ still → ∀ m, a.pending = some ⟨m, .release⟩ →
        releaseReport s c moves =
          (s.setCase c { a with pending := none, release := some { q with sub := .awaitChain } }, []))) ∧
      (q.sub = .settling → (¬ (n.echo = q.sequence ∧ still) → nothing) ∧
        (n.echo = q.sequence → still → g.landings.Pairwise (· < ·) → 0 < g.step →
          let near (h : Nat) : Prop := ((n.position : Int) - h).natAbs ≤ g.doorZone
          let atTarget : Prop := ∃ h, g.landings[q.target]? = some h ∧ near h
          let beyond (h : Nat) : Prop :=
            if q.direction = .down then h + g.doorZone < n.position else n.position + g.doorZone < h
          (atTarget → ends (.done n.position)) ∧
          (¬ atTarget → inDoorZone g.landings g.doorZone n.position = true → ends (.aborted .overshoot)) ∧
          (¬ atTarget → inDoorZone g.landings g.doorZone n.position = false →
            (((n.load : Int) - g.balance).natAbs < 5 → ends (.aborted .balanced)) ∧
            (5 ≤ ((n.load : Int) - g.balance).natAbs → ((∀ h ∈ g.landings, ¬ beyond h) → ends (.aborted .overshoot)) ∧
              ∀ t h, g.landings[t]? = some h → beyond h →
                (∀ x ∈ g.landings, beyond x → if q.direction = .down then x ≤ h else h ≤ x) →
                let d := ((h : Int) - n.position).natAbs
                (t ≠ q.target → ends (.aborted .overshoot)) ∧
                (t = q.target → g.reach < d → ends (.aborted .tooFar)) ∧
                ∀ m, t = q.target → d ≤ g.reach → d ≤ m * g.step → m * g.step < d + g.step →
                  (g.cap < a.pulses + m → ends (.aborted .tooMany)) ∧
                  (a.pulses + m ≤ g.cap → releaseReport s c moves = (s.setCase c { a with release := some { q with
                    settle := .stopped, distance := d, needed := m
                    lastPress := (s.panel q.panel).dyn.pressNumber, sub := .awaitHold } }, [])))))))) ∧
  ∀ (s : State) (c : CaseNo) (q : Release) (sequence : Nat), (s.caseAt c).release = some q → s.trunk.own.length < 32 →
    (s.caseAt c).owed = false →
    let a := { s.caseAt c with
      pulses := min 63 ((s.caseAt c).pulses + 1)
      release := some { q with
        sequence := sequence, settle := .running s.settings.settleLimit, sub := .settling } }
    (q.sub = .pulsePending → pulseDelivered s c sequence = (s.setCase c a).withNotice c a .releasePulse
      (.pulse a.pulses ((s.lift a.lift).dyn.lastReport.map CarRecord.position))) ∧
    (q.sub ≠ .pulsePending → pulseDelivered s c sequence = s)

/-- R112 to R114, R119, R123: an activation that has begun fewer than 16 steps begins the step it goes to: NOTE makes its
notice, BUMP improves the urgency, SETCOUNT sets the retry counter to 1 to 15, COUNT lowers it and skips at 0, GOTO takes the
branch, each going on at once. R116, R118: ANNOUNCE, INHIBIT and RESTORE set the pending command, wait for its delivery and
start the step timer where the limit is above 0; RESTORE takes its branch where the last report shows the car neither EMPTY
nor in a door zone. R120: WAIT goes on where its event has come, and waits otherwise. R122: TEST goes on, or skips, by its
condition and sense. R124: RELEASE waits for the release that begins, or takes its branch after RELEASE_ABORTED. R125: END
hands over, or finishes and clears; R75: a clearing closes a case that is WAITING or OFFERED CLEARED_UNATTENDED, and makes one
that is ASSIGNED or ON_SITE CLEARED. A step beyond the page, a code that names no action and an argument the action does not
accept hand the procedure over with BAD_STEP; a seventeenth step with LOOP. -/
def Obligations.StepsThatCompleteAtOnceGoOn : Prop :=
  (∀ (s : State) (c : CaseNo) (begun : Nat) (at' : Fin 16) (common : Bool), s.isOpen c = true →
    (s.caseAt c).procedure.status = .running → s.trunk.own.length < 32 → (s.caseAt c).owed = false →
    let p := { (s.caseAt c).procedure with step := at', onCommon := common }
    let u := s.setCase c { s.caseAt c with procedure := p }
    let x := s.stepOf p
    let handed (t : State) (why : HandoverReason) : State :=
      let a := t.caseAt c
      let a1 := { a with
        procedure := { a.procedure with status := .handedOver, wait := .none, timer := .stopped }
        pending := if a.procedure.wait = .delivery then
            (match a.pending with
              | some m => if m.owner = .procedure then none else some m
              | none => none)
          else a.pending }
      (t.setCase c a1).withNotice c a1 .handover (.handover why)
    let lift := s.lift (s.caseAt c).lift
    let report := lift.dyn.lastReport
    let timer : Timer := if x.limit = 0 then .stopped else .running x.limit
    let bad : Prop := goTo s c begun at'.val common = (handed u .badStep, [])
    let goesOn (n : Nat) : Prop := goTo s c begun at'.val common = (u, [.go c (begun + 1) (at'.val + n) common])
    let branches (t : State) : Prop := goTo s c begun at'.val common = (t, [.go c (begun + 1) x.target.val x.common])
    let sets (cmd : CarCommand) : Prop := goTo s c begun at'.val common = (u.setCase c { u.caseAt c with
      pending := some ⟨cmd, .procedure⟩, procedure := { p with wait := .delivery, timer := timer } },
      [.lineWork (lineOf (s.caseAt c).lift)])
    (begun < 16 →
      (x.action = 4 → goTo s c begun at'.val common =
        (u.withNotice c (u.caseAt c) .note (.code x.argument), [.go c (begun + 1) (at'.val + 1) common])) ∧
      (x.action = 5 → goTo s c begun at'.val common =
        (u.setCase c { u.caseAt c with urgency := (s.caseAt c).urgency - 1 }, [.go c (begun + 1) (at'.val + 1) common])) ∧
      (x.action = 8 → goTo s c begun at'.val common =
        (u.setCase c { u.caseAt c with procedure := { p with retry := max 1 (min 15 x.argument) } },
          [.go c (begun + 1) (at'.val + 1) common])) ∧
      (x.action = 9 → goTo s c begun at'.val common =
        (u.setCase c { u.caseAt c with procedure := { p with retry := p.retry - 1 } },
          [.go c (begun + 1) (if p.retry ≤ 1 then at'.val + 2 else at'.val + 1) common])) ∧
      (x.action = 10 → goTo s c begun at'.val common = (u, [.go c (begun + 1) x.target.val x.common])) ∧
      (x.action = 0 ∨ 12 < x.action → bad) ∧
      (x.action = 1 → (x.argument ≤ 15 → sets (.announce x.argument)) ∧ (15 < x.argument → bad)) ∧
      (x.action = 2 → sets .inhibit) ∧
      (x.action = 3 → ((∃ n, report = some n ∧ (n.occupancy = .empty ∨ n.inZone = true)) → sets .restore) ∧
        ((∀ n, report = some n → n.occupancy ≠ .empty ∧ n.inZone = false) → branches u)) ∧
      (x.action = 6 → (x.argument = 0 ∨ 6 < x.argument → bad) ∧ ∀ e : NamedEvent, 0 < x.argument →
        [NamedEvent.voiceContact, .crewArrived, .carMoved, .doorsOpen, .inZone, .evacuated][x.argument - 1]? = some e →
        let come : Prop := (s.caseAt c).seen.has e = true ∨ (e = .inZone ∧ lift.dyn.state = .parked) ∨
          (e = .doorsOpen ∧ ∃ n, report = some n ∧ n.doors = .opened) ∨
          (e = .evacuated ∧ ∃ n, report = some n ∧ n.occupancy = .empty ∧ n.doors = .opened ∧ n.inZone = true)
        (come → goesOn 1) ∧ (¬ come → goTo s c begun at'.val common =
          (u.setCase c { u.caseAt c with procedure := { p with wait := .event e, timer := timer } }, []))) ∧
      (x.action = 7 →
        ((∀ sense cond, 1 ≤ sense → sense ≤ 2 → 1 ≤ cond → cond ≤ 5 → x.argument ≠ 16 * sense + cond) → bad) ∧
        ∀ cond, 1 ≤ cond → cond ≤ 5 →
          let holds : Prop := (cond = 1 ∧ ∃ n, report = some n ∧ n.occupancy = .occupied) ∨
            (cond = 2 ∧ lift.dyn.state = .parked) ∨
            (cond = 3 ∧ ∃ n direction target d needed, report = some n ∧
              planOf lift.config n.position n.load (s.caseAt c).pulses = .allowed direction target d needed) ∨
            (cond = 4 ∧ (s.caseAt c).dispatch = .onSite) ∨
            (cond = 5 ∧ ∃ n, report = some n ∧ n.mode = .inhibited)
          (x.argument = 16 + cond → (holds → goesOn 1) ∧ (¬ holds → goesOn 2)) ∧
          (x.argument = 32 + cond → (holds → goesOn 2) ∧ (¬ holds → goesOn 1))) ∧
      (x.action = 11 → (∀ q, s.releaseStart c = .ok q → goTo s c begun at'.val common = (u.setCase c { u.caseAt c with
          release := some q, procedure := { p with wait := .release, timer := timer } }, [])) ∧
        ∀ why, s.releaseStart c = .error why →
          branches (u.withNotice c (u.caseAt c) .releaseAborted (.aborted why (s.caseAt c).pulses))) ∧
      (x.action = 12 → (x.argument = 2 → goTo s c begun at'.val common = (handed u .ended, [])) ∧
        (x.argument = 1 → goTo s c begun at'.val common =
          (u.setCase c { u.caseAt c with procedure := { p with status := .finished } }, [.clearing c])) ∧
        (x.argument ≠ 1 → x.argument ≠ 2 → bad))) ∧
    (16 ≤ begun → goTo s c begun at'.val common = (handed u .loop, [])) ∧
    ∀ n, 16 ≤ n → goTo s c begun n common = (handed s .badStep, [])) ∧
  ∀ (s : State) (c : CaseNo) (source : ClearedSource), s.trunk.own.length < 32 → (s.caseAt c).owed = false →
    let a := { s.caseAt c with
      dispatch := .cleared, escalation := .stopped
      window := { (s.caseAt c).window with minTimer := .stopped, maxTimer := .stopped } }
    ((s.caseAt c).dispatch = .waiting ∨ (s.caseAt c).dispatch = .offered →
      clearCase s c source = (s, [.close c .clearedUnattended])) ∧
    ((s.caseAt c).dispatch = .assigned ∨ (s.caseAt c).dispatch = .onSite →
      clearCase s c source = ((s.setCase c a).withNotice c a .cleared (.source source), [])) ∧
    ((s.caseAt c).dispatch = .cleared → clearCase s c source = (s, []))

/-- R15, R16, R17: the command of a START: the pending command of an open case of the line whose car is polled, the best
urgency and then the lower record first; where there is none, the panel answer pending longest (modulo 2³², log 16) among
those of polled panels, the lower slot of equals; where there is none, the first routine command whose target is polled, those before
it being discarded. An answer or a routine command that is sent leaves its place; a case's command does so at the START itself
(stated, with what its owner does, in TimersAndWakesBeginOneCycle). R37: the answer of an unpolled panel is discarded, whatever the
START carries (DEDUCED, log 35); the other answers of polled panels stay. -/
def Obligations.StartsCarryTheFirstCandidate : Prop :=
  ∀ (s : State) (l : LineId) (slots : List Slot),
    let x := s.select l slots
    let waits (c : CaseNo) : Prop := s.isOpen c = true ∧ lineOf (s.caseAt c).lift = l ∧ (s.caseAt c).pending ≠ none ∧
      carSlot (carSlotOf (s.caseAt c).lift) ∈ slots
    let age (k : Fin 4) : Nat := match (s.line l).answers[k.val] with
      | some a => (s.time.stamp - a.stamp).toNat
      | none => 0
    let answers (k : Fin 4) : Prop := (s.line l).answers[k.val] ≠ none ∧ panelSlot k ∈ slots
    (∀ c, waits c → (∀ e, waits e → (s.caseAt c).urgency < (s.caseAt e).urgency ∨
        ((s.caseAt c).urgency = (s.caseAt e).urgency ∧ c ≤ e)) →
      ∃ m, (s.caseAt c).pending = some m ∧ x.delivered = some (c, m) ∧
        x.command = some (.toCar (carSlotOf (s.caseAt c).lift) m.command) ∧
        (∀ k, answers k → x.answers[k.val] = (s.line l).answers[k.val]) ∧ x.routine = (s.line l).routine) ∧
    (∀ k : Fin 4, panelSlot k ∉ slots → x.answers[k.val] = none) ∧
    ((∀ c, ¬ waits c) → x.delivered = none ∧
      (∀ k : Fin 4, answers k → (∀ j, answers j → age j < age k ∨ (age j = age k ∧ k ≤ j)) →
        (∃ a, (s.line l).answers[k.val] = some a ∧ x.command = some (.toPanel k a)) ∧
        x.answers[k.val] = none ∧ (∀ j, answers j → j ≠ k → x.answers[j.val] = (s.line l).answers[j.val]) ∧
        x.routine = (s.line l).routine) ∧
      ((∀ k, ¬ answers k) → (∀ k : Fin 4, x.answers[k.val] = none) ∧
        (∀ before e rest, (s.line l).routine = before ++ e :: rest → (∀ b ∈ before, carSlot b.slot ∉ slots) →
          carSlot e.slot ∈ slots → x.command = some (.toCar e.slot e.command) ∧ x.routine = rest) ∧
        ((∀ e ∈ (s.line l).routine, carSlot e.slot ∉ slots) → x.command = none ∧ x.routine = [])))

/-- R11: at a STOP the next mode is CONTINUOUS exactly where the line's default mode is, or a case is open on a lift of the
line, or a lift of the line is in OFFLINE, UNSEEN, HALTED, STALLED or SILENT, or the routine queue is not empty, or a panel
answer is pending; the line then waits for the interval, and otherwise stands in QUIET_IDLE; where the timer it would wait for
no longer runs, the next START follows at once. -/
def Obligations.StopsChooseTheNextMode : Prop :=
  ∀ (s : State) (l : LineId),
    let t := (stopLine s l).1
    let stays : Prop := (s.lineSettings l).defaultMode = .continuous ∨
      (∃ c, s.isOpen c = true ∧ lineOf (s.caseAt c).lift = l) ∨
      (∃ k, (s.lift (liftAt l k)).dyn.state ∈ [LiftState.offline, .unseen, .halted, .stalled, .silent]) ∨
      (s.line l).routine ≠ [] ∨ ∃ k : Fin 4, (s.line l).answers[k.val] ≠ none
    t = s.setLine l (t.line l) ∧
    (stays → t.line l = { s.line l with
        state := .waitInterval, mode := .continuous, currentSlot := none, collided := false
        lastStop := some .continuous } ∧
      (stopLine s l).2 = if (s.line l).intervalTimer.isRunning then [] else [.start l none]) ∧
    (¬ stays → t.line l = { s.line l with
        state := .quietIdle, mode := .quiet, currentSlot := none, collided := false, lastStop := some .quiet } ∧
      (stopLine s l).2 = if (s.line l).ceilingTimer.isRunning then [] else [.start l none])

/-- R172, R147: bytes followed by their check leave the register 0; the line check and the trunk check of the same bytes
differ, and so do the checks of bytes that differ in one place alone; and a frame of the gateway's own with a body of at most
250 bytes is read back as it was made. -/
def Obligations.ChecksTellFramesApart : Prop :=
  (∀ (init : BitVec 16) (bytes : List Byte), crc init (bytes ++ checkBytes (crc init bytes)) = 0#16) ∧
  (∀ bytes : List Byte, lineCrc bytes ≠ trunkCrc bytes) ∧
  (∀ (init : BitVec 16) (before after : List Byte) (a b : Byte), a ≠ b →
    crc init (before ++ a :: after) ≠ crc init (before ++ b :: after)) ∧
  ∀ f : OwnFrame, f.body.bytes.length ≤ 250 →
    readTrunk f.bytes = some ⟨f.destination, f.source, f.body.kind, f.tag, f.body.bytes⟩
end

