-- ==== Sys2Proof/Laws/State.lean ====
section
/-! SUPPORT. What each update of one record leaves of every field of the state, and what reading a record after a write
gives. -/

namespace Sys2Proof.Machine

variable (s : State)

/-! ### Tables built from a function -/

@[simp] theorem getElem_tab {n : Nat} {α : Type} (f : Fin n → α) (i : Nat) (h : i < n) :
    (tab f)[i] = f ⟨i, h⟩ := by
  simp [tab]

/-! ### Fields left alone by an update -/

section

variable (l : LineId) (r : Line)

@[simp] theorem State.setLine_straps : (s.setLine l r).straps = s.straps := rfl
@[simp] theorem State.setLine_lamp : (s.setLine l r).lamp = s.lamp := rfl
@[simp] theorem State.setLine_time : (s.setLine l r).time = s.time := rfl
@[simp] theorem State.setLine_settings : (s.setLine l r).settings = s.settings := rfl
@[simp] theorem State.setLine_lifts : (s.setLine l r).lifts = s.lifts := rfl
@[simp] theorem State.setLine_panels : (s.setLine l r).panels = s.panels := rfl
@[simp] theorem State.setLine_cases : (s.setLine l r).cases = s.cases := rfl
@[simp] theorem State.setLine_classes : (s.setLine l r).classes = s.classes := rfl
@[simp] theorem State.setLine_serial : (s.setLine l r).serial = s.serial := rfl
@[simp] theorem State.setLine_crews : (s.setLine l r).crews = s.crews := rfl
@[simp] theorem State.setLine_travel : (s.setLine l r).travel = s.travel := rfl
@[simp] theorem State.setLine_rotation : (s.setLine l r).rotation = s.rotation := rfl
@[simp] theorem State.setLine_store : (s.setLine l r).store = s.store := rfl
@[simp] theorem State.setLine_trunk : (s.setLine l r).trunk = s.trunk := rfl
@[simp] theorem State.setLine_freeDraws : (s.setLine l r).freeDraws = s.freeDraws := rfl
@[simp] theorem State.setLine_pending : (s.setLine l r).pending = s.pending := rfl
@[simp] theorem State.setLine_lift (x : LiftIdx) : (s.setLine l r).lift x = s.lift x := rfl
@[simp] theorem State.setLine_panel (x : PanelIdx) : (s.setLine l r).panel x = s.panel x := rfl
@[simp] theorem State.setLine_caseAt (x : CaseNo) : (s.setLine l r).caseAt x = s.caseAt x := rfl
@[simp] theorem State.setLine_crew (x : CrewNo) : (s.setLine l r).crew x = s.crew x := rfl
end

section

variable (i : LiftIdx) (r : Lift)

@[simp] theorem State.setLift_straps : (s.setLift i r).straps = s.straps := rfl
@[simp] theorem State.setLift_lamp : (s.setLift i r).lamp = s.lamp := rfl
@[simp] theorem State.setLift_time : (s.setLift i r).time = s.time := rfl
@[simp] theorem State.setLift_settings : (s.setLift i r).settings = s.settings := rfl
@[simp] theorem State.setLift_lines : (s.setLift i r).lines = s.lines := rfl
@[simp] theorem State.setLift_panels : (s.setLift i r).panels = s.panels := rfl
@[simp] theorem State.setLift_cases : (s.setLift i r).cases = s.cases := rfl
@[simp] theorem State.setLift_classes : (s.setLift i r).classes = s.classes := rfl
@[simp] theorem State.setLift_serial : (s.setLift i r).serial = s.serial := rfl
@[simp] theorem State.setLift_crews : (s.setLift i r).crews = s.crews := rfl
@[simp] theorem State.setLift_travel : (s.setLift i r).travel = s.travel := rfl
@[simp] theorem State.setLift_rotation : (s.setLift i r).rotation = s.rotation := rfl
@[simp] theorem State.setLift_store : (s.setLift i r).store = s.store := rfl
@[simp] theorem State.setLift_trunk : (s.setLift i r).trunk = s.trunk := rfl
@[simp] theorem State.setLift_freeDraws : (s.setLift i r).freeDraws = s.freeDraws := rfl
@[simp] theorem State.setLift_pending : (s.setLift i r).pending = s.pending := rfl
@[simp] theorem State.setLift_line (x : LineId) : (s.setLift i r).line x = s.line x := rfl
@[simp] theorem State.setLift_panel (x : PanelIdx) : (s.setLift i r).panel x = s.panel x := rfl
@[simp] theorem State.setLift_caseAt (x : CaseNo) : (s.setLift i r).caseAt x = s.caseAt x := rfl
@[simp] theorem State.setLift_crew (x : CrewNo) : (s.setLift i r).crew x = s.crew x := rfl
end

section

variable (p : PanelIdx) (r : Panel)

@[simp] theorem State.setPanel_straps : (s.setPanel p r).straps = s.straps := rfl
@[simp] theorem State.setPanel_lamp : (s.setPanel p r).lamp = s.lamp := rfl
@[simp] theorem State.setPanel_time : (s.setPanel p r).time = s.time := rfl
@[simp] theorem State.setPanel_settings : (s.setPanel p r).settings = s.settings := rfl
@[simp] theorem State.setPanel_lines : (s.setPanel p r).lines = s.lines := rfl
@[simp] theorem State.setPanel_lifts : (s.setPanel p r).lifts = s.lifts := rfl
@[simp] theorem State.setPanel_cases : (s.setPanel p r).cases = s.cases := rfl
@[simp] theorem State.setPanel_classes : (s.setPanel p r).classes = s.classes := rfl
@[simp] theorem State.setPanel_serial : (s.setPanel p r).serial = s.serial := rfl
@[simp] theorem State.setPanel_crews : (s.setPanel p r).crews = s.crews := rfl
@[simp] theorem State.setPanel_travel : (s.setPanel p r).travel = s.travel := rfl
@[simp] theorem State.setPanel_rotation : (s.setPanel p r).rotation = s.rotation := rfl
@[simp] theorem State.setPanel_store : (s.setPanel p r).store = s.store := rfl
@[simp] theorem State.setPanel_trunk : (s.setPanel p r).trunk = s.trunk := rfl
@[simp] theorem State.setPanel_freeDraws : (s.setPanel p r).freeDraws = s.freeDraws := rfl
@[simp] theorem State.setPanel_pending : (s.setPanel p r).pending = s.pending := rfl
@[simp] theorem State.setPanel_line (x : LineId) : (s.setPanel p r).line x = s.line x := rfl
@[simp] theorem State.setPanel_lift (x : LiftIdx) : (s.setPanel p r).lift x = s.lift x := rfl
@[simp] theorem State.setPanel_caseAt (x : CaseNo) : (s.setPanel p r).caseAt x = s.caseAt x := rfl
@[simp] theorem State.setPanel_crew (x : CrewNo) : (s.setPanel p r).crew x = s.crew x := rfl
end

section

variable (c : CaseNo) (r : Case)

@[simp] theorem State.setCase_straps : (s.setCase c r).straps = s.straps := rfl
@[simp] theorem State.setCase_lamp : (s.setCase c r).lamp = s.lamp := rfl
@[simp] theorem State.setCase_time : (s.setCase c r).time = s.time := rfl
@[simp] theorem State.setCase_settings : (s.setCase c r).settings = s.settings := rfl
@[simp] theorem State.setCase_lines : (s.setCase c r).lines = s.lines := rfl
@[simp] theorem State.setCase_lifts : (s.setCase c r).lifts = s.lifts := rfl
@[simp] theorem State.setCase_panels : (s.setCase c r).panels = s.panels := rfl
@[simp] theorem State.setCase_classes : (s.setCase c r).classes = s.classes := rfl
@[simp] theorem State.setCase_serial : (s.setCase c r).serial = s.serial := rfl
@[simp] theorem State.setCase_crews : (s.setCase c r).crews = s.crews := rfl
@[simp] theorem State.setCase_travel : (s.setCase c r).travel = s.travel := rfl
@[simp] theorem State.setCase_rotation : (s.setCase c r).rotation = s.rotation := rfl
@[simp] theorem State.setCase_store : (s.setCase c r).store = s.store := rfl
@[simp] theorem State.setCase_trunk : (s.setCase c r).trunk = s.trunk := rfl
@[simp] theorem State.setCase_freeDraws : (s.setCase c r).freeDraws = s.freeDraws := rfl
@[simp] theorem State.setCase_pending : (s.setCase c r).pending = s.pending := rfl
@[simp] theorem State.setCase_line (x : LineId) : (s.setCase c r).line x = s.line x := rfl
@[simp] theorem State.setCase_lift (x : LiftIdx) : (s.setCase c r).lift x = s.lift x := rfl
@[simp] theorem State.setCase_panel (x : PanelIdx) : (s.setCase c r).panel x = s.panel x := rfl
@[simp] theorem State.setCase_crew (x : CrewNo) : (s.setCase c r).crew x = s.crew x := rfl
end

section

variable (k : CrewNo) (r : Crew)

@[simp] theorem State.setCrew_straps : (s.setCrew k r).straps = s.straps := rfl
@[simp] theorem State.setCrew_lamp : (s.setCrew k r).lamp = s.lamp := rfl
@[simp] theorem State.setCrew_time : (s.setCrew k r).time = s.time := rfl
@[simp] theorem State.setCrew_settings : (s.setCrew k r).settings = s.settings := rfl
@[simp] theorem State.setCrew_lines : (s.setCrew k r).lines = s.lines := rfl
@[simp] theorem State.setCrew_lifts : (s.setCrew k r).lifts = s.lifts := rfl
@[simp] theorem State.setCrew_panels : (s.setCrew k r).panels = s.panels := rfl
@[simp] theorem State.setCrew_cases : (s.setCrew k r).cases = s.cases := rfl
@[simp] theorem State.setCrew_classes : (s.setCrew k r).classes = s.classes := rfl
@[simp] theorem State.setCrew_serial : (s.setCrew k r).serial = s.serial := rfl
@[simp] theorem State.setCrew_travel : (s.setCrew k r).travel = s.travel := rfl
@[simp] theorem State.setCrew_rotation : (s.setCrew k r).rotation = s.rotation := rfl
@[simp] theorem State.setCrew_store : (s.setCrew k r).store = s.store := rfl
@[simp] theorem State.setCrew_trunk : (s.setCrew k r).trunk = s.trunk := rfl
@[simp] theorem State.setCrew_freeDraws : (s.setCrew k r).freeDraws = s.freeDraws := rfl
@[simp] theorem State.setCrew_pending : (s.setCrew k r).pending = s.pending := rfl
@[simp] theorem State.setCrew_line (x : LineId) : (s.setCrew k r).line x = s.line x := rfl
@[simp] theorem State.setCrew_lift (x : LiftIdx) : (s.setCrew k r).lift x = s.lift x := rfl
@[simp] theorem State.setCrew_panel (x : PanelIdx) : (s.setCrew k r).panel x = s.panel x := rfl
@[simp] theorem State.setCrew_caseAt (x : CaseNo) : (s.setCrew k r).caseAt x = s.caseAt x := rfl
end

section

variable (i : LiftIdx) (d : LiftDynamic)

@[simp] theorem State.setDyn_straps : (s.setDyn i d).straps = s.straps := rfl
@[simp] theorem State.setDyn_lamp : (s.setDyn i d).lamp = s.lamp := rfl
@[simp] theorem State.setDyn_time : (s.setDyn i d).time = s.time := rfl
@[simp] theorem State.setDyn_settings : (s.setDyn i d).settings = s.settings := rfl
@[simp] theorem State.setDyn_lines : (s.setDyn i d).lines = s.lines := rfl
@[simp] theorem State.setDyn_panels : (s.setDyn i d).panels = s.panels := rfl
@[simp] theorem State.setDyn_cases : (s.setDyn i d).cases = s.cases := rfl
@[simp] theorem State.setDyn_classes : (s.setDyn i d).classes = s.classes := rfl
@[simp] theorem State.setDyn_serial : (s.setDyn i d).serial = s.serial := rfl
@[simp] theorem State.setDyn_crews : (s.setDyn i d).crews = s.crews := rfl
@[simp] theorem State.setDyn_travel : (s.setDyn i d).travel = s.travel := rfl
@[simp] theorem State.setDyn_rotation : (s.setDyn i d).rotation = s.rotation := rfl
@[simp] theorem State.setDyn_store : (s.setDyn i d).store = s.store := rfl
@[simp] theorem State.setDyn_trunk : (s.setDyn i d).trunk = s.trunk := rfl
@[simp] theorem State.setDyn_freeDraws : (s.setDyn i d).freeDraws = s.freeDraws := rfl
@[simp] theorem State.setDyn_pending : (s.setDyn i d).pending = s.pending := rfl
@[simp] theorem State.setDyn_line (x : LineId) : (s.setDyn i d).line x = s.line x := rfl
@[simp] theorem State.setDyn_panel (x : PanelIdx) : (s.setDyn i d).panel x = s.panel x := rfl
@[simp] theorem State.setDyn_caseAt (x : CaseNo) : (s.setDyn i d).caseAt x = s.caseAt x := rfl
@[simp] theorem State.setDyn_crew (x : CrewNo) : (s.setDyn i d).crew x = s.crew x := rfl
end

section

variable (p : PanelIdx) (d : PanelDynamic)

@[simp] theorem State.setPanelDyn_straps : (s.setPanelDyn p d).straps = s.straps := rfl
@[simp] theorem State.setPanelDyn_lamp : (s.setPanelDyn p d).lamp = s.lamp := rfl
@[simp] theorem State.setPanelDyn_time : (s.setPanelDyn p d).time = s.time := rfl
@[simp] theorem State.setPanelDyn_settings : (s.setPanelDyn p d).settings = s.settings := rfl
@[simp] theorem State.setPanelDyn_lines : (s.setPanelDyn p d).lines = s.lines := rfl
@[simp] theorem State.setPanelDyn_lifts : (s.setPanelDyn p d).lifts = s.lifts := rfl
@[simp] theorem State.setPanelDyn_cases : (s.setPanelDyn p d).cases = s.cases := rfl
@[simp] theorem State.setPanelDyn_classes : (s.setPanelDyn p d).classes = s.classes := rfl
@[simp] theorem State.setPanelDyn_serial : (s.setPanelDyn p d).serial = s.serial := rfl
@[simp] theorem State.setPanelDyn_crews : (s.setPanelDyn p d).crews = s.crews := rfl
@[simp] theorem State.setPanelDyn_travel : (s.setPanelDyn p d).travel = s.travel := rfl
@[simp] theorem State.setPanelDyn_rotation : (s.setPanelDyn p d).rotation = s.rotation := rfl
@[simp] theorem State.setPanelDyn_store : (s.setPanelDyn p d).store = s.store := rfl
@[simp] theorem State.setPanelDyn_trunk : (s.setPanelDyn p d).trunk = s.trunk := rfl
@[simp] theorem State.setPanelDyn_freeDraws : (s.setPanelDyn p d).freeDraws = s.freeDraws := rfl
@[simp] theorem State.setPanelDyn_pending : (s.setPanelDyn p d).pending = s.pending := rfl
@[simp] theorem State.setPanelDyn_line (x : LineId) : (s.setPanelDyn p d).line x = s.line x := rfl
@[simp] theorem State.setPanelDyn_lift (x : LiftIdx) : (s.setPanelDyn p d).lift x = s.lift x := rfl
@[simp] theorem State.setPanelDyn_caseAt (x : CaseNo) : (s.setPanelDyn p d).caseAt x = s.caseAt x := rfl
@[simp] theorem State.setPanelDyn_crew (x : CrewNo) : (s.setPanelDyn p d).crew x = s.crew x := rfl
end

section

variable (k : CrewNo) (d : CrewDynamic)

@[simp] theorem State.setCrewDyn_straps : (s.setCrewDyn k d).straps = s.straps := rfl
@[simp] theorem State.setCrewDyn_lamp : (s.setCrewDyn k d).lamp = s.lamp := rfl
@[simp] theorem State.setCrewDyn_time : (s.setCrewDyn k d).time = s.time := rfl
@[simp] theorem State.setCrewDyn_settings : (s.setCrewDyn k d).settings = s.settings := rfl
@[simp] theorem State.setCrewDyn_lines : (s.setCrewDyn k d).lines = s.lines := rfl
@[simp] theorem State.setCrewDyn_lifts : (s.setCrewDyn k d).lifts = s.lifts := rfl
@[simp] theorem State.setCrewDyn_panels : (s.setCrewDyn k d).panels = s.panels := rfl
@[simp] theorem State.setCrewDyn_cases : (s.setCrewDyn k d).cases = s.cases := rfl
@[simp] theorem State.setCrewDyn_classes : (s.setCrewDyn k d).classes = s.classes := rfl
@[simp] theorem State.setCrewDyn_serial : (s.setCrewDyn k d).serial = s.serial := rfl
@[simp] theorem State.setCrewDyn_travel : (s.setCrewDyn k d).travel = s.travel := rfl
@[simp] theorem State.setCrewDyn_rotation : (s.setCrewDyn k d).rotation = s.rotation := rfl
@[simp] theorem State.setCrewDyn_store : (s.setCrewDyn k d).store = s.store := rfl
@[simp] theorem State.setCrewDyn_trunk : (s.setCrewDyn k d).trunk = s.trunk := rfl
@[simp] theorem State.setCrewDyn_freeDraws : (s.setCrewDyn k d).freeDraws = s.freeDraws := rfl
@[simp] theorem State.setCrewDyn_pending : (s.setCrewDyn k d).pending = s.pending := rfl
@[simp] theorem State.setCrewDyn_line (x : LineId) : (s.setCrewDyn k d).line x = s.line x := rfl
@[simp] theorem State.setCrewDyn_lift (x : LiftIdx) : (s.setCrewDyn k d).lift x = s.lift x := rfl
@[simp] theorem State.setCrewDyn_panel (x : PanelIdx) : (s.setCrewDyn k d).panel x = s.panel x := rfl
@[simp] theorem State.setCrewDyn_caseAt (x : CaseNo) : (s.setCrewDyn k d).caseAt x = s.caseAt x := rfl
end

section

variable (c : CaseNo) (p : Procedure)

@[simp] theorem State.setProcedure_straps : (s.setProcedure c p).straps = s.straps := rfl
@[simp] theorem State.setProcedure_lamp : (s.setProcedure c p).lamp = s.lamp := rfl
@[simp] theorem State.setProcedure_time : (s.setProcedure c p).time = s.time := rfl
@[simp] theorem State.setProcedure_settings : (s.setProcedure c p).settings = s.settings := rfl
@[simp] theorem State.setProcedure_lines : (s.setProcedure c p).lines = s.lines := rfl
@[simp] theorem State.setProcedure_lifts : (s.setProcedure c p).lifts = s.lifts := rfl
@[simp] theorem State.setProcedure_panels : (s.setProcedure c p).panels = s.panels := rfl
@[simp] theorem State.setProcedure_classes : (s.setProcedure c p).classes = s.classes := rfl
@[simp] theorem State.setProcedure_serial : (s.setProcedure c p).serial = s.serial := rfl
@[simp] theorem State.setProcedure_crews : (s.setProcedure c p).crews = s.crews := rfl
@[simp] theorem State.setProcedure_travel : (s.setProcedure c p).travel = s.travel := rfl
@[simp] theorem State.setProcedure_rotation : (s.setProcedure c p).rotation = s.rotation := rfl
@[simp] theorem State.setProcedure_store : (s.setProcedure c p).store = s.store := rfl
@[simp] theorem State.setProcedure_trunk : (s.setProcedure c p).trunk = s.trunk := rfl
@[simp] theorem State.setProcedure_freeDraws : (s.setProcedure c p).freeDraws = s.freeDraws := rfl
@[simp] theorem State.setProcedure_pending : (s.setProcedure c p).pending = s.pending := rfl
@[simp] theorem State.setProcedure_line (x : LineId) : (s.setProcedure c p).line x = s.line x := rfl
@[simp] theorem State.setProcedure_lift (x : LiftIdx) : (s.setProcedure c p).lift x = s.lift x := rfl
@[simp] theorem State.setProcedure_panel (x : PanelIdx) : (s.setProcedure c p).panel x = s.panel x := rfl
@[simp] theorem State.setProcedure_crew (x : CrewNo) : (s.setProcedure c p).crew x = s.crew x := rfl
end

section

variable (c : CaseNo) (q : Release)

@[simp] theorem State.setRelease_straps : (s.setRelease c q).straps = s.straps := rfl
@[simp] theorem State.setRelease_lamp : (s.setRelease c q).lamp = s.lamp := rfl
@[simp] theorem State.setRelease_time : (s.setRelease c q).time = s.time := rfl
@[simp] theorem State.setRelease_settings : (s.setRelease c q).settings = s.settings := rfl
@[simp] theorem State.setRelease_lines : (s.setRelease c q).lines = s.lines := rfl
@[simp] theorem State.setRelease_lifts : (s.setRelease c q).lifts = s.lifts := rfl
@[simp] theorem State.setRelease_panels : (s.setRelease c q).panels = s.panels := rfl
@[simp] theorem State.setRelease_classes : (s.setRelease c q).classes = s.classes := rfl
@[simp] theorem State.setRelease_serial : (s.setRelease c q).serial = s.serial := rfl
@[simp] theorem State.setRelease_crews : (s.setRelease c q).crews = s.crews := rfl
@[simp] theorem State.setRelease_travel : (s.setRelease c q).travel = s.travel := rfl
@[simp] theorem State.setRelease_rotation : (s.setRelease c q).rotation = s.rotation := rfl
@[simp] theorem State.setRelease_store : (s.setRelease c q).store = s.store := rfl
@[simp] theorem State.setRelease_trunk : (s.setRelease c q).trunk = s.trunk := rfl
@[simp] theorem State.setRelease_freeDraws : (s.setRelease c q).freeDraws = s.freeDraws := rfl
@[simp] theorem State.setRelease_pending : (s.setRelease c q).pending = s.pending := rfl
@[simp] theorem State.setRelease_line (x : LineId) : (s.setRelease c q).line x = s.line x := rfl
@[simp] theorem State.setRelease_lift (x : LiftIdx) : (s.setRelease c q).lift x = s.lift x := rfl
@[simp] theorem State.setRelease_panel (x : PanelIdx) : (s.setRelease c q).panel x = s.panel x := rfl
@[simp] theorem State.setRelease_crew (x : CrewNo) : (s.setRelease c q).crew x = s.crew x := rfl
end

section

@[simp] theorem State.bumpSequence_straps : (s.bumpSequence).straps = s.straps := rfl
@[simp] theorem State.bumpSequence_lamp : (s.bumpSequence).lamp = s.lamp := rfl
@[simp] theorem State.bumpSequence_time : (s.bumpSequence).time = s.time := rfl
@[simp] theorem State.bumpSequence_settings : (s.bumpSequence).settings = s.settings := rfl
@[simp] theorem State.bumpSequence_lines : (s.bumpSequence).lines = s.lines := rfl
@[simp] theorem State.bumpSequence_lifts : (s.bumpSequence).lifts = s.lifts := rfl
@[simp] theorem State.bumpSequence_panels : (s.bumpSequence).panels = s.panels := rfl
@[simp] theorem State.bumpSequence_cases : (s.bumpSequence).cases = s.cases := rfl
@[simp] theorem State.bumpSequence_classes : (s.bumpSequence).classes = s.classes := rfl
@[simp] theorem State.bumpSequence_serial : (s.bumpSequence).serial = s.serial := rfl
@[simp] theorem State.bumpSequence_crews : (s.bumpSequence).crews = s.crews := rfl
@[simp] theorem State.bumpSequence_travel : (s.bumpSequence).travel = s.travel := rfl
@[simp] theorem State.bumpSequence_rotation : (s.bumpSequence).rotation = s.rotation := rfl
@[simp] theorem State.bumpSequence_store : (s.bumpSequence).store = s.store := rfl
@[simp] theorem State.bumpSequence_freeDraws : (s.bumpSequence).freeDraws = s.freeDraws := rfl
@[simp] theorem State.bumpSequence_pending : (s.bumpSequence).pending = s.pending := rfl
@[simp] theorem State.bumpSequence_line (x : LineId) : (s.bumpSequence).line x = s.line x := rfl
@[simp] theorem State.bumpSequence_lift (x : LiftIdx) : (s.bumpSequence).lift x = s.lift x := rfl
@[simp] theorem State.bumpSequence_panel (x : PanelIdx) : (s.bumpSequence).panel x = s.panel x := rfl
@[simp] theorem State.bumpSequence_caseAt (x : CaseNo) : (s.bumpSequence).caseAt x = s.caseAt x := rfl
@[simp] theorem State.bumpSequence_crew (x : CrewNo) : (s.bumpSequence).crew x = s.crew x := rfl
end

/-! ### Reading a record after a write -/

@[simp] theorem State.line_setLine (i : LineId) (r : Line) : (s.setLine i r).line i = r := by
  simp [State.setLine, State.line]
theorem State.line_setLine_ne (i j : LineId) (r : Line) (h : i ≠ j) : (s.setLine i r).line j = s.line j := by
  simp [State.setLine, State.line, Vector.getElem_set_ne, Fin.val_ne_of_ne h]
theorem State.line_setLine_if (i j : LineId) (r : Line) : (s.setLine i r).line j = if i = j then r else s.line j := by
  by_cases h : i = j
  · subst h; simp
  · simp [h, State.line_setLine_ne]

@[simp] theorem State.lift_setLift (i : LiftIdx) (r : Lift) : (s.setLift i r).lift i = r := by
  simp [State.setLift, State.lift]
theorem State.lift_setLift_ne (i j : LiftIdx) (r : Lift) (h : i ≠ j) : (s.setLift i r).lift j = s.lift j := by
  simp [State.setLift, State.lift, Vector.getElem_set_ne, Fin.val_ne_of_ne h]
theorem State.lift_setLift_if (i j : LiftIdx) (r : Lift) : (s.setLift i r).lift j = if i = j then r else s.lift j := by
  by_cases h : i = j
  · subst h; simp
  · simp [h, State.lift_setLift_ne]

@[simp] theorem State.panel_setPanel (i : PanelIdx) (r : Panel) : (s.setPanel i r).panel i = r := by
  simp [State.setPanel, State.panel]
theorem State.panel_setPanel_ne (i j : PanelIdx) (r : Panel) (h : i ≠ j) : (s.setPanel i r).panel j = s.panel j := by
  simp [State.setPanel, State.panel, Vector.getElem_set_ne, Fin.val_ne_of_ne h]
theorem State.panel_setPanel_if (i j : PanelIdx) (r : Panel) : (s.setPanel i r).panel j = if i = j then r else s.panel j := by
  by_cases h : i = j
  · subst h; simp
  · simp [h, State.panel_setPanel_ne]

@[simp] theorem State.caseAt_setCase (i : CaseNo) (r : Case) : (s.setCase i r).caseAt i = r := by
  simp [State.setCase, State.caseAt]
theorem State.caseAt_setCase_ne (i j : CaseNo) (r : Case) (h : i ≠ j) : (s.setCase i r).caseAt j = s.caseAt j := by
  simp [State.setCase, State.caseAt, Vector.getElem_set_ne, Fin.val_ne_of_ne h]
theorem State.caseAt_setCase_if (i j : CaseNo) (r : Case) : (s.setCase i r).caseAt j = if i = j then r else s.caseAt j := by
  by_cases h : i = j
  · subst h; simp
  · simp [h, State.caseAt_setCase_ne]

@[simp] theorem State.crew_setCrew (i : CrewNo) (r : Crew) : (s.setCrew i r).crew i = r := by
  simp [State.setCrew, State.crew]
theorem State.crew_setCrew_ne (i j : CrewNo) (r : Crew) (h : i ≠ j) : (s.setCrew i r).crew j = s.crew j := by
  simp [State.setCrew, State.crew, Vector.getElem_set_ne, Fin.val_ne_of_ne h]
theorem State.crew_setCrew_if (i j : CrewNo) (r : Crew) : (s.setCrew i r).crew j = if i = j then r else s.crew j := by
  by_cases h : i = j
  · subst h; simp
  · simp [h, State.crew_setCrew_ne]

@[simp] theorem State.lift_setDyn (i : LiftIdx) (d : LiftDynamic) : (s.setDyn i d).lift i = ({ s.lift i with dyn := d }) :=
  State.lift_setLift s i _
theorem State.lift_setDyn_ne (i j : LiftIdx) (d : LiftDynamic) (h : i ≠ j) : (s.setDyn i d).lift j = s.lift j :=
  State.lift_setLift_ne s i j _ h
theorem State.lift_setDyn_if (i j : LiftIdx) (d : LiftDynamic) :
    (s.setDyn i d).lift j = if i = j then { s.lift i with dyn := d } else s.lift j :=
  State.lift_setLift_if s i j _

@[simp] theorem State.panel_setPanelDyn (i : PanelIdx) (d : PanelDynamic) : (s.setPanelDyn i d).panel i = ({ s.panel i with dyn := d }) :=
  State.panel_setPanel s i _
theorem State.panel_setPanelDyn_ne (i j : PanelIdx) (d : PanelDynamic) (h : i ≠ j) : (s.setPanelDyn i d).panel j = s.panel j :=
  State.panel_setPanel_ne s i j _ h
theorem State.panel_setPanelDyn_if (i j : PanelIdx) (d : PanelDynamic) :
    (s.setPanelDyn i d).panel j = if i = j then { s.panel i with dyn := d } else s.panel j :=
  State.panel_setPanel_if s i j _

@[simp] theorem State.crew_setCrewDyn (i : CrewNo) (d : CrewDynamic) : (s.setCrewDyn i d).crew i = ({ s.crew i with dyn := d }) :=
  State.crew_setCrew s i _
theorem State.crew_setCrewDyn_ne (i j : CrewNo) (d : CrewDynamic) (h : i ≠ j) : (s.setCrewDyn i d).crew j = s.crew j :=
  State.crew_setCrew_ne s i j _ h
theorem State.crew_setCrewDyn_if (i j : CrewNo) (d : CrewDynamic) :
    (s.setCrewDyn i d).crew j = if i = j then { s.crew i with dyn := d } else s.crew j :=
  State.crew_setCrew_if s i j _

@[simp] theorem State.caseAt_setProcedure (i : CaseNo) (d : Procedure) : (s.setProcedure i d).caseAt i = ({ s.caseAt i with procedure := d }) :=
  State.caseAt_setCase s i _
theorem State.caseAt_setProcedure_ne (i j : CaseNo) (d : Procedure) (h : i ≠ j) : (s.setProcedure i d).caseAt j = s.caseAt j :=
  State.caseAt_setCase_ne s i j _ h
theorem State.caseAt_setProcedure_if (i j : CaseNo) (d : Procedure) :
    (s.setProcedure i d).caseAt j = if i = j then { s.caseAt i with procedure := d } else s.caseAt j :=
  State.caseAt_setCase_if s i j _

end Sys2Proof.Machine
end

