-- ==== Sys2Proof/Laws/Ops.lean ====
section
/-! SUPPORT. What the shared operations over the trunk port can do, each said once: the offerings of chapter 9, and the
transmitters. -/

namespace Sys2Proof.Machine

/-! ### The own queue (R151, R152) -/

theorem dropOldestSummary_length : ∀ (q rest : List OwnFrame), dropOldestSummary q = some rest →
    rest.length + 1 = q.length := by
  intro q
  induction q with
  | nil => simp [dropOldestSummary]
  | cons f q ih =>
    intro rest h
    unfold dropOldestSummary at h
    split at h
    · simp at h; simp [h]
    · simp only [Option.map_eq_some_iff] at h
      obtain ⟨r, hr, rfl⟩ := h
      simp [← ih r hr]

/-- With room, a frame joins the tail (R151). -/
theorem Trunk.join_room (t : Trunk) (f : OwnFrame) (h : t.own.length < 32) :
    t.join f = some { t with own := t.own ++ [f] } := by
  simp [Trunk.join, Config.ownCapacity, h]

/-- Joining changes the own queue and the summary drop counter alone, and never lengthens a queue past 32 (R151, R152). -/
theorem Trunk.join_cases {t u : Trunk} {f : OwnFrame} (h : t.join f = some u) :
    (t.own.length < 32 ∧ u = { t with own := t.own ++ [f] }) ∨
    (32 ≤ t.own.length ∧ ∃ rest, dropOldestSummary t.own = some rest ∧ u = { t with
      own := rest ++ [f]
      counters := { t.counters with summaryDrops := satInc 65535 t.counters.summaryDrops } }) := by
  unfold Trunk.join at h
  split at h
  · left; rename_i hl; simp [Config.ownCapacity] at hl; exact ⟨hl, by simpa using h.symm⟩
  · rename_i hl; simp [Config.ownCapacity] at hl
    split at h
    · right; rename_i rest hr; exact ⟨hl, rest, hr, by simpa using h.symm⟩
    · simp at h

theorem satInc_le (top n : Nat) : satInc top n ≤ top := by
  unfold satInc; split <;> omega

/-! ### Offerings leave all but the port alone -/

theorem State.offerAnswer_trunk (s : State) (o : Origin) (b : OwnBody) :
    ∃ t, s.offerAnswer o b = { s with trunk := t } := by
  unfold State.offerAnswer; split <;> exact ⟨_, rfl⟩

theorem State.offerLoose_trunk (s : State) (b : OwnBody) : ∃ t, s.offerLoose b = { s with trunk := t } := by
  unfold State.offerLoose; split <;> exact ⟨_, rfl⟩

theorem State.offerSummary_trunk (s : State) (m : Summary) : ∃ t, s.offerSummary m = { s with trunk := t } := by
  unfold State.offerSummary; split <;> exact ⟨_, rfl⟩

theorem State.answer_trunk (s : State) (o : Origin) (k : Byte) (code : AnswerCode) (d : AnswerData) :
    ∃ t, s.answer o k code d = { s with trunk := t } := s.offerAnswer_trunk _ _

theorem State.notifyFull_trunk (s : State) (i : LiftIdx) : ∃ t, s.notifyFull i = { s with trunk := t } :=
  s.offerLoose_trunk _

/-- A case notice changes the port, and at most the owed flag of its record (R151 to R153). -/
theorem State.notify_cases (s : State) (c : CaseNo) (kind : NoticeKind) (arg : NoticeArg) :
    ∃ t, s.notify c kind arg = { s with trunk := t } ∨
      s.notify c kind arg = { s.setCase c { s.caseAt c with owed := true } with trunk := t } := by
  unfold State.notify State.offerCase
  split
  · exact ⟨_, .inl rfl⟩
  · split
    · exact ⟨_, .inl rfl⟩
    · exact ⟨_, .inr rfl⟩

/-! ### Transmitters with nothing to begin -/

/-- On a gateway whose transmitters are down or sending, `kick` does nothing (R149, R155). -/
theorem kick_of_sending (s : State) (hn : s.trunk.nearUp = true → s.trunk.nearTx ≠ none)
    (hf : s.trunk.farUp = true → s.trunk.farTx ≠ none) : kick s = (s, []) := by
  have h1 : kickFar s = s := by
    unfold kickFar
    by_cases h : s.trunk.farUp = true
    · have := hf h
      cases hx : s.trunk.farTx <;> simp_all
    · simp [h]
  unfold kick
  rw [h1]
  unfold kickNear
  by_cases h : s.trunk.nearUp = true
  · have := hn h
    cases hx : s.trunk.nearTx <;> simp_all
  · simp [h]

/-! ### One handling -/

theorem runJobs_zero (jobs : List Job) (s : State) : runJobs 0 jobs s = .fault .cascadeTooLong := rfl

/-- With nothing to begin and no job left, the handling ends. -/
theorem runJobs_nil (n : Nat) (s : State) (h : kick s = (s, [])) : runJobs (n + 1) [] s = .next s := by
  simp [runJobs, h]

/-- With nothing to begin, the first job is done and its own jobs come before the rest. -/
theorem runJobs_cons (n : Nat) (s : State) (j : Job) (jobs : List Job) (h : kick s = (s, [])) :
    runJobs (n + 1) (j :: jobs) s = runJobs n ((perform s j).2 ++ jobs) (perform s j).1 := by
  simp [runJobs, h]

/-- A handling without jobs, on a gateway with nothing to begin, ends at once. -/
theorem finish_nil (s : State) (h : kick s = (s, [])) : finish (s, []) = .next s :=
  runJobs_nil _ s h

/-- What the transmitters' beginnings and every job keep, a whole handling keeps. -/
theorem runJobs_keeps (P : State → Prop) (hkick : ∀ s, P s → P (kick s).1)
    (hjob : ∀ s j, P s → P (perform s j).1) :
    ∀ n jobs s t, P s → runJobs n jobs s = .next t → P t := by
  intro n
  induction n with
  | zero => intro jobs s t _ h; simp [runJobs] at h
  | succ n ih =>
    intro jobs s t hs h
    simp only [runJobs] at h
    split at h
    · simp at h; exact h ▸ hkick s hs
    · exact ih _ _ _ (hjob _ _ (hkick s hs)) h

/-- The same for `finish`. -/
theorem finish_keeps (P : State → Prop) (hkick : ∀ s, P s → P (kick s).1)
    (hjob : ∀ s j, P s → P (perform s j).1) (w : Work) (t : State) (hw : P w.1) (h : finish w = .next t) : P t :=
  runJobs_keeps P hkick hjob _ _ _ _ hw h

/-- Every job of a handling meets `Q` and every state `P`, where beginnings and jobs keep `P` and make jobs that meet
`Q`. -/
theorem runJobs_keeps_with (P : State → Prop) (Q : State → Job → Prop)
    (hkick : ∀ s, P s → P (kick s).1 ∧ (∀ j ∈ (kick s).2, Q (kick s).1 j) ∧ ∀ j, Q s j → Q (kick s).1 j)
    (hjob : ∀ s j, P s → Q s j → P (perform s j).1 ∧ (∀ i ∈ (perform s j).2, Q (perform s j).1 i) ∧
      ∀ i, Q s i → Q (perform s j).1 i) :
    ∀ n jobs s t, P s → (∀ j ∈ jobs, Q s j) → runJobs n jobs s = .next t → P t := by
  intro n
  induction n with
  | zero => intro jobs s t _ _ h; simp [runJobs] at h
  | succ n ih =>
    intro jobs s t hs hq h
    simp only [runJobs] at h
    obtain ⟨hp, hnew, hkeep⟩ := hkick s hs
    split at h
    · simp at h; exact h ▸ hp
    · rename_i j rest heq
      have hall : ∀ i ∈ (kick s).2 ++ jobs, Q (kick s).1 i := by
        intro i hi
        rcases List.mem_append.mp hi with hi | hi
        · exact hnew i hi
        · exact hkeep i (hq i hi)
      rw [heq] at hall
      obtain ⟨hp2, hn2, hk2⟩ := hjob _ j hp (hall j (by simp))
      refine ih _ _ _ hp2 ?_ h
      intro i hi
      rcases List.mem_append.mp hi with hi | hi
      · exact hn2 i hi
      · exact hk2 i (hall i (by simp [hi]))

/-! ### Offerings with room -/

/-- An answer with room joins the tail, tagged with the request's tag (R151). -/
theorem State.answer_room (s : State) (o : Origin) (k : Byte) (code : AnswerCode) (d : AnswerData)
    (h : s.trunk.own.length < 32) : s.answer o k code d = s.withAnswer o k code d := by
  unfold State.answer State.offerAnswer
  rw [Trunk.join_room _ _ h]; rfl

/-- A CREW_ANSWER with room joins the tail (R151). -/
theorem State.offerAnswer_room (s : State) (o : Origin) (b : OwnBody) (h : s.trunk.own.length < 32) :
    s.offerAnswer o b = s.withOwn ⟨o.source, s.straps.setWidth 16, o.tag, b⟩ := by
  unfold State.offerAnswer
  rw [Trunk.join_room _ _ h]; rfl

/-- The common fields of a case notice are those of the record as it stands (R82). -/
theorem State.noticeOf_eq (s : State) (c : CaseNo) (kind : NoticeKind) (arg : NoticeArg) :
    s.noticeOf c kind arg = s.noticeAbout c (s.caseAt c) kind arg := rfl

/-- A notice with room whose case owes none joins the tail and takes the sequence (R151). -/
theorem State.notify_room (s : State) (c : CaseNo) (kind : NoticeKind) (arg : NoticeArg)
    (h : s.trunk.own.length < 32) (ho : (s.caseAt c).owed = false) :
    s.notify c kind arg = s.withNotice c (s.caseAt c) kind arg := by
  unfold State.notify State.offerCase
  rw [if_neg (by simp [ho]), Trunk.join_room _ _ h]; rfl

/-- The same notice, with what became of it. -/
theorem State.offerCase_room (s : State) (c : CaseNo) (n : Notice) (h : s.trunk.own.length < 32)
    (ho : (s.caseAt c).owed = false) : s.offerCase c n = (s.withBroadcast (.notice n), .entered) := by
  unfold State.offerCase
  rw [if_neg (by simp [ho]), Trunk.join_room _ _ h]; rfl

/-- A CALL, TABLE_FULL or RESTARTED frame with room joins the tail and takes the sequence (R151). -/
theorem State.offerLoose_room (s : State) (b : OwnBody) (h : s.trunk.own.length < 32) :
    s.offerLoose b = s.withBroadcast b := by
  unfold State.offerLoose
  rw [Trunk.join_room _ _ h]; rfl

/-- A CALL with room (R100, R151). -/
theorem State.call_room (s : State) (c : CaseNo) (h : s.trunk.own.length < 32) :
    s.call c = s.withCall c (s.caseAt c) := by
  unfold State.call
  rw [State.offerLoose_room _ _ h]; rfl

/-- A summary with room (R53, R151). -/
theorem State.offerSummary_room (s : State) (m : Summary) (h : s.trunk.own.length < 32) :
    s.offerSummary m = s.withBroadcast (.summary m) := by
  unfold State.offerSummary
  rw [if_pos (by simpa [Config.ownCapacity] using h)]; rfl

/-- A crew request is answered on its route (R16, R89); a line in QUIET_IDLE sends the answer after it, as a job (R13). -/
theorem State.respond_room (s : State) (route : Route) (tag : Nat) (code : AnswerCode) (named : Option (BitVec 16))
    (info : Option OfferInfo) (h : s.trunk.own.length < 32)
    (hl : ∀ p, route = .panel p → (s.line (panelLine p)).state ≠ .quietIdle) :
    s.respond route tag code named info = s.withCrewAnswer route tag code named info := by
  cases route with
  | trunk o => exact State.offerAnswer_room _ _ _ h
  | panel p => simp only [State.withCrewAnswer, if_neg (hl p rfl)]; rfl

/-- Work that needs the line sends a START in QUIET_IDLE alone (R13). -/
theorem lineWork_cases (s : State) (l : LineId) :
    ((s.line l).state = .quietIdle ∧ lineWork s l = (s, [.start l none])) ∨
    ((s.line l).state ≠ .quietIdle ∧ lineWork s l = (s, [])) := by
  unfold lineWork; split <;> simp_all

/-- With nothing to begin, `kick` does nothing. -/
theorem kick_of_busy {s : State} (h : s.Busy) : kick s = (s, []) := kick_of_sending s h.1 h.2

/-- A handling without jobs. -/
theorem finish_busy {s : State} (h : s.Busy) : finish (s, []) = .next s := finish_nil s (kick_of_busy h)

/-- A handling of one job that leaves no job. -/
theorem finish_one {s t : State} {j : Job} (h : s.Busy) (ht : t.Busy) (hj : perform s j = (t, [])) :
    finish (s, [j]) = .next t := by
  unfold finish
  rw [show Config.cascadeBudget = 9998 + 1 + 1 from rfl, runJobs_cons _ _ _ _ (kick_of_busy h), hj]
  exact runJobs_nil _ _ (kick_of_busy ht)

/-! ### The clock (R142, R145) -/

/-- A carry is counted by the second stage, or ends the tick at the running D2-th. -/
theorem State.carry_cases (s : State) :
    (s.time.secondStage + 1 < s.time.runningD2 ∧ s.carry = { s with time := { s.time with
      firstStage := 0, secondStage := s.time.secondStage + 1, tickDue := false } }) ∨
    (s.time.runningD2 ≤ s.time.secondStage + 1 ∧ s.carry = s.tick) := by
  unfold State.carry TimeBase.lastCarry
  split <;> rename_i h <;> simp only [decide_eq_true_eq] at h
  · exact .inr ⟨h, rfl⟩
  · exact .inl ⟨by omega, rfl⟩

/-- A clock period is counted by the first stage, or makes a carry at the running D1-th. -/
theorem State.clockPeriod_cases (s : State) :
    (s.time.firstStage + 1 < s.time.runningD1 ∧
      s.clockPeriod = { s with time := { s.time with firstStage := s.time.firstStage + 1 } }) ∨
    (s.time.runningD1 ≤ s.time.firstStage + 1 ∧ s.clockPeriod = s.carry) := by
  unfold State.clockPeriod
  split <;> rename_i h
  · exact .inr ⟨h, rfl⟩
  · exact .inl ⟨by omega, rfl⟩

@[simp] theorem State.tick_time (s : State) : s.tick.time = s.time.tick s.settings.d1 s.settings.d2 := rfl
@[simp] theorem State.tick_settings (s : State) : s.tick.settings = s.settings := rfl
@[simp] theorem State.tick_lifts (s : State) : s.tick.lifts = s.lifts := rfl
@[simp] theorem State.tick_panels (s : State) : s.tick.panels = s.panels := rfl
@[simp] theorem State.tick_trunk (s : State) : s.tick.trunk = s.trunk := rfl
@[simp] theorem State.tick_pending (s : State) : s.tick.pending = s.pending := rfl
@[simp] theorem State.tick_line (s : State) (l : LineId) : s.tick.line l = (s.line l).tick := by simp [State.line, State.tick]
@[simp] theorem State.tick_caseAt (s : State) (c : CaseNo) : s.tick.caseAt c = (s.caseAt c).tick := by
  simp [State.caseAt, State.tick]
@[simp] theorem State.tick_crew (s : State) (k : CrewNo) : s.tick.crew k = (s.crew k).tick := by simp [State.crew, State.tick]

/-! ### The CLOSED notice (R76, R82) -/

/-- A record closed with a reason, a tag, an identity and a stamp has its CLOSED notice with these, whatever the state is later. -/
theorem State.closedNotice_of_closed {s : State} {c : CaseNo} {r : Case} {reason : CloseReason} {tag : Option Nat} {identity : Nat}
    {now : BitVec 32} (h : s.caseAt c = r.closed reason tag identity now) :
    s.closedNotice c = ⟨.closed, some (r.serial, c), some identity, now, some (r.urgency, r.dispatch), tag, .closed reason⟩ := by
  simp [State.closedNotice, State.noticeOf, h, Case.closed]

/-! ### The truth held without a last report (R28, R46) -/

@[simp] theorem LiftDynamic.heldTruth_entered (st : LiftState) : (LiftDynamic.entered st).heldTruth = .empty := rfl
@[simp] theorem LiftDynamic.keptTruth_entered (st : LiftState) : (LiftDynamic.entered st).keptTruth = .empty := rfl
theorem LiftDynamic.heldTruth_of_report {d : LiftDynamic} {n : CarRecord} (h : d.lastReport = some n) :
    d.heldTruth = .empty := by simp [LiftDynamic.heldTruth, h]
theorem LiftDynamic.heldTruth_of_none {d : LiftDynamic} (h : d.lastReport = none) : d.heldTruth = d.keptTruth := by
  simp [LiftDynamic.heldTruth, h]

/-- What stands for a withdrawal and a latch: the enabled causes that are true or held. -/
@[simp] theorem Lift.standingTruth_has (r : Lift) (c : Cause) :
    r.standingTruth.has c = ((r.config.cause c).enabled && (r.dyn.truth.has c || r.dyn.heldTruth.has c)) := by
  cases c <;> rfl

/-- With a last report, only what is true stands. -/
theorem Lift.standingTruth_of_report {r : Lift} {n : CarRecord} (h : r.dyn.lastReport = some n) (c : Cause) :
    r.standingTruth.has c = ((r.config.cause c).enabled && r.dyn.truth.has c) := by
  simp only [Lift.standingTruth_has, LiftDynamic.heldTruth_of_report h]
  cases c <;> simp [CauseSet.has, CauseSet.empty]

/-- After an entry that is no LINE_RESET, nothing stands. -/
theorem Lift.standingTruth_entered (g : LiftConfig) (st : LiftState) (c : Cause) :
    (Lift.mk g (.entered st)).standingTruth.has c = false := by
  rw [Lift.standingTruth_has, LiftDynamic.heldTruth_entered]
  cases c <;> exact Bool.and_false _

/-- The answers that a START leaves pending are those of polled panels (R15, R37). -/
@[simp] theorem polledAnswers_get (slots : List Slot) (answers : Vector (Option PanelAnswer) 4) (k : Fin 4) :
    (polledAnswers slots answers)[k.val] = if slots.contains (panelSlot k) then answers[k.val] else none := by
  simp [polledAnswers]

/-- The case manager, told of a new truth set, clears the latch or leaves it, and withdraws the lift's case or none. -/
theorem truthTold_cases (s : State) (i : LiftIdx) :
    ((truthTold s i).1 = s ∨ (truthTold s i).1 = s.setDyn i { (s.lift i).dyn with latch := .empty }) ∧
    ((truthTold s i).2 = [] ∨ ∃ c, (s.lift i).dyn.openCase = some c ∧ (truthTold s i).2 = [.close c .withdrawn]) := by
  have h1 : ∀ (b : Bool) (t : State), (if b then t else s) = s ∨ (if b then t else s) = t := by
    intro b t; cases b <;> simp
  unfold truthTold
  dsimp only
  split
  · next c hc =>
    split
    · exact ⟨h1 _ _, .inr ⟨c, hc, rfl⟩⟩
    · exact ⟨h1 _ _, .inl rfl⟩
  · exact ⟨h1 _ _, .inl rfl⟩

end Sys2Proof.Machine
end

