-- ==== Sys2Proof/Laws/Vocabulary.lean ====
section
/-! SUPPORT. The statements' vocabulary under the updates of one record: what a frame at the tail leaves alone, and that the
updates and the frames commute. -/

namespace Sys2Proof.Machine

variable (s : State) (f : OwnFrame) (b : OwnBody)

/-! ### A frame at the tail changes the port alone -/

@[simp] theorem State.withOwn_straps : (s.withOwn f).straps = s.straps := rfl
@[simp] theorem State.withOwn_lamp : (s.withOwn f).lamp = s.lamp := rfl
@[simp] theorem State.withOwn_time : (s.withOwn f).time = s.time := rfl
@[simp] theorem State.withOwn_settings : (s.withOwn f).settings = s.settings := rfl
@[simp] theorem State.withOwn_lines : (s.withOwn f).lines = s.lines := rfl
@[simp] theorem State.withOwn_lifts : (s.withOwn f).lifts = s.lifts := rfl
@[simp] theorem State.withOwn_panels : (s.withOwn f).panels = s.panels := rfl
@[simp] theorem State.withOwn_cases : (s.withOwn f).cases = s.cases := rfl
@[simp] theorem State.withOwn_classes : (s.withOwn f).classes = s.classes := rfl
@[simp] theorem State.withOwn_serial : (s.withOwn f).serial = s.serial := rfl
@[simp] theorem State.withOwn_crews : (s.withOwn f).crews = s.crews := rfl
@[simp] theorem State.withOwn_travel : (s.withOwn f).travel = s.travel := rfl
@[simp] theorem State.withOwn_rotation : (s.withOwn f).rotation = s.rotation := rfl
@[simp] theorem State.withOwn_store : (s.withOwn f).store = s.store := rfl
@[simp] theorem State.withOwn_freeDraws : (s.withOwn f).freeDraws = s.freeDraws := rfl
@[simp] theorem State.withOwn_pending : (s.withOwn f).pending = s.pending := rfl
@[simp] theorem State.withOwn_line (i : LineId) : (s.withOwn f).line i = s.line i := rfl
@[simp] theorem State.withOwn_lift (i : LiftIdx) : (s.withOwn f).lift i = s.lift i := rfl
@[simp] theorem State.withOwn_panel (i : PanelIdx) : (s.withOwn f).panel i = s.panel i := rfl
@[simp] theorem State.withOwn_caseAt (i : CaseNo) : (s.withOwn f).caseAt i = s.caseAt i := rfl
@[simp] theorem State.withOwn_crew (i : CrewNo) : (s.withOwn f).crew i = s.crew i := rfl
@[simp] theorem State.withOwn_isOpen (c : CaseNo) : (s.withOwn f).isOpen c = s.isOpen c := rfl
@[simp] theorem State.withOwn_length : (s.withOwn f).trunk.own.length = s.trunk.own.length + 1 := by simp [State.withOwn]
@[simp] theorem State.withOwn_busy : (s.withOwn f).Busy ↔ s.Busy := Iff.rfl
@[simp] theorem State.withBroadcast_straps : (s.withBroadcast b).straps = s.straps := rfl
@[simp] theorem State.withBroadcast_lamp : (s.withBroadcast b).lamp = s.lamp := rfl
@[simp] theorem State.withBroadcast_time : (s.withBroadcast b).time = s.time := rfl
@[simp] theorem State.withBroadcast_settings : (s.withBroadcast b).settings = s.settings := rfl
@[simp] theorem State.withBroadcast_lines : (s.withBroadcast b).lines = s.lines := rfl
@[simp] theorem State.withBroadcast_lifts : (s.withBroadcast b).lifts = s.lifts := rfl
@[simp] theorem State.withBroadcast_panels : (s.withBroadcast b).panels = s.panels := rfl
@[simp] theorem State.withBroadcast_cases : (s.withBroadcast b).cases = s.cases := rfl
@[simp] theorem State.withBroadcast_classes : (s.withBroadcast b).classes = s.classes := rfl
@[simp] theorem State.withBroadcast_serial : (s.withBroadcast b).serial = s.serial := rfl
@[simp] theorem State.withBroadcast_crews : (s.withBroadcast b).crews = s.crews := rfl
@[simp] theorem State.withBroadcast_travel : (s.withBroadcast b).travel = s.travel := rfl
@[simp] theorem State.withBroadcast_rotation : (s.withBroadcast b).rotation = s.rotation := rfl
@[simp] theorem State.withBroadcast_store : (s.withBroadcast b).store = s.store := rfl
@[simp] theorem State.withBroadcast_freeDraws : (s.withBroadcast b).freeDraws = s.freeDraws := rfl
@[simp] theorem State.withBroadcast_pending : (s.withBroadcast b).pending = s.pending := rfl
@[simp] theorem State.withBroadcast_line (i : LineId) : (s.withBroadcast b).line i = s.line i := rfl
@[simp] theorem State.withBroadcast_lift (i : LiftIdx) : (s.withBroadcast b).lift i = s.lift i := rfl
@[simp] theorem State.withBroadcast_panel (i : PanelIdx) : (s.withBroadcast b).panel i = s.panel i := rfl
@[simp] theorem State.withBroadcast_caseAt (i : CaseNo) : (s.withBroadcast b).caseAt i = s.caseAt i := rfl
@[simp] theorem State.withBroadcast_crew (i : CrewNo) : (s.withBroadcast b).crew i = s.crew i := rfl
@[simp] theorem State.withBroadcast_isOpen (c : CaseNo) : (s.withBroadcast b).isOpen c = s.isOpen c := rfl
@[simp] theorem State.withBroadcast_length : (s.withBroadcast b).trunk.own.length = s.trunk.own.length + 1 := by simp [State.withBroadcast]
@[simp] theorem State.withBroadcast_busy : (s.withBroadcast b).Busy ↔ s.Busy := Iff.rfl

/-! ### Updates leave the transmitters alone, and frames and updates commute -/

@[simp] theorem State.setLine_busy (l : LineId) (r : Line) : (s.setLine l r).Busy ↔ s.Busy := Iff.rfl
theorem State.setLine_withOwn (l : LineId) (r : Line) :
    (s.withOwn f).setLine l r = (s.setLine l r).withOwn f := rfl
theorem State.setLine_withBroadcast (l : LineId) (r : Line) :
    (s.withBroadcast b).setLine l r = (s.setLine l r).withBroadcast b := rfl
@[simp] theorem State.setLine_isOpen (l : LineId) (r : Line) (e : CaseNo) : (s.setLine l r).isOpen e = s.isOpen e := rfl
@[simp] theorem State.setLift_busy (i : LiftIdx) (r : Lift) : (s.setLift i r).Busy ↔ s.Busy := Iff.rfl
theorem State.setLift_withOwn (i : LiftIdx) (r : Lift) :
    (s.withOwn f).setLift i r = (s.setLift i r).withOwn f := rfl
theorem State.setLift_withBroadcast (i : LiftIdx) (r : Lift) :
    (s.withBroadcast b).setLift i r = (s.setLift i r).withBroadcast b := rfl
@[simp] theorem State.setLift_isOpen (i : LiftIdx) (r : Lift) (e : CaseNo) : (s.setLift i r).isOpen e = s.isOpen e := rfl
@[simp] theorem State.setPanel_busy (p : PanelIdx) (r : Panel) : (s.setPanel p r).Busy ↔ s.Busy := Iff.rfl
theorem State.setPanel_withOwn (p : PanelIdx) (r : Panel) :
    (s.withOwn f).setPanel p r = (s.setPanel p r).withOwn f := rfl
theorem State.setPanel_withBroadcast (p : PanelIdx) (r : Panel) :
    (s.withBroadcast b).setPanel p r = (s.setPanel p r).withBroadcast b := rfl
@[simp] theorem State.setPanel_isOpen (p : PanelIdx) (r : Panel) (e : CaseNo) : (s.setPanel p r).isOpen e = s.isOpen e := rfl
@[simp] theorem State.setCase_busy (c : CaseNo) (r : Case) : (s.setCase c r).Busy ↔ s.Busy := Iff.rfl
theorem State.setCase_withOwn (c : CaseNo) (r : Case) :
    (s.withOwn f).setCase c r = (s.setCase c r).withOwn f := rfl
theorem State.setCase_withBroadcast (c : CaseNo) (r : Case) :
    (s.withBroadcast b).setCase c r = (s.setCase c r).withBroadcast b := rfl
@[simp] theorem State.setCrew_busy (k : CrewNo) (r : Crew) : (s.setCrew k r).Busy ↔ s.Busy := Iff.rfl
theorem State.setCrew_withOwn (k : CrewNo) (r : Crew) :
    (s.withOwn f).setCrew k r = (s.setCrew k r).withOwn f := rfl
theorem State.setCrew_withBroadcast (k : CrewNo) (r : Crew) :
    (s.withBroadcast b).setCrew k r = (s.setCrew k r).withBroadcast b := rfl
@[simp] theorem State.setCrew_isOpen (k : CrewNo) (r : Crew) (e : CaseNo) : (s.setCrew k r).isOpen e = s.isOpen e := rfl
@[simp] theorem State.setDyn_busy (i : LiftIdx) (d : LiftDynamic) : (s.setDyn i d).Busy ↔ s.Busy := Iff.rfl
theorem State.setDyn_withOwn (i : LiftIdx) (d : LiftDynamic) :
    (s.withOwn f).setDyn i d = (s.setDyn i d).withOwn f := rfl
theorem State.setDyn_withBroadcast (i : LiftIdx) (d : LiftDynamic) :
    (s.withBroadcast b).setDyn i d = (s.setDyn i d).withBroadcast b := rfl
@[simp] theorem State.setDyn_isOpen (i : LiftIdx) (d : LiftDynamic) (e : CaseNo) : (s.setDyn i d).isOpen e = s.isOpen e := rfl
@[simp] theorem State.setPanelDyn_busy (p : PanelIdx) (d : PanelDynamic) : (s.setPanelDyn p d).Busy ↔ s.Busy := Iff.rfl
theorem State.setPanelDyn_withOwn (p : PanelIdx) (d : PanelDynamic) :
    (s.withOwn f).setPanelDyn p d = (s.setPanelDyn p d).withOwn f := rfl
theorem State.setPanelDyn_withBroadcast (p : PanelIdx) (d : PanelDynamic) :
    (s.withBroadcast b).setPanelDyn p d = (s.setPanelDyn p d).withBroadcast b := rfl
@[simp] theorem State.setPanelDyn_isOpen (p : PanelIdx) (d : PanelDynamic) (e : CaseNo) : (s.setPanelDyn p d).isOpen e = s.isOpen e := rfl
@[simp] theorem State.setCrewDyn_busy (k : CrewNo) (d : CrewDynamic) : (s.setCrewDyn k d).Busy ↔ s.Busy := Iff.rfl
theorem State.setCrewDyn_withOwn (k : CrewNo) (d : CrewDynamic) :
    (s.withOwn f).setCrewDyn k d = (s.setCrewDyn k d).withOwn f := rfl
theorem State.setCrewDyn_withBroadcast (k : CrewNo) (d : CrewDynamic) :
    (s.withBroadcast b).setCrewDyn k d = (s.setCrewDyn k d).withBroadcast b := rfl
@[simp] theorem State.setCrewDyn_isOpen (k : CrewNo) (d : CrewDynamic) (e : CaseNo) : (s.setCrewDyn k d).isOpen e = s.isOpen e := rfl
@[simp] theorem State.setProcedure_busy (c : CaseNo) (p : Procedure) : (s.setProcedure c p).Busy ↔ s.Busy := Iff.rfl
theorem State.setProcedure_withOwn (c : CaseNo) (p : Procedure) :
    (s.withOwn f).setProcedure c p = (s.setProcedure c p).withOwn f := rfl
theorem State.setProcedure_withBroadcast (c : CaseNo) (p : Procedure) :
    (s.withBroadcast b).setProcedure c p = (s.setProcedure c p).withBroadcast b := rfl
@[simp] theorem State.setRelease_busy (c : CaseNo) (q : Release) : (s.setRelease c q).Busy ↔ s.Busy := Iff.rfl
theorem State.setRelease_withOwn (c : CaseNo) (q : Release) :
    (s.withOwn f).setRelease c q = (s.setRelease c q).withOwn f := rfl
theorem State.setRelease_withBroadcast (c : CaseNo) (q : Release) :
    (s.withBroadcast b).setRelease c q = (s.setRelease c q).withBroadcast b := rfl
@[simp] theorem State.setLine_setLine (i : LineId) (a c : Line) : (s.setLine i a).setLine i c = s.setLine i c := by
  simp [State.setLine]
@[simp] theorem State.setLift_setLift (i : LiftIdx) (a c : Lift) : (s.setLift i a).setLift i c = s.setLift i c := by
  simp [State.setLift]
@[simp] theorem State.setPanel_setPanel (i : PanelIdx) (a c : Panel) : (s.setPanel i a).setPanel i c = s.setPanel i c := by
  simp [State.setPanel]
@[simp] theorem State.setCase_setCase (i : CaseNo) (a c : Case) : (s.setCase i a).setCase i c = s.setCase i c := by
  simp [State.setCase]
@[simp] theorem State.setCrew_setCrew (i : CrewNo) (a c : Crew) : (s.setCrew i a).setCrew i c = s.setCrew i c := by
  simp [State.setCrew]

end Sys2Proof.Machine
end

