-- ==== Sys2Proof/WellFormed.lean ====
section
/-! DEFINITION. Which commands can be sent at all: every number an operand carries fits the bytes chapter 11 gives it.
A value inside its bytes but outside its range or list is well formed; the owning rule answers it. -/

namespace Sys2Proof

/-- A number that one byte carries. -/
def fits1 (n : Nat) : Bool := n < 256
/-- A number that two bytes carry. -/
def fits2 (n : Nat) : Bool := n < 65536
/-- A number that three bytes carry. -/
def fits3 (n : Nat) : Bool := n < 16777216

/-- The field widths of a lift record (section 11.4). -/
def LiftWrite.wf (w : LiftWrite) : Bool :=
  fits1 w.enabled && fits2 w.identity && fits1 w.landings.length && w.landings.all fits3 && fits2 w.doorZone &&
  fits1 w.creep && fits1 w.debounce && fits1 w.silence && fits1 w.balance && fits2 w.step && fits3 w.reach &&
  fits1 w.cap && fits1 w.stall && fits1 w.alarm && fits1 w.shared && fits1 w.silent && fits1 w.manual &&
  fits1 w.page && fits1 w.forwarding

/-- The field widths of a panel record. -/
def PanelWrite.wf (w : PanelWrite) : Bool :=
  fits1 w.enabled && fits2 w.map0 && fits2 w.map1 && fits2 w.map2 && fits2 w.map3

/-- The field widths of a crew record. -/
def CrewWrite.wf (w : CrewWrite) : Bool :=
  fits1 w.enabled && fits1 w.tag && fits1 w.coverage && fits1 w.post

/-- The field widths of a class entry. -/
def ClassWrite.wf (w : ClassWrite) : Bool :=
  fits1 w.base && fits2 w.interval && fits1 w.clear && fits1 w.stop && fits1 w.limit && fits1 w.skip &&
  fits1 w.closeOnAccept

/-- The field widths of a step record (section 11.3). -/
def StepWrite.wf (w : StepWrite) : Bool :=
  fits1 w.action && fits1 w.argument && fits2 w.limit && fits1 w.branch

/-- The field widths of one line's settings. -/
def LineWrite.wf (w : LineWrite) : Bool :=
  fits1 w.defaultMode && fits1 w.cycleInterval && fits2 w.quietCeiling && fits1 w.answerWindow

/-- The field widths of the sector settings. -/
def SettingsWrite.wf (w : SettingsWrite) : Bool :=
  fits2 w.d1 && fits2 w.d2 && fits2 w.offerTimeout && fits1 w.tieMode && fits2 w.settleLimit &&
  w.lines.toList.all LineWrite.wf

/-- Every operand fits the bytes its frame gives it (chapter 11). -/
def Instr.wf : Instr → Bool
  | .powerOnReset => true
  | .strapChange _ => true
  | .tickEnd => true
  | .intervalTimerExpiry _ => true
  | .ceilingTimerExpiry _ => true
  | .escalationTimerExpiry _ => true
  | .offerTimerExpiry _ => true
  | .minTimerExpiry _ => true
  | .maxTimerExpiry _ => true
  | .stepTimerExpiry _ => true
  | .settleTimerExpiry _ => true
  | .answerWindowClose _ _ => true
  | .wake _ _ => true
  | .wakeBurstInCycle _ => true
  | .nearFrameReceived _ => true
  | .farFrameReceived _ => true
  | .linkStateChange _ _ => true
  | .nearTransmitComplete => true
  | .farTransmitComplete => true
  | .read _ table index => fits1 table && fits1 index
  | .writeLift _ index w => fits1 index && w.wf
  | .writePanel _ index w => fits1 index && w.wf
  | .writeCrew _ index w => fits1 index && w.wf
  | .writeClass _ index w => fits1 index && w.wf
  | .writeTravel _ index lo hi => fits1 index && fits2 lo && fits2 hi
  | .writeStep _ index w => fits1 index && w.wf
  | .writeSectorSettings _ index w => fits1 index && w.wf
  | .setForward _ index mode => fits1 index && fits1 mode
  | .lineEnable _ line => fits1 line
  | .lineDisable _ line => fits1 line
  | .lineReset _ line => fits1 line
  | .setBottom _ index => fits1 index
  | .survey _ crew => fits1 crew
  | .caseOpen _ identity => fits2 identity
  | .caseClose _ _ => true
  | .readCase _ record => fits1 record
  | .readCounters _ => true
  | .warmRestart _ force => fits1 force
  | .controlInhibit _ identity => fits2 identity
  | .controlRestore _ identity => fits2 identity
  | .controlAnnounce _ identity message => fits2 identity && fits1 message
  | .controlService _ identity code => fits2 identity && fits1 code
  | .dutyOn _ tag => fits1 tag
  | .dutyOff _ tag => fits1 tag
  | .sweepOn _ tag => fits1 tag
  | .sweepOff _ tag => fits1 tag
  | .job _ tag => fits1 tag
  | .accept _ tag _ => fits1 tag
  | .decline _ tag _ => fits1 tag
  | .arrived _ tag _ => fits1 tag
  | .voice _ tag _ => fits1 tag
  | .standDown _ tag _ => fits1 tag
  | .firstStageCarry => true

end Sys2Proof
end

