-- ==== Sys2Proof/Tests/Slice0.lean ====
section
/-! SUPPORT. The model's own tests: the ill-formed terms that WellFormed refuses, one step of each kind of command on a small
state with its result from the spec's worked examples, and states and operands that meet the statements' hypotheses. -/

namespace Sys2Proof.Tests

open Sys2Proof.Machine

/-! ### Small states -/

/-- Source 9, tag 7. -/
def org : Origin := ⟨9#16, 7#8⟩
/-- A crew request by trunk. -/
def byTrunk : Route := .trunk org

/-- Lift 21 (line B, slot 5) of the examples: enabled, identity 4,210, three landings, in lift state `st`. -/
def lift21 (st : LiftState) : Lift :=
  ⟨{ LiftConfig.reset 21 with enabled := true, identity := 4210, landings := [0, 22400, 61800] }, .entered st⟩

/-- The power-on state with lift 21 enabled. -/
def car (st : LiftState) : State := State.reset.setLift 21 (lift21 st)

/-- Case 812 of chapter 12 at its opening, with the procedure waiting for CREW_ARRIVED. -/
def case812 : Case := { Case.free with
  record := .opened, serial := 812, lift := 21, causes := ⟨true, false, false, false, false⟩, urgency := 2
  interval := 1800, escalation := .running 1800, clear := some .voiceContact, stop := some .crewArrived, limit := 3
  procedure := ⟨0, 4, false, .running, .event .crewArrived, 0, .stopped⟩ }

/-- Lift 21 in state `st` with case 812 open in record 0, changed by `f`. -/
def rescue (st : LiftState) (f : Case → Case) : State :=
  { (car st).setDyn 21 { ((car st).lift 21).dyn with openCase := some 0 } with lamp := true }.setCase 0 (f case812)

/-- Crew record 2 enabled under tag 31, on duty, its dynamic part changed by `f`. -/
def crewed (s : State) (f : CrewDynamic → CrewDynamic) : State :=
  s.setCrew 2 ⟨⟨true, 31, Vector.replicate 4 true, 0⟩, f ⟨true, false, [], none, none, none, 0⟩⟩

/-- Panel 4 (line B, slot 16) enabled with input 1 mapped to slot 5, its dynamic fields changed by `f`. -/
def panelled (s : State) (f : PanelDynamic → PanelDynamic) : State :=
  s.setPanel 4 ⟨⟨true, #v[0#16, 32#16, 0#16, 0#16]⟩, f .cleared⟩

/-- Line B's record changed by `f`. -/
def lineB (s : State) (f : Line → Line) : State := s.setLine 1 (f (s.line 1))

/-- Line B in CYCLE with the windows of `slots`, the one of `slot` open. -/
def cycling (s : State) (slots : List Slot) (slot : Slot) : State :=
  lineB s fun r => { r with state := .cycle, slotSet := slots, currentSlot := some slot, intervalTimer := .running 3 }

/-- Whether the command's next state meets `p`. -/
def sees (c : Instr) (s : State) (p : State → Bool) : Bool :=
  match exec c s with
  | .next t => p t
  | .fault _ => false
  | .refused _ => false

/-- The state after a command. -/
def after (c : Instr) (s : State) : State :=
  match exec c s with
  | .next t => t
  | .fault _ => s
  | .refused _ => s

/-- The codes of the answers in the own queue, head first. -/
def codes (s : State) : List AnswerCode := s.trunk.own.filterMap fun f =>
  match f.body with
  | .answer _ code _ => some code
  | .crewAnswer code _ _ _ => some code
  | .notice _ => none
  | .call _ => none
  | .summary _ => none

/-- The kinds of the notices in the own queue, head first. -/
def kinds (s : State) : List NoticeKind := s.trunk.own.filterMap fun f =>
  match f.body with
  | .answer _ _ _ => none
  | .crewAnswer _ _ _ _ => none
  | .notice n => some n.kind
  | .call n => some n.kind
  | .summary _ => none

/-! ### WellFormed: one ill-formed term for each check -/

/-- A lift write within its bytes: the record of lift 21. -/
def liftOk : LiftWrite := ⟨1, 4210, [0, 22400, 61800], 75, 2, 4, 3, 45, 400, 12000, 40, 3, 1, 3, 3, 1, 0, 1⟩
/-- A panel write within its bytes. -/
def panelOk : PanelWrite := ⟨1, 0, 32, 0, 0⟩
/-- A crew write within its bytes. -/
def crewOk : CrewWrite := ⟨1, 31, 6, 0⟩
/-- A class write within its bytes. -/
def classOk : ClassWrite := ⟨3, 1800, 1, 2, 3, 4, 0⟩
/-- A step write within its bytes. -/
def stepOk : StepWrite := ⟨12, 2, 0, 0⟩
/-- One line's settings within their bytes. -/
def lineOk : LineWrite := ⟨0, 5, 50, 6⟩
/-- A settings write within its bytes. -/
def settingsOk : SettingsWrite := ⟨2048, 100, 300, 0, 50, Vector.replicate 4 lineOk⟩

theorem test_wf_accepts : (Instr.writeLift org 21 liftOk).wf = true ∧ (Instr.writePanel org 4 panelOk).wf = true ∧
    (Instr.writeCrew org 2 crewOk).wf = true ∧ (Instr.writeClass org 0 classOk).wf = true ∧
    (Instr.writeStep org 255 stepOk).wf = true ∧ (Instr.writeSectorSettings org 0 settingsOk).wf = true ∧
    (Instr.writeTravel org 1 65535 65535).wf = true ∧ (Instr.caseOpen org 65535).wf = true := by decide

theorem test_wf_lift : ∀ w ∈ [{ liftOk with enabled := 256 }, { liftOk with identity := 65536 },
    { liftOk with landings := List.replicate 256 0 }, { liftOk with landings := [0, 16777216] },
    { liftOk with doorZone := 65536 }, { liftOk with creep := 256 }, { liftOk with debounce := 256 },
    { liftOk with silence := 256 }, { liftOk with balance := 256 }, { liftOk with step := 65536 },
    { liftOk with reach := 16777216 }, { liftOk with cap := 256 }, { liftOk with stall := 256 },
    { liftOk with alarm := 256 }, { liftOk with shared := 256 }, { liftOk with silent := 256 },
    { liftOk with manual := 256 }, { liftOk with page := 256 }, { liftOk with forwarding := 256 }],
    (Instr.writeLift org 21 w).wf = false := by decide +kernel

theorem test_wf_records :
    (∀ w ∈ [{ panelOk with enabled := 256 }, { panelOk with map0 := 65536 }, { panelOk with map1 := 65536 },
      { panelOk with map2 := 65536 }, { panelOk with map3 := 65536 }], (Instr.writePanel org 4 w).wf = false) ∧
    (∀ w ∈ [{ crewOk with enabled := 256 }, { crewOk with tag := 256 }, { crewOk with coverage := 256 },
      { crewOk with post := 256 }], (Instr.writeCrew org 2 w).wf = false) ∧
    (∀ w ∈ [{ classOk with base := 256 }, { classOk with interval := 65536 }, { classOk with clear := 256 },
      { classOk with stop := 256 }, { classOk with limit := 256 }, { classOk with skip := 256 },
      { classOk with closeOnAccept := 256 }], (Instr.writeClass org 0 w).wf = false) ∧
    (∀ w ∈ [{ stepOk with action := 256 }, { stepOk with argument := 256 }, { stepOk with limit := 65536 },
      { stepOk with branch := 256 }], (Instr.writeStep org 0 w).wf = false) ∧
    (∀ v ∈ [{ lineOk with defaultMode := 256 }, { lineOk with cycleInterval := 256 },
      { lineOk with quietCeiling := 65536 }, { lineOk with answerWindow := 256 }],
      (Instr.writeSectorSettings org 0 { settingsOk with lines := settingsOk.lines.set 3 v }).wf = false) ∧
    ∀ w ∈ [{ settingsOk with d1 := 65536 }, { settingsOk with d2 := 65536 }, { settingsOk with offerTimeout := 65536 },
      { settingsOk with tieMode := 256 }, { settingsOk with settleLimit := 65536 }],
      (Instr.writeSectorSettings org 0 w).wf = false := by decide

theorem test_wf_operands : ∀ c ∈ [Instr.read org 256 0, .read org 0 256, .writeLift org 256 liftOk,
    .writePanel org 256 panelOk, .writeCrew org 256 crewOk, .writeClass org 256 classOk, .writeTravel org 256 0 0,
    .writeTravel org 0 65536 0, .writeTravel org 0 0 65536, .writeStep org 256 stepOk,
    .writeSectorSettings org 256 settingsOk, .setForward org 256 0, .setForward org 0 256, .lineEnable org 256,
    .lineDisable org 256, .lineReset org 256, .setBottom org 256, .survey org 256, .caseOpen org 65536,
    .readCase org 256, .warmRestart org 256, .controlInhibit org 65536, .controlRestore org 65536,
    .controlAnnounce org 65536 0, .controlAnnounce org 0 256, .controlService org 65536 0, .controlService org 0 256,
    .dutyOn byTrunk 256, .dutyOff byTrunk 256, .sweepOn byTrunk 256, .sweepOff byTrunk 256, .job byTrunk 256,
    .accept byTrunk 256 none, .decline byTrunk 256 none, .arrived byTrunk 256 none, .voice byTrunk 256 none,
    .standDown byTrunk 256 none], c.wf = false := by decide

/-! ### The computations, from the spec's worked figures -/

/-- Section 3.2.1. -/
theorem test_nearest_landing : [2100, 2101, 4275, 4276, 8470, 9000].map
    (fun p => (nearestLanding [0, 4200, 8400] p, inDoorZone [0, 4200, 8400] 75 p)) =
    [(0, false), (1, false), (1, true), (1, false), (2, true), (2, false)] := by decide

/-- R39: with threshold 2, codes 511 to 513 are not moving. -/
theorem test_moving : [510, 511, 512, 513, 514].map (moving 2) = [true, false, false, false, true] := by decide

/-- Section 3.9: 12 to 0 is four presses. -/
theorem test_presses_wrap : newPresses (some 12) 0 = 4 ∧ newPresses none 9 = 0 := by decide

/-- Section 4.4.1. -/
theorem test_press_thresholds : [(0, 1, 3), (1, 3, 2), (4, 6, 2), (10, 15, 0)].map (fun x =>
    let t := addPresses (rescue .stalled fun r => { r with presses := x.1, urgency := x.2.2 }) 0 x.2.1
    ((t.caseAt 0).presses, (t.caseAt 0).urgency)) = [(1, 2), (4, 2), (10, 0), (25, 0)] := by decide

/-- Section 7.2.1. -/
theorem test_release_plans : [(30150, 72, 0), (30150, 44, 0), (30150, 40, 0), (50000, 20, 0), (50000, 20, 15),
    (22460, 90, 0), (61900, 20, 0), (10400, 50, 0)].map (fun x => planOf (lift21 .stalled).config x.1 x.2.1 x.2.2) =
    [.allowed .down 1 7750 20, .crewOnly .balanced, .crewOnly .tooFar, .allowed .up 2 11800 30, .crewOnly .tooMany,
     .notNeeded, .crewOnly .noTarget, .allowed .down 0 10400 26] := by decide

/-- R172, on the nine digits: the two widely published values of this generator. -/
theorem test_checks : lineCrc ((List.range 9).map fun n => BitVec.ofNat 8 (n + 49)) = 0x29B1#16 ∧
    trunkCrc ((List.range 9).map fun n => BitVec.ofNat 8 (n + 49)) = 0x31C3#16 := by decide +kernel

/-! ### Frames written out byte by byte (sections 11.1 and 11.2), each check computed by hand from R172 -/

/-- The report of 400,000 in section 12.2: 30,150 mm, code 512, load 72, OCCUPIED, press count 9, pulse echo 6. -/
def reportBytes : List Byte :=
  [0x02#8, 0x00#8, 0x75#8, 0xC6#8, 0x80#8, 0x00#8, 0x48#8, 0x80#8, 0x96#8, 0x7E#8, 0x39#8]

/-- Panel 4's answer at 401,920 in section 12.4: tag 34, toggle 1, ARRIVED without a serial, press number 2. -/
def panelBytes : List Byte := [0x03#8, 0x22#8, 0xC0#8, 0x00#8, 0x00#8, 0x40#8, 0x77#8, 0xA7#8]

/-- READ of travel entry 1 from address 9 with tag 7. -/
def readBytes : List Byte :=
  [0x00#8, 0x00#8, 0x00#8, 0x09#8, 0x01#8, 0x07#8, 0x03#8, 0x01#8, 0x04#8, 0x01#8, 0x79#8, 0xB1#8]

/-- The same request for sector address 5. -/
def elsewhereBytes : List Byte :=
  [0x00#8, 0x05#8, 0x00#8, 0x09#8, 0x01#8, 0x07#8, 0x03#8, 0x01#8, 0x04#8, 0x01#8, 0x0E#8, 0x7D#8]

/-- CASE_OPEN of identity 4,210. -/
def openBytes : List Byte :=
  [0x00#8, 0x00#8, 0x00#8, 0x09#8, 0x01#8, 0x07#8, 0x03#8, 0x09#8, 0x10#8, 0x72#8, 0x51#8, 0x53#8]

/-- CREW JOB under tag 31. -/
def jobBytes : List Byte :=
  [0x00#8, 0x00#8, 0x00#8, 0x09#8, 0x03#8, 0x07#8, 0x05#8, 0x1F#8, 0x05#8, 0x00#8, 0x00#8, 0x00#8, 0x8D#8, 0x0A#8]

/-- The car record of `reportBytes`. -/
def reported : CarReport := ⟨.normal, 30150, 512, 72, .occupied, .closed, false, 9, false, false, 6⟩

theorem test_judge_report : judgeWindow 5 false (.frame reportBytes) = .report reported := by decide +kernel

theorem test_judge_panel :
    judgeWindow 16 false (.frame panelBytes) = .panel ⟨some 34, true, some .arrived, none, false, 2, 0#4⟩ := by
  decide +kernel

/-- R173: a good check and a code outside its list, doors 3 and request 11. -/
theorem test_judge_unlisted :
    judgeWindow 5 false (.frame (lineFrame [2#8, 0#8, 0x75#8, 0xC6#8, 0x80#8, 0x00#8, 0x48#8, 0x30#8, 0x96#8])) = .silent true ∧
    judgeWindow 16 false (.frame (lineFrame [3#8, 0x22#8, 0x58#8, 0x00#8, 0x00#8, 0x40#8])) = .silent true := by decide +kernel

theorem test_judge_wrong_check : judgeWindow 5 false (.frame (reportBytes.set 10 0x38#8)) = .silent true := by
  decide +kernel

theorem test_near_frames :
    (readTrunk readBytes).bind (fun f => decodeMgmt f.body) = some (.read 4 1) ∧
    (readTrunk openBytes).bind (fun f => decodeMgmt f.body) = some (.caseOpen 4210) ∧
    (readTrunk jobBytes).map TrunkFrame.body = some [31#8, 5#8, 0#8, 0#8, 0#8] ∧
    readTrunk (readBytes.set 11 0xB0#8) = none := by decide +kernel

/-- A START of {5, 16} with INHIBIT to slot 5, as the line carries it. -/
theorem test_start_bytes : StartFrame.bytes ⟨0#8, .continuous, [5, 16], none, some (.toCar 5 .inhibit)⟩ =
    [0x01#8, 0x00#8, 0x20#8, 0x01#8, 0x00#8, 0x20#8, 0x05#8, 0x01#8, 0x00#8, 0x00#8, 0x00#8, 0x00#8, 0xD2#8, 0x04#8] := by
  decide +kernel

/-! ### One step of the commands -/

/-- Section 8.1.1: the written divisors become the running ones at the tick's end. -/
theorem test_tick_end : sees .tickEnd { State.reset with
      settings := { State.reset.settings with d2 := 50 }, time := { State.reset.time with stamp := 500000#32 } }
    (fun t => decide (t.time = ⟨2048, 50, 0, 0, false, 500001#32⟩)) = true := by decide

/-- R142: the hundredth carry of the first stage ends the tick. -/
theorem test_carry : sees .firstStageCarry { State.reset with time := { State.reset.time with secondStage := 98 } }
      (fun t => t.time.secondStage == 99 && t.time.stamp == 0#32) = true ∧
    sees .firstStageCarry { State.reset with time := { State.reset.time with secondStage := 99 } }
      (fun t => t.time.secondStage == 0 && t.time.stamp == 1#32) = true := by decide

/-- R142: with the shortest divisors, the fourth period of the reference clock ends the tick, and the third does not. -/
theorem test_clock : let s : State := { State.reset with time := ⟨2, 2, 0, 0, false, 7#32⟩ }
    (State.clockPeriod^[3] s).time = ⟨2, 2, 1, 1, false, 7#32⟩ ∧
    (State.clockPeriod^[4] s).time = ⟨2048, 100, 0, 0, false, 8#32⟩ := by decide

/-- Section 11.4 and the opening of chapter 11: the bytes of an absent field are 0, as many as those of a present one. -/
theorem test_absent_widths : let r : CarRecord := reported.decoded false
    let m : PendingCommand := ⟨.inhibit, .procedure⟩
    let q : Release := ⟨.awaitHold, 4, .down, 1, 7750, 20, 2, 6, 0, .running 50⟩
    let d : LiftDynamic := .entered .unseen
    let c : CrewView := ⟨⟨true, 31, Vector.replicate 4 true, 0⟩, true, false, [], none, none, none, 0⟩
    LiftDynamic.bytes { d with lastReport := some r } ≠ d.bytes ∧
    (LiftDynamic.bytes { d with lastReport := some r }).length = d.bytes.length ∧
    (Case.bytes { Case.free with pending := some m, release := some q } 0).length = (Case.free.bytes 0).length ∧
    (CrewView.bytes { c with offer := some (0, 812#16, .running 300) }).length = c.bytes.length ∧
    (CrewView.bytes { c with offerLost := some 1#16, logged := some 4 }).length = c.bytes.length := by decide

/-- R102, R145: a timer that has run out is shown stopped, but a window timer whose mark is set as run out. -/
theorem test_timer_bytes : timerBytes .due = [0#8, 0#8, 0#8] ∧ timerBytes (.running 300) = [1#8, 1#8, 44#8] ∧
    windowTimerBytes false .due = [0#8, 0#8, 0#8] ∧ windowTimerBytes true .stopped = [2#8, 0#8, 0#8] := by decide

/-- Section 12.3, end of 401,230. -/
theorem test_escalation : sees (.escalationTimerExpiry 0)
    (rescue .stalled fun r => { r with urgency := 0, interval := 1200, escalation := .due, declined := [2] })
    (fun t => let r := t.caseAt 0
      r.urgency == 0 && r.escalations == 1 && r.declined == [] && r.escalation == .running 1200 &&
      kinds t == [.escalated]) = true := by decide

/-- Section 5.10, end of 200,450. -/
theorem test_offer_expiry : sees (.offerTimerExpiry 2)
    (crewed (rescue .stalled fun r => { r with dispatch := .offered, crew := some 2, declined := [5] })
      fun d => { d with offer := some ⟨0, .due⟩ })
    (fun t => let r := t.caseAt 0
      r.dispatch == .waiting && r.crew == none && r.declined == [5, 2] && (t.crew 2).dyn.offer == none &&
      kinds t == [.offerExpired, .call]) = true := by decide

/-- Section 12.2, 400,015: the fourth report out of the zone makes the lift STALLED, and STALL opens a case. -/
theorem test_stall_opens : sees (.answerWindowClose 1 (.frame reportBytes))
    (cycling (let s := car .halted
      s.setDyn 21 { (s.lift 21).dyn with stopCount := 3, pressBaseline := some 9 }) [5] 5)
    (fun t => (t.lift 21).dyn.state == .stalled && (t.lift 21).dyn.openCase == some 0 && t.lamp &&
      (t.caseAt 0).urgency == 2 && (t.caseAt 0).interval == 1800 && (t.caseAt 0).occupancyCounted &&
      (t.line 1).state == .waitInterval && kinds t == [.opened, .call, .handover]) = true := by decide +kernel

/-- Section 12.4, 401,920: the crew's arrival by panel. -/
theorem test_arrival_by_panel : sees (.answerWindowClose 1 (.frame panelBytes))
    (cycling (panelled ((crewed (rescue .stalled fun r => { r with
        dispatch := .assigned, crew := some 2, window := ⟨.stopped, .running 1790, true, false⟩ })
        fun d => { d with held := [0], logged := some 4, implausible := 1 }).setCrew 2
          ⟨⟨true, 34, Vector.replicate 4 true, 0⟩, ⟨true, false, [0], none, none, some 4, 1⟩⟩)
        fun d => { d with logged := some 34, toggle := some false, pressNumber := 2 }) [16] 16)
    (fun t => (t.caseAt 0).dispatch == .onSite && (t.caseAt 0).escalation == .stopped &&
      (t.caseAt 0).window.maxTimer == .stopped && (t.caseAt 0).seen.crewArrived &&
      (t.line 1).answers[0].any (fun a => a.code == .ok && a.crewTag == 34) && kinds t == [.arrived, .handover]) =
      true := by decide +kernel

/-- Section 1.9, the first START: of two cases of urgency 2, the lower record's command. -/
theorem test_start_command : (((rescue .stalled fun r => { r with
        pending := some ⟨.announce 1, .procedure⟩ }).setCase 5 { case812 with
        pending := some ⟨.inhibit, .procedure⟩ }).select 1 [5]).command = some (.toCar 5 (.announce 1)) := by decide

/-- Section 3.10's panel and R13: work for a line in QUIET_IDLE ends it. -/
theorem test_wake : sees (.wake 1 []) (lineB (car .parked) fun r => { r with state := .quietIdle, mode := .quiet })
    (fun t => (t.line 1).state == .cycle && (t.line 1).currentSlot == some 5 &&
      (t.line 1).lastStart == some ⟨0, .quiet, [5], some .unknown, none⟩) = true := by decide +kernel

/-- R148, R149: a frame for this address is answered, one for another address is forwarded only while FAR is UP. -/
theorem test_near_received :
    sees (.nearFrameReceived readBytes) { State.reset with trunk := { State.reset.trunk with
        nearUp := true, nearTx := some (.relayed []) } } (fun t => codes t == [.ok]) = true ∧
    sees (.nearFrameReceived elsewhereBytes) { State.reset with trunk := { State.reset.trunk with
        nearUp := true, nearTx := some (.relayed []) } } (fun t => t.trunk.counters.forwardDrops == 1) = true := by
  decide +kernel

/-- Section 9.4.1: a notice offered to a full queue displaces the oldest summary; the next one is owed. -/
theorem test_full_queue :
    let full (b : OwnBody) : State := (fun s => { s with trunk := { s.trunk with
      own := ⟨0#16, 0#16, 0#8, b⟩ :: List.replicate 31 ⟨0#16, 0#16, 0#8, .crewAnswer .ok 0#8 none none⟩ } })
      (rescue .stalled fun r => { r with escalation := .due })
    sees (.escalationTimerExpiry 0) (full (.summary ⟨1, 0#32, .parked, none⟩))
      (fun t => t.trunk.own.length == 32 && t.trunk.counters.summaryDrops == 1 && !(t.caseAt 0).owed) = true ∧
    sees (.escalationTimerExpiry 0) (full (.crewAnswer .ok 0#8 none none))
      (fun t => t.trunk.own.length == 32 && (t.caseAt 0).owed && t.trunk.sequence == 1#8) = true := by decide +kernel

/-- Section 2.5, writes 2, 3, 5 and 6. -/
theorem test_write_lift :
    sees (.writeLift org 21 { liftOk with landings := [0, 61800, 22400] }) (car .parked) (codes · == [.badValue]) = true ∧
    sees (.writeLift org 21 { liftOk with doorZone := 10, reach := 80000 }) (car .parked) (fun t => codes t == [.clamped] &&
      (t.lift 21).config.doorZone == 25 && (t.lift 21).config.reach == 60000) = true ∧
    sees (.writeLift org 21 { liftOk with shared := 1, doorZone := 400 }) (car .parked) (fun t => codes t == [.badValue] &&
      (t.lift 21).config.doorZone == 75) = true ∧
    sees (.writeLift org 21 { liftOk with enabled := 0 }) (rescue .parked id) (codes · == [.locked]) = true := by
  decide +kernel

/-- Section 10.8, the settings writes. -/
theorem test_write_settings :
    sees (.writeSectorSettings org 0 { settingsOk with
        offerTimeout := 5, tieMode := 1, lines := settingsOk.lines.set 1 { lineOk with answerWindow := 30 } }) State.reset
      (fun t => codes t == [.clamped] && t.settings.offerTimeout == 10 && t.settings.tieMode == .rotate &&
        (t.lineSettings 1).answerWindow == 20) = true ∧
    sees (.writeSectorSettings org 0 { settingsOk with lines := settingsOk.lines.set 0 { lineOk with defaultMode := 2 } })
      State.reset (fun t => codes t == [.badValue] && decide (t.settings = State.reset.settings)) = true := by decide

/-- Section 10.8: CASE_OPEN opens a case of urgency 4, opening again changes nothing, 9,999 is no identity. -/
theorem test_case_open :
    sees (.caseOpen org 4210) { car .parked with serial := 601 } (fun t => codes t == [.ok] && t.serial == 602 &&
      (t.caseAt 0).urgency == 4 && (t.caseAt 0).serial == 601 && kinds t == [.opened, .call, .handover]) = true ∧
    sees (.caseOpen org 4210) (rescue .parked fun r => { r with causes := ⟨false, false, false, false, true⟩ })
      (fun t => codes t == [.ok] && kinds t == []) = true ∧
    sees (.caseOpen org 9999) (car .parked) (codes · == [.badIndex]) = true := by decide

/-- Section 10.8: CASE_CLOSE, then the refused and the forced restart. -/
theorem test_case_close_and_restart :
    sees (.caseClose org 812) (rescue .parked id) (fun t => codes t == [.ok] && kinds t == [.closed] && !t.lamp &&
      (t.caseAt 0).record == .free && (t.lift 21).dyn.openCase == none) = true ∧
    sees (.caseClose org 601) (rescue .parked id) (codes · == [.badIndex]) = true ∧
    sees (.warmRestart org 0) (rescue .parked id) (codes · == [.busy]) = true ∧
    sees (.warmRestart org 1) (rescue .parked id) (fun t => kinds t == [.restarted] && codes t == [.ok] &&
      (t.caseAt 0).record == .free && t.trunk.sequence == 1#8) = true := by decide +kernel

/-- Section 10.8: LINE_DISABLE with a case open on the line. -/
theorem test_line_disable : sees (.lineDisable org 1)
    (lineB (rescue .parked id) fun r => { r with state := .waitInterval })
    (fun t => codes t == [.busy] && (t.line 1).state == .waitInterval) = true := by decide

/-- Section 12.3: JOB, DECLINE and ACCEPT. -/
theorem test_offer_answers :
    sees (.job byTrunk 31) (crewed (rescue .stalled id) id) (fun t => codes t == [.offer] && kinds t == [.offered] &&
      (t.caseAt 0).dispatch == .offered && (t.crew 2).dyn.offer == some ⟨0, .running 300⟩) = true ∧
    sees (.decline byTrunk 31 none) (crewed (rescue .stalled fun r => { r with dispatch := .offered, crew := some 2 })
        fun d => { d with offer := some ⟨0, .running 250⟩ })
      (fun t => codes t == [.ok] && kinds t == [.declined, .call] && (t.caseAt 0).declined == [2]) = true ∧
    sees (.accept byTrunk 31 none) (crewed { rescue .stalled (fun r => { r with dispatch := .offered, crew := some 2 }) with
          travel := State.reset.travel.set 1 ⟨600, 2400⟩ } fun d => { d with offer := some ⟨0, .running 290⟩ })
      (fun t => codes t == [.ok] && kinds t == [.accepted] && (t.crew 2).dyn.held == [0] &&
        (t.caseAt 0).window == ⟨.running 600, .running 2400, false, false⟩) = true := by decide

/-- Section 12.5, 402,400: STAND_DOWN with SHARED still true puts SHARED back, and a fresh case opens. -/
theorem test_stand_down_reopens : sees (.standDown byTrunk 31 none)
    (crewed (panelled ((rescue .parked fun r => { r with dispatch := .cleared, crew := some 2 }).setDyn 21
        { (lift21 .parked).dyn with truth := ⟨false, true, true, false, false⟩, openCase := some 0 })
        fun d => { d with inputs := 2#4 }) fun d => { d with held := [0] })
    (fun t => kinds t == [.closed, .opened, .call, .handover] && (t.caseAt 0).record == .opened &&
      (t.caseAt 0).causes == ⟨false, false, true, false, false⟩ && (t.caseAt 0).urgency == 3 &&
      (t.crew 2).dyn.held == []) = true := by decide +kernel

/-- R46, R74: after a LINE_RESET a silent slot finds SILENT false, and what was kept holds the case open; the first taken report
withdraws it. -/
theorem test_reset_keeps_truth :
    let s := lineB ((rescue .silent fun r => { r with
        causes := ⟨false, false, false, true, false⟩, procedure := .free }).setDyn 21 { (lift21 .silent).dyn with
          truth := ⟨false, false, false, true, false⟩, openCase := some 0 }) fun r => { r with state := .cycle }
    let t := after (.answerWindowClose 1 .nothing) (after (.lineReset org 1) s)
    (t.lift 21).dyn.state = .unseen ∧ (t.lift 21).dyn.silenceCount = 1 ∧ (t.lift 21).dyn.truth.silent = false ∧
    (t.lift 21).standingTruth.silent = true ∧ t.isOpen 0 = true ∧
    (after (.answerWindowClose 1 (.frame reportBytes)) (cycling t [5, 16] 5)).isOpen 0 = false := by
  decide +kernel

/-- R58: of two OPEN records with one serial, an ACCEPT names the lower, which is not offered. -/
theorem test_accept_names_the_lower : sees (.accept byTrunk 31 (some 812#16))
    (crewed ((rescue .stalled id).setCase 5 { case812 with dispatch := .offered, crew := some 2 })
      fun d => { d with offer := some ⟨5, .running 1⟩ })
    (fun t => codes t == [.wrongState] && (t.caseAt 5).dispatch == .offered) = true := by decide

/-- Section 12.4, 401,925: a fresh press in AWAIT_HOLD. -/
theorem test_hold : let q : Release := ⟨.awaitHold, 4, .down, 1, 7750, 20, 2, 6, 0, .stopped⟩
    ((holdChange (rescue .stalled fun r => { r with release := some q }) 0 4 false true 3).caseAt 0).release =
      some { q with sub := .awaitChain, lastPress := 3 } := by decide

/-! ### States and operands that meet the statements' hypotheses -/

/-- On a state with both links DOWN neither transmitter can begin. -/
theorem busy_down {s : State} (h : s.trunk.nearUp = false ∧ s.trunk.farUp = false) : s.Busy := by simp [State.Busy, h]

/-- Room in the own queue on a state with both links DOWN. -/
theorem ready_down {s : State} {n : Nat} (h : s.trunk.nearUp = false ∧ s.trunk.farUp = false ∧ s.trunk.own.length + n ≤ 32) :
    s.Ready n := ⟨busy_down ⟨h.1, h.2.1⟩, h.2.2⟩

/-- A crew request by trunk can be answered on a state with both links DOWN. -/
theorem answers_down {s : State} {n : Nat}
    (h : s.trunk.nearUp = false ∧ s.trunk.farUp = false ∧ s.trunk.own.length + n ≤ 32) : s.Answers byTrunk n :=
  ⟨ready_down h, fun p hp => by cases hp⟩

/-- The own queue filled to `n` frames. -/
def filled (s : State) (n : Nat) : State :=
  { s with trunk := { s.trunk with own := List.replicate n ⟨0#16, 0#16, 0#8, .crewAnswer .ok 0#8 none none⟩ } }

theorem witness_StepHandlesTheFrontCommand : State.reset.pending = [] := rfl

/-- At the bound: 32 frames and 31. -/
theorem witness_EveryHandlingComesToItsEnd : (filled (car .parked) 32).trunk.own.length ≤ 32 ∧
    (filled (car .parked) 31).trunk.own.length ≤ 32 := by decide

/-- The queue of waiting commands is `cs`. -/
def waiting (s : State) (cs : List Instr) : State := { s with pending := cs }

/-- Case 813 on lift 22, taken by crew record 2. -/
def case813 : Case := { case812 with lift := 22, dispatch := .onSite, crew := some 2 }

/-- Case 812 offered to crew record 2. -/
def offered812 (r : Case) : Case := { r with dispatch := .offered, crew := some 2 }

/-- An offer of record 0 and the held record 15. -/
def busyCrew (d : CrewDynamic) : CrewDynamic := { d with offer := some ⟨0, .running 1⟩, held := [15] }

/-- A state that every kept property holds of, with an open offer, a held case and a full own queue, and a tick's end waiting. -/
def kept : State :=
  waiting (filled (crewed ((rescue .stalled offered812).setCase 15 case813) busyCrew) 32) [.tickEnd]

theorem witness_StepsKeepEveryBound : kept.QueuesBounded ∧ kept.DivisorsSound ∧ kept.CountersBounded ∧
    step kept = .next (after .tickEnd (waiting kept [])) :=
  ⟨⟨by decide, by decide, by decide, by decide⟩, ⟨by decide, by decide, by decide, by decide, by decide, by decide⟩,
   ⟨by decide, by decide, by decide, by decide, by decide, by decide, by decide, by decide, by decide⟩, rfl⟩

theorem witness_StepsKeepNamesApartAndTheRotationWhole :
    kept.IdentitiesApart ∧ kept.TagsApart ∧ kept.RotationWhole ∧
    step kept = .next (after .tickEnd (waiting kept [])) :=
  ⟨by unfold State.IdentitiesApart; decide +kernel, by unfold State.TagsApart; decide +kernel,
   List.Perm.refl _, rfl⟩

theorem witness_StepsKeepDispatchSound : kept.DispatchSound ∧
    step kept = .next (after .tickEnd (waiting kept [])) :=
  ⟨{ offered := by
       have h : ∀ k, (kept.crew k).dyn.offer = if k = 2 then some ⟨0, .running 1⟩ else none := by decide
       intro k o ho
       rw [h] at ho
       split at ho
       · next hk => cases ho; subst hk; decide
       · cases ho
     named := by
       intro c h1 h2
       refine ⟨2, ⟨0, .running 1⟩, by decide, ?_⟩
       revert c; decide
     held := by decide
     kept := by decide
     once := by decide
     room := by decide }, rfl⟩

theorem inRange_of {r : Case} (h : r.urgency ≤ 7 ∧ r.escalations ≤ 15 ∧ r.presses ≤ 255 ∧ r.procedure.retry ≤ 15 ∧
    r.pulses ≤ 63 ∧ r.release = none) : r.InRange :=
  ⟨h.1, h.2.1, h.2.2.1, h.2.2.2.1, h.2.2.2.2.1, by simp [h.2.2.2.2.2]⟩

theorem kept_cases : ∀ c, let r := kept.caseAt c
    r.urgency ≤ 7 ∧ r.escalations ≤ 15 ∧ r.presses ≤ 255 ∧ r.procedure.retry ≤ 15 ∧ r.pulses ≤ 63 ∧ r.release = none := by
  decide +kernel

theorem witness_StepsKeepCaseRecordsSound : kept.CasesInRange ∧ kept.ClosedHoldNothing ∧ kept.LampTrue ∧
    step kept = .next (after .tickEnd (waiting kept [])) :=
  ⟨fun c => inRange_of (kept_cases c), by unfold State.ClosedHoldNothing; decide, by unfold State.LampTrue; decide, rfl⟩

theorem kept_truth : ∀ i, let r := kept.lift i
    (r.dyn.state = .disabled ↔ r.config.enabled = false) ∧ r.dyn.truth = .empty := by decide +kernel

theorem witness_StepsKeepCauseTruthSound : kept.TruthSound ∧
    step kept = .next (after .tickEnd (waiting kept [])) :=
  ⟨fun i => ⟨(kept_truth i).1, by rw [(kept_truth i).2]; rfl, by rw [(kept_truth i).2]; intro c; cases c <;> simp [CauseSet.has, CauseSet.empty],
     fun _ => (kept_truth i).2⟩, rfl⟩

theorem witness_OpenCasesOnlyImprove : let s := rescue .stalled fun r => { r with escalation := .due }
    let t := after (.escalationTimerExpiry 0) s
    exec (.escalationTimerExpiry 0) s = .next t ∧ t.serial = s.serial ∧ s.isOpen 0 = true ∧ t.isOpen 0 = true ∧
      s.CasesInRange :=
  ⟨rfl, by decide, by decide, by decide, fun c => inRange_of (by revert c; decide)⟩

theorem witness_TablesChangeOnlyByTheirWrites :
    exec .tickEnd kept = .next (after .tickEnd kept) ∧ Instr.tickEnd ≠ .powerOnReset ∧
    (∀ b, Instr.tickEnd ≠ .nearFrameReceived b) ∧ (∀ o i w, Instr.tickEnd ≠ .writeLift o i w) ∧
    (∀ o i m, Instr.tickEnd ≠ .setForward o i m) ∧ (∀ o i w, Instr.tickEnd ≠ .writePanel o i w) ∧
    (∀ o i w, Instr.tickEnd ≠ .writeCrew o i w) ∧ (∀ o i w, Instr.tickEnd ≠ .writeClass o i w) ∧
    (∀ o i a b, Instr.tickEnd ≠ .writeTravel o i a b) ∧ (∀ o i w, Instr.tickEnd ≠ .writeStep o i w) ∧
    ∀ o i w, Instr.tickEnd ≠ .writeSectorSettings o i w :=
  ⟨rfl, nofun, nofun, nofun, nofun, nofun, nofun, nofun, nofun, nofun, nofun⟩

/-- The second stage one below the running D2, and two below; a tick whose end is to be reported, and one in progress; and the
divisors of section 8.1 with both stages at 0, the last period before the end among those below it. -/
theorem witness_TicksCountEveryTimer : (0 < 1 ∧ 1 < 2) ∧
    98 + 1 < State.reset.time.runningD2 ∧ 99 + 1 = State.reset.time.runningD2 ∧ State.reset.time.tickDue = false ∧
    (after .firstStageCarry { State.reset with time := { State.reset.time with secondStage := 99 } }).time.tickDue = true ∧
    0 < State.reset.time.runningD1 ∧ 0 < State.reset.time.runningD2 ∧ State.reset.time.firstStage = 0 ∧
    State.reset.time.secondStage = 0 ∧ 204799 < State.reset.time.runningD1 * State.reset.time.runningD2 := by decide

theorem witness_ExpiriesWithoutAnOwnerDoNothing :
    (∀ l, (State.reset.line l).intervalTimer ≠ .due ∧ (State.reset.line l).ceilingTimer ≠ .due) ∧
    (∀ c, let r := State.reset.caseAt c
      r.escalation ≠ .due ∧ r.window.minTimer ≠ .due ∧ r.window.maxTimer ≠ .due ∧ r.procedure.timer ≠ .due ∧
        r.release = none) ∧
    (∀ k, (State.reset.crew k).dyn.offer = none) ∧
    (let s := lineB State.reset fun r => { r with intervalTimer := .due, ceilingTimer := .due }
     s.Busy ∧ (s.line 1).state ≠ .waitInterval ∧ (s.line 1).state ≠ .quietIdle ∧ (s.line 1).intervalTimer = .due ∧
       (s.line 1).ceilingTimer = .due) :=
  ⟨by decide, by decide, by decide, busy_down (by decide), by decide⟩

/-- Line B with lift 21 polled and nothing to send, in state `st` with both timers run out. -/
def idleB (st : LineState) : State :=
  lineB (car .parked) fun r => { r with state := st, intervalTimer := .due, ceilingTimer := .due, currentSlot := some 5 }

theorem idleB_nothing (st : LineState) : (idleB st).NothingToSend 1 := by
  cases st <;> exact ⟨by decide +kernel, by decide, by decide⟩

theorem witness_TimersAndWakesBeginOneCycle :
    ((idleB .waitInterval).Busy ∧ (idleB .waitInterval).NothingToSend 1 ∧ (idleB .waitInterval).slotSet 1 = [5] ∧
      ((idleB .waitInterval).line 1).state = .waitInterval ∧ ((idleB .waitInterval).line 1).intervalTimer = .due) ∧
    ((idleB .quietIdle).Busy ∧ (idleB .quietIdle).NothingToSend 1 ∧ (idleB .quietIdle).slotSet 1 = [5] ∧
      ((idleB .quietIdle).line 1).state = .quietIdle ∧ ((idleB .quietIdle).line 1).ceilingTimer = .due) ∧
    ((idleB .cycle).line 1).state = .cycle ∧ ((idleB .cycle).line 1).currentSlot.isSome = true ∧
    ((idleB .off).line 1).state = .off :=
  ⟨⟨busy_down (by decide), idleB_nothing _, by decide, by decide⟩,
   ⟨busy_down (by decide), idleB_nothing _, by decide, by decide⟩, by decide⟩

/-- A release of case 812 in sub-state `sub`. -/
def releaseIn (sub : SubState) : Release := ⟨sub, 4, .down, 1, 7750, 20, 2, 6, 0, .due⟩

/-- Line B in QUIET_IDLE with both timers run out, over the state `s`. -/
def quietB (s : State) : State := lineB s fun r => { r with state := .quietIdle, intervalTimer := .due, ceilingTimer := .due }

/-- Case 812 with the pending command `m`. -/
def commanded (m : PendingCommand) (f : Case → Case) : State := quietB (rescue .stalled fun r => f { r with pending := some m })

/-- The INHIBIT of a procedure. -/
def inhibitP : PendingCommand := ⟨.inhibit, .procedure⟩
/-- The BRAKE_PULSE of sequence 7 of a release. -/
def pulseR : PendingCommand := ⟨.brakePulse 7 .down, .release⟩

/-- A START that carries a routine command; one that no slot takes part in; and one that carries a case's command: of a procedure
that does not wait for it, of one that does, and of a release. -/
theorem witness_StartsCarryCommands :
    (let s := lineB (quietB (car .parked)) fun r => { r with routine := [⟨5, .inhibit⟩] }
     (s.select 1 (s.slotSet 1)).delivered = none ∧ s.Busy ∧ s.slotSet 1 ≠ [] ∧ (s.line 1).state = .quietIdle ∧
       (s.line 1).ceilingTimer = .due) ∧
    ((quietB State.reset).Busy ∧ (quietB State.reset).slotSet 1 = []) ∧
    (let s := commanded inhibitP id
     s.Busy ∧ (s.select 1 (s.slotSet 1)).delivered = some (0, inhibitP) ∧ (s.caseAt 0).procedure.wait ≠ .delivery) ∧
    (let s := filled (commanded inhibitP fun r => { r with procedure := { r.procedure with wait := .delivery } }) 31
     let p := (s.caseAt 0).procedure
     s.Ready 1 ∧ (s.select 1 (s.slotSet 1)).delivered = some (0, inhibitP) ∧ (s.caseAt 0).owed = false ∧ p.status = .running ∧
       p.wait = .delivery ∧ (5 : Fin 16).val = p.step.val + 1 ∧ (s.stepOf { p with step := 5 }).action = 12 ∧
       (s.stepOf { p with step := 5 }).argument = 2) ∧
    (let s := filled (commanded pulseR fun r => { r with release := some (releaseIn .pulsePending) }) 31
     s.Ready 1 ∧ (s.select 1 (s.slotSet 1)).delivered = some (0, pulseR) ∧ (s.caseAt 0).owed = false ∧
       (s.caseAt 0).release = some (releaseIn .pulsePending)) :=
  ⟨⟨by decide, busy_down (by decide), by decide⟩, ⟨busy_down (by decide), by decide⟩, ⟨busy_down (by decide), by decide⟩,
   ⟨ready_down (by decide), by decide⟩, ready_down (by decide), by decide⟩

/-- Case 812 with its escalation timer due, one escalation below its handover limit of 3. -/
def atLimit (f : Case → Case) : State := rescue .stalled fun r => f { r with escalation := .due, escalations := 2 }

theorem witness_CaseTimersReachTheLimit :
    (let s := filled (atLimit id) 30
     s.Ready 2 ∧ s.isOpen 0 = true ∧ (s.caseAt 0).escalation = .due ∧ (s.caseAt 0).owed = false ∧
       (s.caseAt 0).limit ≤ min 15 ((s.caseAt 0).escalations + 1) ∧ (s.caseAt 0).procedure.status = .running) ∧
    ((atLimit fun r => { r with procedure := .free }).caseAt 0).procedure.status ≠ .running :=
  ⟨⟨ready_down (by decide), by decide⟩, by decide⟩

theorem witness_CaseTimersImproveTheUrgency :
    (let s := rescue .stalled fun r => { r with escalation := .due, escalations := 1 }
     s.Ready 1 ∧ s.isOpen 0 = true ∧ (s.caseAt 0).escalation = .due ∧ (s.caseAt 0).owed = false ∧
       min 15 ((s.caseAt 0).escalations + 1) < (s.caseAt 0).limit) ∧
    (let s := rescue .stalled fun r => { r with dispatch := .assigned, window := ⟨.due, .due, false, false⟩ }
     (s.caseAt 0).window.minTimer = .due ∧ (s.caseAt 0).window.maxTimer = .due ∧ s.isOpen 0 = true ∧
       (s.caseAt 0).dispatch = .assigned ∧ s.Ready 1 ∧ (s.caseAt 0).owed = false) ∧
    (let s := rescue .stalled fun r => { r with dispatch := .onSite, window := ⟨.stopped, .due, false, false⟩ }
     (s.caseAt 0).window.maxTimer = .due ∧ (s.caseAt 0).dispatch ≠ .assigned ∧ s.Busy) :=
  ⟨⟨ready_down (by decide), by decide⟩, ⟨by decide, by decide, by decide, by decide, ready_down (by decide), by decide⟩,
   by decide, by decide, busy_down (by decide)⟩

/-- Crew record 2 with case 812 offered to it, the offer's timer standing at `t`. -/
def offered (t : Timer) : State :=
  crewed (rescue .stalled fun r => { r with dispatch := .offered, crew := some 2 }) fun d => { d with offer := some ⟨0, t⟩ }

/-- Two places left in the own queue. -/
theorem witness_OfferExpiryReturnsTheCase : let s := filled (offered .due) 30
    s.Ready 2 ∧ (s.crew 2).dyn.offer = some ⟨0, .due⟩ ∧ (s.caseAt 0).owed = false :=
  ⟨ready_down (by decide), by decide⟩

/-- Case 812 on site, waiting at its RELEASE step for a release in sub-state `sub`, changed by `f`. -/
def releasing (sub : SubState) (f : Case → Case) : State :=
  rescue .stalled fun r => f { r with
    dispatch := .onSite, crew := some 2, release := some (releaseIn sub)
    procedure := { r.procedure with wait := .release, timer := .due } }

theorem witness_StepAndSettleTimersEndAWaitedRelease : let s := filled (releasing .settling id) 30
    s.Ready 2 ∧ s.isOpen 0 = true ∧ (s.caseAt 0).owed = false ∧ (s.caseAt 0).release = some (releaseIn .settling) ∧
    (s.caseAt 0).procedure.status = .running ∧ (s.caseAt 0).procedure.wait = .release ∧
    (s.caseAt 0).procedure.timer = .due ∧ (releaseIn .settling).settle = .due ∧
    let p := (s.caseAt 0).procedure
    let at' := { p with step := (s.stepOf p).target, onCommon := (s.stepOf p).common }
    (s.stepOf at').action = 12 ∧ (s.stepOf at').argument = 2 :=
  ⟨ready_down (by decide), by decide⟩

theorem witness_StepAndSettleTimersEndTheirWaits :
    (let s := rescue .stalled fun r => { r with procedure := { r.procedure with wait := .delivery, timer := .due } }
     s.Ready 1 ∧ s.isOpen 0 = true ∧ (s.caseAt 0).owed = false ∧ (s.caseAt 0).procedure.status = .running ∧
       (s.caseAt 0).procedure.timer = .due ∧ (s.caseAt 0).procedure.wait = .delivery ∧
       let p := (s.caseAt 0).procedure
       let at' := { p with step := (s.stepOf p).target, onCommon := (s.stepOf p).common }
       (s.stepOf at').action = 12 ∧ (s.stepOf at').argument = 2) ∧
    (let s := rescue .stalled fun r => { r with procedure := { r.procedure with timer := .due } }
     s.Ready 1 ∧ (s.caseAt 0).procedure.wait = .event .crewArrived ∧ (s.caseAt 0).procedure.timer = .due) ∧
    (let s := rescue .stalled fun r => { r with release := some (releaseIn .settling) }
     s.Ready 1 ∧ s.isOpen 0 = true ∧ (s.caseAt 0).owed = false ∧ (s.caseAt 0).release = some (releaseIn .settling) ∧
       (releaseIn .settling).sub = .settling ∧ (releaseIn .settling).settle = .due ∧
       (s.caseAt 0).procedure.wait ≠ .release) :=
  ⟨⟨ready_down (by decide), by decide⟩, ⟨ready_down (by decide), by decide⟩, ready_down (by decide), by decide⟩

/-- Line B polling lift 21 and panel 4, the window of `slot` open. -/
def polled (st : LiftState) (slot : Slot) : State := cycling (panelled (car st) id) [5, 16, 17] slot

/-- A report with the door zone's edge: 75 above landing 1, standing. -/
def edgeReport : List Byte := lineFrame [0x02#8, 0x00#8, 0x57#8, 0xCB#8, 0x80#8, 0x00#8, 0x48#8, 0x80#8, 0x96#8]

theorem witness_WindowsHandOnTheirOutcome :
    (let s := (polled .parked 5).setDyn 21 { (lift21 .parked).dyn with silenceCount := 1 }
     s.Busy ∧ (s.line 1).state = .cycle ∧ (s.line 1).currentSlot = some (carSlot 5) ∧ (s.line 1).collided = false ∧
       (s.line 1).slotSet.find? (fun x => carSlot 5 < x) = some 16 ∧ (s.lift 21).config.enabled = true ∧
       (s.lift 21).dyn.truth = .empty ∧ s.truthOf 21 = .empty ∧
       min 15 ((s.lift 21).dyn.silenceCount + 1) < (s.lift 21).config.silence) ∧
    (let s := polled .parked 16
     s.Busy ∧ (s.line 1).state = .cycle ∧ (s.line 1).currentSlot = some (panelSlot 0) ∧
       (s.line 1).slotSet.find? (fun x => panelSlot 0 < x) = some 17 ∧ (s.panel (panelAt 1 0)).dyn.hold = false) ∧
    (let s := (polled .parked 5).setLift 21 ⟨{ (lift21 .parked).config with
         stall := ⟨false, .level⟩, alarm := ⟨false, .edge⟩, shared := ⟨false, .level⟩, silent := ⟨false, .level⟩
         manual := ⟨false, .edge⟩, forwarding := .all }, (lift21 .parked).dyn⟩
     s.Ready 1 ∧ (s.line 1).state = .cycle ∧ (s.line 1).currentSlot = some (carSlot 5) ∧
       (s.line 1).slotSet.find? (fun x => carSlot 5 < x) = some 16 ∧
       judgeWindow (carSlot 5) (s.line 1).collided (.frame edgeReport) = .report { reported with position := 22475 } ∧
       (s.lift 21).config.enabled = true ∧ (s.lift 21).dyn.openCase = none ∧ (s.lift 21).dyn.truth = .empty ∧
       ((s.lift 21).config.cause .stall).enabled = false ∧ ((s.lift 21).config.cause .alarm).enabled = false ∧
       ((s.lift 21).config.cause .shared).enabled = false ∧ ((s.lift 21).config.cause .silent).enabled = false ∧
       ((s.lift 21).config.cause .manual).enabled = false ∧ (s.lift 21).config.forwarding ≠ .changes) :=
  ⟨⟨busy_down (by decide), by decide⟩, ⟨busy_down (by decide), by decide⟩, ready_down (by decide), by decide +kernel⟩

/-- Panel 4's window is the last of a cycle of line B, whose interval timer and ceiling timer stand at `interval` and `ceiling`. -/
def lastWindow (s : State) (interval ceiling : Timer) : State :=
  lineB (cycling (panelled s id) [5, 16] 16) fun r => { r with intervalTimer := interval, ceilingTimer := ceiling }

/-- No line's default mode is CONTINUOUS. -/
def allQuiet (s : State) : State := { s with settings := { s.settings with lines := Vector.replicate 4 ⟨.quiet, 5, 50, 6⟩ } }

/-- A silent panel slot, a slot no longer enabled; a last window that leaves the line waiting, quiet, or with a START at once. -/
theorem witness_WindowsCloseTheCycle :
    (let s := polled .parked 16
     (16 : Slot) = panelSlot 0 ∧ (s.panel (panelAt 1 0)).dyn.hold = false ∧
       judgeWindow 16 (s.line 1).collided .unfinished = .silent true ∧ (s.line 1).slotSet.find? (fun x => (16 : Slot) < x) = some 17) ∧
    (let s := cycling (car .parked) [6, 7] 6
     s.Busy ∧ (s.line 1).currentSlot = some 6 ∧ (6 : Slot) = carSlot 6 ∧ (s.lift (liftAt 1 6)).config.enabled = false ∧
       (s.panel (panelAt 1 1)).config.enabled = false) ∧
    (∀ t ∈ [Timer.running 1, .due], let s := lastWindow (car .parked) t .stopped
     s.Busy ∧ (s.line 1).state = .cycle ∧ (s.line 1).currentSlot = some 16 ∧ (s.line 1).intervalTimer = t ∧
       (s.line 1).slotSet.find? (fun x => (16 : Slot) < x) = none ∧ s.KeepsPolling 1 ∧ s.NothingToSend 1 ∧ s.slotSet 1 = [5, 16]) ∧
    ∀ t ∈ [Timer.running 1, .stopped], let s := allQuiet (lastWindow (car .parked) .due t)
      s.Busy ∧ (s.line 1).currentSlot = some 16 ∧ (s.line 1).ceilingTimer = t ∧ ¬ s.KeepsPolling 1 ∧ s.NothingToSend 1 ∧
      s.slotSet 1 = [5, 16] := by
  refine ⟨by decide, ⟨busy_down (by decide), by decide⟩, fun t ht => ?_, fun t ht => ?_⟩ <;>
    simp only [List.mem_cons, List.not_mem_nil, or_false] at ht <;> rcases ht with rfl | rfl
  · exact ⟨busy_down (by decide), by decide, by decide, by decide, by decide, .inl (by decide),
      ⟨by decide +kernel, by decide, by decide⟩, by decide⟩
  · exact ⟨busy_down (by decide), by decide, by decide, by decide, by decide, .inl (by decide),
      ⟨by decide +kernel, by decide, by decide⟩, by decide⟩
  · exact ⟨busy_down (by decide), by decide, by decide, by unfold State.KeepsPolling; decide +kernel,
      ⟨by decide +kernel, by decide, by decide⟩, by decide⟩
  · exact ⟨busy_down (by decide), by decide, by decide, by unfold State.KeepsPolling; decide +kernel,
      ⟨by decide +kernel, by decide, by decide⟩, by decide⟩

/-- Panel 4's answer with the logged crew `who` and the inputs `m` (1 in bit 7 to 4 of the last byte), no request. -/
def panelFrame (who hold : Byte) : WindowHeld := .frame (lineFrame [0x03#8, who, 0x00#8, 0x00#8, 0x00#8, hold])

/-- Line B polling panel 4, its dynamic fields changed by `f`, with crew record 2 changed by `g`, over the state `s`. -/
def carded (s : State) (f : PanelDynamic → PanelDynamic) (g : CrewDynamic → CrewDynamic) : State :=
  cycling (panelled (crewed s g) f) [16, 17] 16

/-- The window of panel 4 holds a panel frame whose judgement is a PANEL answer. -/
structure PanelAnswered (s : State) (held : WindowHeld) (r : PanelReport) : Prop where
  ready : s.Ready 1
  line : (s.line 1).state = .cycle ∧ (s.line 1).currentSlot = some (panelSlot 0) ∧
    (s.line 1).slotSet.find? (fun x => panelSlot 0 < x) = some 17
  judged : judgeWindow (panelSlot 0) (s.line 1).collided held = .panel r
  enabled : (s.panel (panelAt 1 0)).config.enabled = true
  inputs : r.inputs = (s.panel (panelAt 1 0)).dyn.inputs
  toggle : (s.panel (panelAt 1 0)).dyn.toggle = none

/-- A first answer with no card; a card taken out; one put in by crew record 2, with no case, with a case it has driven to
long enough, and with one it has not; a request whose toggle differs. -/
theorem witness_PanelAnswersAreHandedOn :
    PanelAnswered (carded State.reset id id) (panelFrame 0#8 0x60#8) ⟨none, false, none, none, false, 3, 0#4⟩ ∧
    (let s := carded (releasing .pulsePending fun r => { r with procedure := .free })
       (fun d => { d with logged := some 31 }) fun d => { d with logged := some 4 }
     PanelAnswered s (panelFrame 0#8 0#8) ⟨none, false, none, none, false, 0, 0#4⟩ ∧
       (s.panel (panelAt 1 0)).dyn.logged = some 31 ∧ s.resolveTag 31 = some 2 ∧ s.isOpen 0 = true ∧
       (s.caseAt 0).release = some (releaseIn .pulsePending) ∧ (releaseIn .pulsePending).panel = panelAt 1 0 ∧
       (s.caseAt 0).crew = some 2 ∧ (∀ e, e ≠ 0 → s.isOpen e = false) ∧ (s.caseAt 0).owed = false ∧
       (s.caseAt 0).procedure.status ≠ .running) ∧
    (∀ here ∈ [true, false], let s := carded (rescue .stalled fun r => { r with
         dispatch := .assigned, crew := some 2, window := ⟨.stopped, .running 1, here, false⟩
         procedure := { r.procedure with wait := .none } }) id fun d => { d with held := [0] }
       PanelAnswered s (panelFrame 31#8 0#8) ⟨some 31, false, none, none, false, 0, 0#4⟩ ∧
       (s.panel (panelAt 1 0)).dyn.logged = none ∧ s.resolveTag 31 = some 2 ∧ (∀ c, (s.caseAt c).release = none) ∧
       (s.heldOrder 2).find? (fun c => (s.caseAt c).dispatch == .assigned && lineOf (s.caseAt c).lift == 1) = some 0 ∧
       s.isOpen 0 = true ∧ (s.caseAt 0).owed = false ∧ (s.caseAt 0).procedure.wait ≠ .event .crewArrived ∧
       (s.caseAt 0).window.minRunOut = here) ∧
    (((carded State.reset id id).heldOrder 2).find? (fun _ => true) = none ∧
      (carded State.reset id id).resolveTag 31 = some 2) ∧
    (let s := panelled State.reset fun d => { d with logged := some 31, toggle := some false }
     (s.panel 4).dyn.toggle = some false ∧ false ≠ true ∧ (s.panel 4).dyn.logged = some 31) := by
  refine ⟨⟨ready_down (by decide), by decide +kernel, by decide +kernel, by decide, by decide, by decide⟩,
    ⟨⟨ready_down (by decide), by decide +kernel, by decide +kernel, by decide, by decide, by decide⟩, by decide⟩,
    ?_, by decide, by decide⟩
  intro here h
  cases here <;>
    exact ⟨⟨ready_down (by decide), by decide +kernel, by decide +kernel, by decide, by decide, by decide⟩, by decide⟩

/-- The slots on both sides of the boundary, a frame of each wrong kind, and contents that decode. -/
theorem witness_WindowsAreJudgedByTheirFrames :
    (15 : Slot).val < 16 ∧ 16 ≤ (16 : Slot).val ∧ ([] : List Byte).length ≠ 11 ∧ ([] : List Byte).length ≠ 8 ∧
    decodeReport 0x00#8 0x75#8 0xC6#8 0x80#8 0x00#8 0x48#8 0x80#8 0x96#8 = some reported ∧
    decodePanel 0x22#8 0xC0#8 0x00#8 0x00#8 0x40#8 = some ⟨some 34, true, some .arrived, none, false, 2, 0#4⟩ := by
  decide +kernel

/-- Contents with a code of 3 in each list of a report, a crew tag of 255, and a request code of 11 and of 15. -/
theorem witness_UnlistedCodes :
    (∀ x ∈ [(0xC0#8, 0x80#8), (0x00#8, 0xC0#8), (0x00#8, 0x30#8)],
      BitVec.toNat x.1 / 64 = 3 ∨ BitVec.toNat x.2 / 64 = 3 ∨ BitVec.toNat x.2 / 16 % 4 = 3) ∧
    ∀ x ∈ [(0xFF#8, 0x00#8), (0x22#8, 0x58#8), (0x22#8, 0x78#8)],
      BitVec.toNat x.1 = 255 ∨ 10 < BitVec.toNat x.2 / 8 % 16 := by simp

/-- NEAR is UP and sending. -/
def nearUp (s : State) : State := { s with trunk := { s.trunk with nearUp := true, nearTx := some (.relayed []) } }
/-- FAR is UP and sending. -/
def farUp (s : State) : State := { s with trunk := { s.trunk with farUp := true, farTx := some [] } }

theorem witness_NearFramesAreTakenForwardedOrCounted : let s := nearUp State.reset
    State.reset.Busy ∧ State.reset.trunk.nearUp = false ∧ s.Busy ∧ s.trunk.nearUp = true ∧ readTrunk [] = none ∧
    readTrunk elsewhereBytes = some ⟨5#16, 9#16, 1#8, 7#8, [1#8, 4#8, 1#8]⟩ ∧
    5#16 ≠ s.straps.setWidth 16 ∧ 5#16 ≠ 0xFFFF#16 ∧
    (readTrunk (OwnFrame.bytes ⟨0#16, 9#16, 7#8, .call ⟨.call, none, none, 0#32, none, none, .none⟩⟩)).map
      (fun f => (f.destination, f.kind)) = some (0#16, 0x84#8) ∧ 0#16 = s.straps.setWidth 16 :=
  ⟨busy_down (by decide), by decide, by unfold State.Busy; decide, by decide +kernel⟩

/-- READ of travel entry 1 to the broadcast address, and a CALL frame to it. -/
def wideBytes : List Byte := let head := [0xFF#8, 0xFF#8, 0x00#8, 0x09#8, 0x01#8, 0x07#8, 0x03#8, 0x01#8, 0x04#8, 0x01#8]
  head ++ checkBytes (trunkCrc head)

theorem witness_BroadcastFramesAreTakenAndForwarded :
    readTrunk wideBytes = some ⟨0xFFFF#16, 9#16, 1#8, 7#8, [1#8, 4#8, 1#8]⟩ ∧
    (readTrunk (OwnFrame.bytes ⟨0xFFFF#16, 9#16, 7#8, .call ⟨.call, none, none, 0#32, none, none, .none⟩⟩)).map
      (fun f => (f.destination, f.kind)) = some (0xFFFF#16, 0x84#8) ∧
    (farUp State.reset).trunk.forward.length < 16 ∧ State.reset.trunk.farUp = false := by decide +kernel

theorem witness_FramesAndCommandsAgree : let s := nearUp State.reset
    s.trunk.nearUp = true ∧ readTrunk readBytes = some ⟨0#16, 9#16, 1#8, 7#8, [1#8, 4#8, 1#8]⟩ ∧
    readTrunk jobBytes = some ⟨0#16, 9#16, 3#8, 7#8, [31#8, 5#8, 0#8, 0#8, 0#8]⟩ ∧ 0#16 = s.straps.setWidth 16 ∧
    [[1, 0, 1], [2, 4, 1, 0, 5, 0, 9], [3, 9, 2], [4, 3], [5, 3], [6, 3], [7, 63], [8, 7], [9, 16, 114], [10, 3, 44], [11, 15],
      [12], [13, 1]].map (fun b => (decodeMgmt (b.map (BitVec.ofNat 8))).isSome) = List.replicate 13 true := by
  decide +kernel

/-- A frame of the kind with the body, to this address from address 9 with tag 7. -/
def hereBytes (kind : Byte) (body : List Byte) : List Byte :=
  let head := [0x00#8, 0x00#8, 0x00#8, 0x09#8, kind, 0x07#8, BitVec.ofNat 8 body.length] ++ body
  head ++ checkBytes (trunkCrc head)

/-- A MGMT write of table 9 and an empty MGMT body, two CONTROL bodies that are none of the four, CREW bodies with request codes 0 and
11, one too short and an empty one; the source's first table kinds at their lengths. -/
theorem witness_UndecodableBodies : (nearUp (crewed State.reset id)).Ready 1 ∧
    (∀ x ∈ [(1#8, [2#8, 9#8]), (1#8, []), (2#8, [0#8, 5#8, 4#8, 0#8]), (2#8, [1#8]), (3#8, [31#8, 0#8, 0#8, 0#8, 0#8]),
        (3#8, [99#8, 11#8, 0#8, 0#8, 0#8]), (3#8, [31#8]), (3#8, [])],
      readTrunk (hereBytes x.1 x.2) = some ⟨0#16, 9#16, x.1, 7#8, x.2⟩) ∧
    decodeMgmt [2#8, 9#8] = none ∧ (nearUp (crewed State.reset id)).resolveTag 31 = some 2 ∧
    (nearUp (crewed State.reset id)).resolveTag 99 = none ∧
    decodeMgmt (2#8 :: 1#8 :: 4#8 :: List.replicate 9 0#8) ≠ none ∧ decodeMgmt (2#8 :: 1#8 :: 4#8 :: List.replicate 8 0#8) = none ∧
    decodeMgmt (2#8 :: 0#8 :: 4#8 :: 1#8 :: 0#8 :: 1#8 :: 2#8 :: List.replicate 25 0#8) ≠ none :=
  ⟨⟨by unfold State.Busy; decide, by decide⟩, by decide +kernel⟩

theorem witness_FarFramesAreRelayedOrCounted : let s := farUp State.reset
    State.reset.Busy ∧ State.reset.trunk.farUp = false ∧ s.Busy ∧ s.trunk.farUp = true ∧ readTrunk [] = none ∧
    readTrunk elsewhereBytes ≠ none :=
  ⟨busy_down (by decide), by decide, by unfold State.Busy; decide, by decide +kernel⟩

theorem witness_LinkChangesLoseWhatWasLeaving :
    (farUp (nearUp State.reset)).Busy ∧ State.reset.Busy ∧ State.reset.trunk.nearUp = false ∧
    State.reset.trunk.nearTx = none ∧ State.reset.trunk.own = [] ∧ State.reset.trunk.relay = [] ∧
    (let s : State := { State.reset with trunk := { State.reset.trunk with forward := [[1#8]] } }
     s.Busy ∧ s.trunk.farUp = false ∧ s.trunk.farTx = none ∧ s.trunk.forward = [[1#8]]) :=
  ⟨by unfold State.Busy; decide, busy_down (by decide), rfl, rfl, rfl, rfl, busy_down (by decide), rfl, rfl, rfl⟩

/-- The port with own and relay queues as given, both links DOWN. -/
def queues (own : List OwnFrame) (relay : List (List Byte)) : State :=
  { State.reset with trunk := { State.reset.trunk with own := own, relay := relay } }

/-- A summary in a frame of the gateway's own. -/
def summaryFrame : OwnFrame := ⟨0xFFFF#16, 0#16, 0#8, .summary ⟨4210, 0#32, .parked, none⟩⟩

/-- NEAR is DOWN with nothing in transmission and no notice owed, whatever waits; FAR is DOWN. -/
theorem witness_LinksComeUp : (∀ s ∈ [queues [] [[1#8]], queues [summaryFrame] [], queues [summaryFrame] [[1#8]]],
      s.trunk.nearUp = false ∧ s.trunk.nearTx = none ∧ s.trunk.farUp = false ∧ ∀ c, (s.caseAt c).owed = false) ∧
    summaryFrame.isSummary = true ∧ State.reset.trunk.turn = .relay ∧
    State.reset.trunk.farUp = false ∧ State.reset.trunk.farTx = none ∧ State.reset.trunk.forward = [] := by decide

theorem witness_TransmittersChooseTheirNextFrame :
    (let s := farUp (nearUp State.reset)
     s.trunk.nearUp = true ∧ s.trunk.farUp = true ∧ s.trunk.farTx ≠ none ∧ s.trunk.nearTx ≠ none ∧
       (∀ c, (s.caseAt c).owed = false) ∧ s.trunk.own = [] ∧ s.trunk.relay = [] ∧ s.trunk.forward = []) ∧
    (let s : State := (fun t => { t with trunk := { t.trunk with own := [summaryFrame], relay := [[1#8]], forward := [[1#8]] } })
       (farUp (nearUp State.reset))
     s.trunk.own = [summaryFrame] ∧ summaryFrame.isSummary = true ∧ s.trunk.relay = [[1#8]] ∧ s.trunk.turn = .relay ∧
       s.trunk.forward = [[1#8]]) := by decide

/-- The owed record at the upper boundary, and at the lower one. -/
theorem witness_DepartureServesTheLowestOwedCase :
    (let s := nearUp (filled (rescue .stalled fun r => { r with owed := true }) 32)
     s.trunk.nearUp = true ∧ s.trunk.farUp = false ∧
       s.trunk.own = (s.trunk.own.headD summaryFrame) :: s.trunk.own.tail ∧
       (s.trunk.own.headD summaryFrame).isSummary = false ∧ s.isOpen 0 = true ∧ (s.caseAt 0).owed = true ∧
       ∀ d < (0 : CaseNo), (s.caseAt d).owed = false) ∧
    (let s := nearUp (filled (State.reset.setCase 15 { case812 with owed := true }) 1)
     s.isOpen 15 = true ∧ (s.caseAt 15).owed = true ∧ ∀ d < (15 : CaseNo), (s.caseAt d).owed = false) := by
  decide +kernel

/-- Case 812 closed with its notice owed, in record `c`, a frame of the own queue in transmission. -/
def closing (c : CaseNo) : State :=
  nearUp (filled (State.reset.setCase c { case812 with
    record := .closing, owed := true, closeReason := some .stoodDown, closeTag := some 31
    closedIdentity := some 4210, closedAt := some 7#32 }) 32)

/-- The own queue full: with a summary at its second place, and with none. -/
def fullQueue (summary : Bool) (s : State) : State :=
  { s with trunk := { s.trunk with own := (filled s 1).trunk.own ++
      (if summary then summaryFrame else (filled s 1).trunk.own.headD summaryFrame) :: (filled s 30).trunk.own } }

theorem witness_OwedCloseAndFullQueue :
    (∀ c : CaseNo, c = 0 ∨ c = 15 → let s := closing c
      s.trunk.nearUp = true ∧ s.trunk.farUp = false ∧ s.trunk.own.length = 32 ∧ (∀ f ∈ s.trunk.own, f.isSummary = false) ∧
      (s.caseAt c).owed = true ∧ (∀ d < c, (s.caseAt d).owed = false) ∧ (s.caseAt c).record = .closing ∧
      (s.caseAt c).closeReason = some .stoodDown ∧ (s.caseAt c).closedIdentity = some 4210 ∧ (s.caseAt c).closedAt = some 7#32 ∧ ∀ i, (s.lift i).dyn.latch = .empty) ∧
    (let s := fullQueue true (rescue .parked id)
     32 ≤ s.trunk.own.length ∧ s.trunk.own = (filled s 1).trunk.own ++ summaryFrame :: (filled s 30).trunk.own ∧
       summaryFrame.isSummary = true ∧ (∀ f ∈ (filled s 1).trunk.own, f.isSummary = false) ∧ (s.caseAt 0).owed = false) ∧
    (let s := fullQueue false (rescue .parked id)
     s.Busy ∧ 32 ≤ s.trunk.own.length ∧ (∀ f ∈ s.trunk.own, f.isSummary = false) ∧ (s.caseAt 0).owed = false) ∧
    ((rescue .parked fun r => { r with owed := true }).caseAt 0).owed = true :=
  ⟨by decide +kernel, by decide, ⟨busy_down (by decide), by decide⟩, by decide⟩

theorem witness_ClosingOwed : (closing 15).ClosingOwed ∧ ((closing 15).caseAt 15).record = .closing ∧ kept.ClosingOwed := by
  unfold State.ClosingOwed; decide +kernel

/-- R82: a case closed into a full queue at stamp 7 is CLOSED with that stamp and the identity of that moment, though both are others
when a place comes free. -/
theorem test_owed_closed_is_fixed_at_the_close :
    let s := filled { rescue .parked id with time := { State.reset.time with stamp := 7#32 } } 32
    let t := after (.caseClose org 812#16) s
    let g : Lift := t.lift 21
    let later := { t.setLift 21 { g with config := { g.config with identity := 99 } } with
      time := { t.time with stamp := 9#32 } }
    let u := after .nearTransmitComplete (nearUp later)
    (t.caseAt 0).record = .closing ∧ (u.caseAt 0).record = .free ∧
    u.trunk.own.getLast?.map OwnFrame.body = some (.notice ⟨.closed, some (812#16, 0), some 4210, 7#32, some (2, .waiting), none,
      .closed .centre⟩) := by decide +kernel

theorem witness_ReadsAnswerAndChangeNothing : (filled kept 31).Ready 1 := ready_down (by decide)

/-- The first index outside each range. -/
theorem witness_IndicesOutsideTheirRangeAreRefused : State.reset.Ready 1 ∧ 6 < 7 ∧ 64 ≤ 64 ∧ 16 ≤ 16 ∧ 8 ≤ 8 ∧ 5 ≤ 5 ∧
    256 ≤ 256 ∧ 1 ≠ 0 ∧ 4 ≤ 4 ∧ 2 ≤ 2 ∧ liftOk.decodes = true ∧ crewOk.coverage < 16 :=
  ⟨ready_down (by decide), by decide⟩

/-- Lift record 40 enabled with identity 4,300 (section 2.5). -/
def neighbour (s : State) : State := s.setLift 40 ⟨{ LiftConfig.reset 40 with enabled := true, identity := 4300 }, .entered .parked⟩

theorem witness_FaultyLiftWritesAreRefused :
    ((rescue .parked id).Ready 1 ∧ ((rescue .parked id).lift 21).dyn.openCase ≠ none ∧ liftOk.decodes = true) ∧
    (neighbour (car .parked)).Ready 1 ∧ ((neighbour (car .parked)).lift 21).dyn.openCase = none ∧
    ((neighbour (car .parked)).lift 40).config.enabled = true ∧
    ((neighbour (car .parked)).lift 40).config.identity = 4300 ∧
    (∀ w ∈ [{ liftOk with identity := 4300 }, { liftOk with identity := 65535 }, { liftOk with landings := [0] },
      { liftOk with landings := List.range 25 }, { liftOk with landings := [0, 0] },
      { liftOk with landings := [0, 1048576] }, { liftOk with shared := 1 }, { liftOk with manual := 2 },
      { liftOk with enabled := 2 }, { liftOk with forwarding := 3 }], LiftWrite.decodes w = true) ∧
    ¬ [0, 0].Pairwise (· < ·) ∧ 24 < (List.range 25).length ∧ 1 / 2 = 0 ∧ 2 / 2 = 1 :=
  ⟨⟨ready_down (by decide), by decide⟩, ready_down (by decide), by decide⟩

/-- Cause bytes of 4 and a coverage of 16 do not decode, at any index. -/
theorem witness_WritesThatDoNotDecode : State.reset.Ready 1 ∧
    (∀ w ∈ [{ liftOk with stall := 4 }, { liftOk with alarm := 4 }, { liftOk with shared := 4 }, { liftOk with silent := 4 },
      { liftOk with manual := 4 }], LiftWrite.decodes w = false) ∧ 16 ≤ ({ crewOk with coverage := 16 } : CrewWrite).coverage :=
  ⟨ready_down (by decide), by decide⟩

/-- A write with every field at an end of its range, or beyond it, and the configuration it stores. -/
def edgeWrite : LiftWrite := ⟨1, 65534, [0, 1048575], 24, 21, 0, 15, 61, 50, 60001, 64, 0, 1, 2, 3, 1, 16, 2⟩
/-- What `edgeWrite` stores. -/
def edgeConfig : LiftConfig := {
  enabled := true, identity := 65534, landings := [0, 1048575], doorZone := 25, creep := 20, debounce := 1, silence := 15
  balance := 60, step := 50, reach := 60000, cap := 63, stall := ⟨false, .edge⟩, alarm := ⟨true, .edge⟩
  shared := ⟨false, .level⟩, silent := ⟨true, .level⟩, manual := ⟨true, .edge⟩, page := 15, forwarding := .none }

/-- Lift 21 not enabled, or enabled, on a line in state `st`; a write that enables it and one that disables it. -/
theorem witness_AcceptedLiftWritesActByTheEnabledField : let w := edgeWrite
    let g := edgeConfig
    (State.reset.Ready 2 ∧ (State.reset.lift 21).dyn.openCase = none ∧ w.stall ≤ 3 ∧ w.alarm ≤ 3 ∧ 2 ≤ w.shared ∧
      w.shared ≤ 3 ∧ w.silent ≤ 3 ∧ w.manual ≤ 1 ∧ w.enabled ≤ 1 ∧ w.forwarding ≤ 2 ∧ w.identity < 65535 ∧
      (∀ j, j ≠ 21 → (State.reset.lift j).config.enabled = true → (State.reset.lift j).config.identity ≠ w.identity) ∧
      2 ≤ w.landings.length ∧ w.landings.length ≤ 24 ∧ w.landings.Pairwise (· < ·) ∧ (∀ h ∈ w.landings, h ≤ 1048575) ∧
      g.doorZone = max 25 (min 300 w.doorZone) ∧ g.creep = max 1 (min 20 w.creep) ∧
      g.debounce = max 1 (min 15 w.debounce) ∧ g.silence = max 1 (min 15 w.silence) ∧
      g.balance = max 30 (min 60 w.balance) ∧ g.step = max 50 (min 2000 w.step) ∧
      g.reach = max 500 (min 60000 w.reach) ∧ g.cap = max 1 (min 63 w.cap) ∧ g.page.val = min 15 w.page ∧
      (State.reset.lift 21).config.enabled = false ∧ (State.reset.line 1).state = .off) ∧
    (let s := lineB State.reset fun r => { r with state := .waitInterval }
     (s.line (lineOf 21)).state ≠ .off ∧ (s.line (lineOf 21)).state ≠ .quietIdle) ∧
    (car .parked).Ready 2 ∧ ((car .parked).lift 21).dyn.openCase = none ∧ ((car .parked).lift 21).config.enabled = true ∧
    ∀ j, j ≠ 21 → ((car .parked).lift j).config.enabled = false :=
  ⟨⟨ready_down (by decide), by decide⟩, by decide, ready_down (by decide), by decide⟩

/-- Line B in QUIET_IDLE, where the enabling write of lift 21 makes it the first slot polled. -/
theorem witness_LiftWritesWakeTheLine : let s := quietB State.reset
    s.Ready 2 ∧ s.NothingToSend 1 ∧ (s.line 1).state = .quietIdle ∧ (s.lift 21).config.enabled = false ∧
    ((s.withAnswer org 2#8 .clamped (.liftEcho edgeConfig)).setLift 21 ⟨edgeConfig, .entered .unseen⟩).slotSet 1 = [5] :=
  ⟨ready_down (by decide), ⟨by decide +kernel, by decide, by decide⟩, by decide⟩

/-- A lift with neither a case nor a latch, at which the evaluation raises nothing. -/
theorem quiet_of {s : State} {i : LiftIdx} (h : raisedCauses (s.lift i).config (s.lift i).dyn.truth (s.truthOf i) = .empty ∧
    (s.lift i).dyn.openCase = none ∧ (s.lift i).dyn.latch = .empty) : s.QuietTruth i := ⟨h.1, h.2.1, h.2.2⟩

/-- The record that a panel write stores with its dynamic fields as given, over the state with the ANSWER OK. -/
def wrote (s : State) (w : PanelWrite) (d : PanelDynamic) : State :=
  (s.withAnswer org 2#8 .ok .none).setPanel 4
    ⟨⟨w.enabled == 1, #v[BitVec.ofNat 16 w.map0, BitVec.ofNat 16 w.map1, BitVec.ofNat 16 w.map2, BitVec.ofNat 16 w.map3]⟩, d⟩

/-- Lift 21, its cause SHARED true by input 1 of panel 4, at which crew record 2 is logged. -/
def sharing : State :=
  panelled (crewed ((car .parked).setDyn 21 { (lift21 .parked).dyn with truth := ⟨false, false, true, false, false⟩ })
    fun d => { d with logged := some 4 }) fun d => { d with logged := some 31, inputs := 2#4 }

/-- An enabling write in QUIET_IDLE; a disabling one with an active input and a logged crew; one that takes the slot out of the map
while the panel stays enabled. -/
theorem witness_PanelWritesWakeAndReEvaluate :
    (let s := quietB (car .parked)
     s.Ready 1 ∧ (s.line (panelLine 4)).state = .quietIdle ∧ (s.panel 4).config.enabled = false ∧ (s.panel 4).dyn.inputs = 0#4 ∧
       s.NothingToSend 1 ∧ (wrote s panelOk .cleared).slotSet 1 = [5, 16]) ∧
    (let t := wrote sharing { panelOk with enabled := 0 } .cleared
     let active (slot : Fin 16) : Bool := (List.finRange 4).any fun k =>
       (sharing.panel 4).dyn.inputs.getLsbD k.val && (sharing.panel 4).config.map[k.val].getLsbD slot.val
     sharing.Ready 1 ∧ (sharing.panel 4).config.enabled = true ∧ (sharing.panel 4).dyn.logged = some 31 ∧
       sharing.resolveTag 31 = some 2 ∧ (∀ c, sharing.isOpen c = false) ∧ t.evaluated 1 active 21 = true ∧
       t.truthOf 21 ≠ (t.lift 21).dyn.truth ∧ ∀ k : Fin 16, t.QuietTruth (liftAt 1 k)) ∧
    let t := wrote sharing { panelOk with map1 := 0 } (sharing.panel 4).dyn
    t.truthOf 21 ≠ (t.lift 21).dyn.truth ∧ ∀ k : Fin 16, t.QuietTruth (liftAt 1 k) :=
  ⟨⟨ready_down (by decide), by decide, by decide, by decide, ⟨by decide +kernel, by decide, by decide⟩, by decide⟩,
   ⟨ready_down (by decide), by decide, by decide, by decide, by decide, by decide, by decide,
     fun k => quiet_of (by revert k; decide +kernel)⟩,
   by decide, fun k => quiet_of (by revert k; decide +kernel)⟩

theorem witness_PanelWritesAreLockedOrStored :
    (let s := rescue .parked fun r => { r with release := some (releaseIn .awaitHold) }
     s.Ready 1 ∧ s.isOpen 0 = true ∧ lineOf (s.caseAt 0).lift = panelLine 4 ∧ (s.caseAt 0).release ≠ none) ∧
    ((car .parked).Ready 1 ∧
      (∀ c, (car .parked).isOpen c = true → lineOf ((car .parked).caseAt c).lift = panelLine 4 →
        ((car .parked).caseAt c).release = none) ∧
      ((car .parked).panel 4).config.enabled = false ∧ ((car .parked).panel 4).dyn.logged = none ∧
      ((car .parked).panel 4).dyn.inputs = 0#4 ∧ ((car .parked).line 1).state ≠ .quietIdle ∧ panelOk.enabled = 1 ∧
      panelOk.map0 < 65536 ∧ panelOk.map1 < 65536 ∧ panelOk.map2 < 65536 ∧ panelOk.map3 < 65536) ∧
    (let s := panelled (car .offline) id
     s.Ready 1 ∧ (s.panel 4).config.enabled = true ∧
       ∀ k : Fin 16, (s.lift (liftAt 1 k)).dyn.state = .disabled ∨ (s.lift (liftAt 1 k)).dyn.state = .offline) :=
  ⟨⟨ready_down (by decide), by decide⟩, ⟨ready_down (by decide), by decide⟩, ready_down (by decide), by decide⟩

theorem witness_CrewWritesAreLockedOrStored :
    ((offered (.running 1)).Ready 1 ∧ crewOk.coverage < 16 ∧ ((offered (.running 1)).crew 2).dyn.offer ≠ none) ∧
    (let s := crewed State.reset id
     s.Ready 1 ∧ (s.crew 2).dyn.held = [] ∧ (s.crew 2).dyn.offer = none ∧ (s.crew 3).dyn.held = [] ∧
       (s.crew 3).dyn.offer = none ∧ (s.crew 2).config.enabled = true ∧ (s.crew 2).config.tag = crewOk.tag) ∧
    (∀ w ∈ [{ crewOk with tag := 1 }, { crewOk with tag := 254, coverage := 15, post := 4 }, crewOk],
      0 < CrewWrite.tag w ∧ CrewWrite.tag w < 255 ∧ CrewWrite.coverage w ≠ 0 ∧ CrewWrite.coverage w < 16 ∧
        CrewWrite.enabled w ≤ 1 ∧
        ∀ j, j ≠ 2 → ((crewed State.reset id).crew j).config.enabled = true →
          ((crewed State.reset id).crew j).config.tag ≠ CrewWrite.tag w) :=
  ⟨⟨ready_down (by decide), by decide⟩, ⟨ready_down (by decide), by decide⟩, by decide⟩

theorem witness_TableAndSettingsWrites :
    (State.reset.Ready 1 ∧ (∀ c, State.reset.isOpen c = false) ∧ decodeSource classOk.clear = some (some .voiceContact) ∧
      decodeSource classOk.stop = some (some .crewArrived) ∧ classOk.closeOnAccept ≤ 1 ∧ 5 < 6) ∧
    ((rescue .parked id).Ready 1 ∧ (rescue .parked id).isOpen 0 = true ∧
      ((rescue .parked id).caseAt 0).procedure.ownPage = 0 ∧
      ∀ c, (rescue .parked id).isOpen c = true → ((rescue .parked id).caseAt c).procedure.ownPage ≠ 14 ∧ (14 : Fin 16) ≠ 15) ∧
    (let w := { settingsOk with d1 := 1, d2 := 65535, offerTimeout := 6001, settleLimit := 0 }
     let v : Settings := ⟨2, 65535, 6000, .oldest, 1, Vector.replicate 4 ⟨.continuous, 5, 50, 6⟩⟩
     w.tieMode ≤ 1 ∧ (∀ l : Fin 4, w.lines[l.val].defaultMode ≤ 1) ∧
       (∀ l : LineId, w.lines[l.val].defaultMode = 0 → (State.reset.line l).state ≠ .quietIdle) ∧
       v.d1 = max 2 (min 65535 w.d1) ∧ v.d2 = max 2 (min 65535 w.d2) ∧
       v.offerTimeout = max 10 (min 6000 w.offerTimeout) ∧
       v.tieMode = (if w.tieMode = 0 then .oldest else .rotate) ∧ v.settleLimit = max 1 (min 600 w.settleLimit) ∧
       ∀ l : Fin 4, v.lines[l.val] = ⟨if w.lines[l.val].defaultMode = 0 then .continuous else .quiet,
         max 1 (min 50 w.lines[l.val].cycleInterval), max 10 (min 600 w.lines[l.val].quietCeiling),
         max 2 (min 20 w.lines[l.val].answerWindow)⟩) :=
  ⟨⟨ready_down (by decide), by decide⟩, ⟨ready_down (by decide), by decide⟩, by decide⟩

/-- A settings write that makes line B CONTINUOUS in QUIET_IDLE, with and without a slot to poll on the other lines. -/
theorem witness_SettingsWritesWakeTheLine : let s := allQuiet (quietB (car .parked))
    s.Ready 1 ∧ settingsOk.lines[1].defaultMode = 0 ∧ (s.line 1).state = .quietIdle ∧ s.NothingToSend 1 ∧ s.slotSet 1 = [5] ∧
    ∀ l, l ≠ 1 → (s.line l).state ≠ .quietIdle :=
  ⟨ready_down (by decide), by decide, by decide, ⟨by decide +kernel, by decide, by decide⟩, by decide⟩

theorem witness_ForwardingAndRotationRequests : State.reset.Ready 1 ∧ State.reset.RotationWhole :=
  ⟨ready_down (by decide), List.Perm.refl _⟩

theorem witness_LineEnableRestartsTheLine :
    ((idleB .cycle).Ready 1 ∧ ((idleB .cycle).line 1).state ≠ .off) ∧
    (idleB .off).Ready 1 ∧ ((idleB .off).line 1).state = .off ∧ (idleB .off).NothingToSend 1 ∧
    (idleB .off).slotSet 1 = [5] ∧
    (∀ k, ((idleB .off).lift (liftAt 1 k)).config.enabled = true → ((idleB .off).lift (liftAt 1 k)).dyn.truth = .empty) ∧
    ∀ k, ((idleB .off).panel (panelAt 1 k)).config.enabled = true → ((idleB .off).panel (panelAt 1 k)).dyn.inputs = 0#4 :=
  ⟨⟨ready_down (by decide), by decide⟩, ready_down (by decide), by decide, idleB_nothing _, by decide⟩

theorem witness_LineDisableTakesTheLineOff :
    ((idleB .off).Ready 1 ∧ ((idleB .off).line 1).state = .off) ∧
    (let s := lineB (rescue .parked id) fun r => { r with state := .cycle }
     s.Ready 1 ∧ (s.line 1).state ≠ .off ∧ s.isOpen 0 = true ∧ lineOf (s.caseAt 0).lift = 1) ∧
    (idleB .cycle).Ready 1 ∧ ((idleB .cycle).line 1).state ≠ .off ∧
    (∀ c, (idleB .cycle).isOpen c = true → lineOf ((idleB .cycle).caseAt c).lift ≠ 1) ∧
    ∀ k, ((idleB .cycle).panel (panelAt 1 k)).dyn.logged = none ∧ ((idleB .cycle).panel (panelAt 1 k)).dyn.inputs = 0#4 :=
  ⟨⟨ready_down (by decide), by decide⟩, ⟨ready_down (by decide), by decide⟩, ready_down (by decide), by decide⟩

/-- A crew logged at a panel of the line, whose input is active. -/
theorem witness_LineDisableWithCrewAndInput : let s := lineB sharing fun r => { r with state := .cycle }
    s.Ready 1 ∧ (s.line 1).state ≠ .off ∧ (∀ c, s.isOpen c = false) ∧ (s.panel 4).dyn.logged = some 31 ∧ panelLine 4 = 1 ∧
    s.resolveTag 31 = some 2 ∧ (s.crew 2).dyn.logged = some 4 ∧ (s.panel 4).dyn.inputs ≠ 0#4 ∧ s.trunk.own.length + 17 ≤ 32 ∧
    ∀ i, (s.lift i).config.enabled = false → (s.lift i).dyn.state = .disabled :=
  ⟨ready_down (by decide), by decide +kernel⟩

/-- Line B in CYCLE with lift 21 polled and case 812 open. -/
def resettable (f : Case → Case) : State := lineB (rescue .stalled f) fun r => { r with state := .cycle }

/-- No case open; a release that no procedure waits for, with room for its notice alone; a lost command and an aborted release
that the procedure waits for. -/
theorem witness_LineResetRestartsTheLine :
    ((idleB .off).Ready 1 ∧ ((idleB .off).line 1).state = .off) ∧
    ((idleB .cycle).Ready 1 ∧ ((idleB .cycle).line 1).state ≠ .off ∧ (idleB .cycle).slotSet 1 = [5] ∧
      ∀ c, (idleB .cycle).isOpen c = false) ∧
    (let s := filled (resettable fun r => { r with
       release := some (releaseIn .pulsePending), pending := some ⟨.brakePulse 7 .down, .release⟩ }) 30
     s.Ready 1 ∧ (s.line 1).state ≠ .off ∧ s.slotSet 1 = [5] ∧
       [0] = (List.finRange 16).filter (fun c => (s.isOpen c && lineOf (s.caseAt c).lift == 1) && (s.caseAt c).release.isSome) ∧
       s.trunk.own.length + 1 + 1 ≤ 32 ∧ (s.caseAt 0).owed = false ∧ (s.caseAt 0).procedure.wait = .event .crewArrived) ∧
    ∀ f ∈ [fun r : Case => { r with pending := some ⟨.inhibit, .procedure⟩, procedure := { r.procedure with wait := .delivery } },
        fun r => { r with release := some (releaseIn .settling), procedure := { r.procedure with wait := .release } }],
      let s := filled (resettable f) 29
      s.Ready 1 ∧ (s.line 1).state ≠ .off ∧ s.slotSet 1 = [5] ∧ s.isOpen 0 = true ∧ lineOf (s.caseAt 0).lift = 1 ∧
      (∀ e, s.isOpen e = true → e = 0) ∧ (s.caseAt 0).owed = false ∧ s.trunk.own.length + 3 ≤ 32 ∧
      (s.caseAt 0).procedure.status = .running ∧
      let p := (s.caseAt 0).procedure
      let at' := { p with step := (s.stepOf p).target, onCommon := (s.stepOf p).common }
      (s.stepOf at').action = 12 ∧ (s.stepOf at').argument = 2 := by
  refine ⟨⟨ready_down (by decide), by decide⟩, ⟨ready_down (by decide), by decide⟩,
    ⟨ready_down (by decide), by decide +kernel⟩, ?_⟩
  intro f hf
  simp only [List.mem_cons, List.not_mem_nil, or_false] at hf
  rcases hf with rfl | rfl <;> exact ⟨ready_down (by decide), by decide⟩

/-- Every case record taken: 0 by lift 21's case, the rest by cases of lift 22. -/
def fullTable (s : State) : State := { s with cases := Vector.replicate 16 case813 }

theorem witness_CaseOpenJoinsOrQueues :
    (let s := car .offline
     s.Ready 2 ∧ s.resolveIdentity 4210 = some 21 ∧ (s.lift 21).dyn.state = .offline) ∧
    (let s := rescue .parked fun r => { r with escalations := 2 }
     s.Ready 2 ∧ s.resolveIdentity 4210 = some 21 ∧ (s.lift 21).config.manual.enabled = true ∧
       (s.lift 21).dyn.state ≠ .offline ∧ (s.lift 21).dyn.openCase = some 0 ∧ (s.caseAt 0).causes.manual = false ∧
       (s.caseAt 0).owed = false ∧
       (s.caseAt 0).escalations < min (s.caseAt 0).limit (min 15 (s.classes[4]).limit)) ∧
    (let s := rescue .parked fun r => { r with causes := ⟨true, false, false, false, true⟩ }
     (s.lift 21).dyn.openCase = some 0 ∧ (s.caseAt 0).causes.manual = true) ∧
    (let s := fullTable (car .parked)
     s.Ready 2 ∧ s.resolveIdentity 4210 = some 21 ∧ (s.lift 21).config.manual.enabled = true ∧
       (s.lift 21).dyn.state ≠ .offline ∧ (s.lift 21).dyn.openCase = none ∧ ∀ c, (s.caseAt c).record ≠ .free) :=
  ⟨⟨ready_down (by decide), by decide⟩, ⟨ready_down (by decide), by decide⟩, by decide, ready_down (by decide), by decide⟩

/-- An identity of no lift; and a join of MANUAL that meets the handover limit exactly. -/
theorem witness_CaseOpenIsRefusedOrHandsOver : (State.reset.Ready 1 ∧ State.reset.resolveIdentity 4210 = none) ∧
    let s := filled (rescue .parked fun r => { r with escalations := 3 }) 29
    s.Ready 3 ∧ s.resolveIdentity 4210 = some 21 ∧ (s.lift 21).config.manual.enabled = true ∧ (s.lift 21).dyn.state ≠ .offline ∧
    (s.lift 21).dyn.openCase = some 0 ∧ (s.caseAt 0).causes.manual = false ∧ (s.caseAt 0).owed = false ∧
    min (s.caseAt 0).limit (min 15 (s.classes[4]).limit) ≤ (s.caseAt 0).escalations ∧ (s.caseAt 0).procedure.status = .running ∧
    s.isOpen 0 = true :=
  ⟨⟨ready_down (by decide), by decide⟩, ready_down (by decide), by decide⟩

/-- Record 15 is the only FREE one, and record 0 the lowest of all FREE. -/
theorem witness_CaseOpenOpensTheLowestFreeRecord :
    (let s := (fullTable (car .parked)).setCase 15 .free
     s.Ready 4 ∧ s.resolveIdentity 4210 = some 21 ∧ (s.lift 21).config.manual.enabled = true ∧
       (s.lift 21).dyn.state ≠ .offline ∧ (s.lift 21).dyn.openCase = none ∧ (s.lift 21).dyn.latch = .empty ∧
       (s.caseAt 15).record = .free ∧ (∀ e < (15 : CaseNo), (s.caseAt e).record ≠ .free) ∧
       (s.stepOf ⟨(s.lift 21).config.page, 0, false, .running, .none, 0, .stopped⟩).action = 12 ∧
       (s.stepOf ⟨(s.lift 21).config.page, 0, false, .running, .none, 0, .stopped⟩).argument = 2) ∧
    ((car .parked).caseAt 0).record = .free ∧ ∀ e < (0 : CaseNo), ((car .parked).caseAt e).record ≠ .free :=
  ⟨⟨ready_down (by decide), by decide⟩, by decide⟩

theorem witness_CaseCloseFreesTheRecord : let s := rescue .parked id
    s.Ready 2 ∧ (∀ c, s.isOpen c = true → (s.caseAt c).serial ≠ 601#16) ∧ s.isOpen 0 = true ∧
    (s.caseAt 0).serial = 812#16 ∧ (∀ e < (0 : CaseNo), s.isOpen e = true → (s.caseAt e).serial ≠ 812#16) ∧
    (s.caseAt 0).owed = false ∧ s.NoReopening (s.caseAt 0).lift :=
  ⟨ready_down (by decide), by decide, by decide, by decide, by decide, by decide, ⟨by decide +kernel, by decide⟩⟩

/-- The state with STALL, LEVEL and true at lift 21. -/
def stillStalled (s : State) : State :=
  s.setDyn 21 { (s.lift 21).dyn with truth := ⟨true, false, false, false, false⟩ }

/-- STALL alone. -/
def stallOnly : CauseSet := ⟨true, false, false, false, false⟩

/-- Case 812 in record 0 of lift 21 reopens for STALL in the record it had. -/
theorem reopens_stalled {s : State} (h : (∀ j, (s.lift j).dyn.latch = .empty) ∧
    (s.lift 21).config = (lift21 .stalled).config ∧ (s.lift 21).dyn.truth = stallOnly ∧ (s.caseAt 0).lift = 21 ∧
    s.store = State.reset.store) : s.Reopens 0 0 stallOnly :=
  ⟨h.1, fun x => by rw [h.2.2.2.1, h.2.1, h.2.2.1]; cases x <;> decide, by decide, .inl rfl, fun d hd => absurd hd (Fin.not_lt_zero d),
   by rw [h.2.2.2.1, State.stepOf, h.2.1, h.2.2.2.2]; decide, by rw [h.2.2.2.1, State.stepOf, h.2.1, h.2.2.2.2]; decide⟩

/-- A close whose record waits, one that reopens, after CASE_CLOSE, an ACCEPT and a STAND_DOWN. -/
theorem witness_ClosesThatWaitOrReopen :
    (let s := fullQueue false (rescue .parked id)
     s.Busy ∧ 32 ≤ s.trunk.own.length ∧ (∀ f ∈ s.trunk.own, f.isSummary = false) ∧ s.isOpen 0 = true ∧
       (s.caseAt 0).owed = false ∧ s.NoReopening (s.caseAt 0).lift) ∧
    (let s := stillStalled (filled (rescue .stalled id) 27)
     s.Ready 5 ∧ s.isOpen 0 = true ∧ (s.caseAt 0).serial = 812#16 ∧ (s.caseAt 0).owed = false ∧ s.Reopens 0 0 stallOnly) ∧
    (let s : State := { stillStalled (crewed (rescue .stalled fun r => { r with dispatch := .offered, crew := some 2 })
         fun d => { d with offer := some ⟨0, .running 1⟩ }) with
       classes := State.reset.classes.set 0 ⟨3, 1800, none, none, 3, 4, true⟩ }
     s.Answers byTrunk 5 ∧ s.OnDuty 31 2 ∧ s.Reopens 0 0 stallOnly) ∧
    (let s := stillStalled (crewed (rescue .stalled fun r => { r with dispatch := .onSite, crew := some 2 })
       fun d => { d with held := [0] })
     s.Answers byTrunk 5 ∧ s.OnDuty 31 2 ∧ s.heldNamed 2 none = some 0 ∧ s.Reopens 0 0 stallOnly) :=
  ⟨⟨busy_down (by decide), by decide, by decide, by decide, by decide, ⟨by decide +kernel, by decide⟩⟩,
   ⟨ready_down (by decide), by decide, by decide, by decide, reopens_stalled (by decide +kernel)⟩,
   ⟨answers_down (by decide), ⟨by decide, by decide⟩, reopens_stalled (by decide +kernel)⟩,
   answers_down (by decide), ⟨by decide, by decide⟩, by decide, reopens_stalled (by decide +kernel)⟩

/-- Line B runs with lift 21 polled, the other lines stand in OFF; case 812 is open. -/
def restartable : State := lineB (rescue .parked id) fun r => { r with state := .cycle }

theorem witness_WarmRestartClearsAndKeeps : restartable.Ready 1 ∧ restartable.isOpen 0 = true ∧
    (∀ l, (restartable.line l).state ≠ .off → restartable.slotSet l ≠ []) ∧ (restartable.line 1).state ≠ .off ∧
    restartable.slotSet 1 = [5] ∧ (restartable.line 0).state = .off ∧ ∀ c, (idleB .cycle).isOpen c = false :=
  ⟨ready_down (by decide), by decide⟩

/-- Line B in CYCLE with `n` routine commands. -/
def queued (s : State) (n : Nat) : State :=
  lineB s fun r => { r with state := .cycle, routine := List.replicate n ⟨5, .inhibit⟩ }

theorem witness_ControlCommandsAreQueuedOrRefused :
    ((queued (car .parked) 7).Ready 1 ∧ (queued (car .parked) 7).resolveIdentity 4210 = some 21 ∧
      ((queued (car .parked) 7).line (lineOf 21)).state = .cycle ∧
      ((queued (car .parked) 7).line (lineOf 21)).routine.length < 8 ∧
      ((queued (car .parked) 7).lift 21).dyn.openCase = none) ∧
    ((queued (car .parked) 8).Ready 1 ∧ 8 ≤ ((queued (car .parked) 8).line (lineOf 21)).routine.length ∧
      (queued (car .parked) 8).resolveIdentity 9999 = none) ∧
    ((car .parked).Ready 1 ∧ ((car .parked).line (lineOf 21)).state = .off) ∧
    (queued (rescue .parked id) 0).Ready 1 ∧ ((queued (rescue .parked id) 0).lift 21).dyn.openCase ≠ none ∧
    (queued (rescue .parked id) 0).resolveIdentity 4210 = some 21 ∧ 15 ≤ 15 ∧ 15 < 16 :=
  ⟨⟨ready_down (by decide), by decide⟩, ⟨ready_down (by decide), by decide⟩, ⟨ready_down (by decide), by decide⟩,
   ready_down (by decide), by decide⟩

/-- A line in QUIET_IDLE with nothing to send. -/
theorem witness_ControlCommandsWakeTheLine : let s := quietB (car .parked)
    s.Ready 1 ∧ s.resolveIdentity 4210 = some 21 ∧ (s.line (lineOf 21)).state = .quietIdle ∧ s.NothingToSend (lineOf 21) :=
  ⟨ready_down (by decide), by decide, by decide, ⟨by decide +kernel, by decide, by decide⟩⟩

/-- A panel answers: its line does not stand in QUIET_IDLE; and in QUIET_IDLE, where nothing waits and the panel is polled. -/
theorem answers_panel : (idleB .cycle).Answers (.panel 4) 1 ∧ (panelled (idleB .quietIdle) id).Answers (.panel 4) 1 :=
  ⟨⟨ready_down (by decide), fun p hp => by cases hp; exact fun h => absurd h (by decide)⟩,
   ready_down (by decide), fun p hp => by cases hp; exact fun _ => ⟨⟨by decide +kernel, by decide, by decide⟩, by decide⟩⟩

/-- A serial that the case has and no lower OPEN record does names it. -/
theorem names_of {s : State} {n : BitVec 16} {c : CaseNo} (h : s.isOpen c = true ∧ (s.caseAt c).serial = n ∧
    ∀ e < c, s.isOpen e = true → (s.caseAt e).serial ≠ n) : s.NamesCase (some n) c := .inr ⟨n, rfl, h⟩

/-- A serial of another case, or one that a lower OPEN record has too, does not name it. -/
theorem names_not {s : State} {n : BitVec 16} {c : CaseNo} (h : (s.caseAt c).serial ≠ n ∨
    ∃ e < c, s.isOpen e = true ∧ (s.caseAt e).serial = n) : ¬ s.NamesCase (some n) c := by
  rintro (h' | ⟨m, hm, ho, hs, hl⟩)
  · cases h'
  · cases hm
    rcases h with h | ⟨e, he, heo, hes⟩
    · exact h hs
    · exact hl e he heo hes

/-- Crew record 2 holding record 0, whose case is changed by `f`. -/
def holding (f : Case → Case) : State :=
  crewed (rescue .parked fun r => f { r with dispatch := .assigned, crew := some 2 }) fun d => { d with held := [0] }

theorem onDuty_crewed (s : State) (f : CrewDynamic → CrewDynamic) (h : (crewed s f).resolveTag 31 = some 2)
    (hd : ((crewed s f).crew 2).dyn.onDuty = true) : (crewed s f).OnDuty 31 2 := ⟨h, hd⟩

theorem witness_CrewRequestsAreJudgedFirst :
    (State.reset.Answers byTrunk 1 ∧ (idleB .cycle).Answers (.panel 4) 1 ∧
      (panelled (idleB .quietIdle) id).Answers (.panel 4) 1 ∧ ((panelled (idleB .quietIdle) id).line 1).state = .quietIdle ∧
      State.reset.resolveTag 31 = none ∧ (panelled (idleB .quietIdle) id).resolveTag 31 = none) ∧
    (let s := crewed State.reset fun d => { d with onDuty := false, offerLost := some 7#16 }
     s.Answers byTrunk 1 ∧ s.resolveTag 31 = some 2 ∧ (s.crew 2).dyn.onDuty = false) ∧
    ((crewed State.reset id).Answers byTrunk 1 ∧ (crewed State.reset id).OnDuty 31 2 ∧
      ((crewed State.reset id).crew 2).dyn.held = []) ∧
    ((holding id).OnDuty 31 2 ∧
      ∀ c ∈ ((holding id).crew 2).dyn.held, ¬ ((holding id).isOpen c = true ∧ ((holding id).caseAt c).serial = 601#16)) ∧
    (let s := holding fun r => { r with dispatch := .onSite }
     s.Answers byTrunk 1 ∧ s.OnDuty 31 2 ∧ s.heldSerial 2 812#16 = some 0 ∧ (s.caseAt 0).dispatch ≠ .assigned) :=
  ⟨⟨answers_down (by decide), answers_panel.1, answers_panel.2, by decide⟩, ⟨answers_down (by decide), by decide⟩,
   ⟨answers_down (by decide), onDuty_crewed _ _ (by decide) (by decide), by decide⟩,
   ⟨onDuty_crewed _ _ (by decide) (by decide), by decide⟩,
   answers_down (by decide), onDuty_crewed _ _ (by decide) (by decide), by decide⟩

theorem witness_DutyAndSweepRequests :
    ((crewed State.reset id).Answers byTrunk 1 ∧ (crewed State.reset id).resolveTag 31 = some 2 ∧
      ((crewed State.reset id).crew 2).dyn.onDuty = true ∧ ((crewed State.reset id).crew 2).dyn.held = [] ∧
      ((crewed State.reset id).crew 2).dyn.offer = none) ∧
    (holding id).Answers byTrunk 1 ∧ (holding id).resolveTag 31 = some 2 ∧ ((holding id).crew 2).dyn.held ≠ [] :=
  ⟨⟨answers_down (by decide), by decide⟩, answers_down (by decide), by decide⟩

theorem witness_JobAnswersTheOfferOrMakesOne :
    ((offered (.running 1)).Answers byTrunk 2 ∧ (offered (.running 1)).OnDuty 31 2 ∧
      ((offered (.running 1)).crew 2).dyn.offer = some ⟨0, .running 1⟩) ∧
    ((crewed State.reset id).OnDuty 31 2 ∧ ((crewed State.reset id).crew 2).dyn.offer = none ∧
      (crewed State.reset id).choice 2 = none) ∧
    (let s := crewed (rescue .stalled id) id
     s.Answers byTrunk 2 ∧ s.OnDuty 31 2 ∧ (s.crew 2).dyn.offer = none ∧ s.choice 2 = some 0 ∧ (s.caseAt 0).owed = false) :=
  ⟨⟨answers_down (by decide), onDuty_crewed _ _ (by decide) (by decide), by decide⟩,
   ⟨onDuty_crewed _ _ (by decide) (by decide), by decide⟩,
   answers_down (by decide), onDuty_crewed _ _ (by decide) (by decide), by decide⟩

/-- Two eligible cases of equal urgency, the same age and the same lift, in each tie mode, the lower record is found; two held
cases stand in the order of R101. -/
theorem witness_ChoicesAndHeldListsGoByUrgency :
    (let s := crewed ((rescue .stalled id).setCase 15 case812) id
     s.choice 2 = some 0 ∧ s.settings.tieMode = .oldest ∧ (s.caseAt 0).urgency = (s.caseAt 15).urgency ∧
       s.eligible 2 15 = true) ∧
    (let s : State := { crewed ((rescue .stalled id).setCase 15 case812) id with
       settings := { State.reset.settings with tieMode := .rotate } }
     s.choice 2 = some 0 ∧ s.settings.tieMode = .rotate) ∧
    (kept.crew 2).dyn.held = [15] ∧ kept.heldOrder 2 = [15] := by decide

/-- By its serial and by none. -/
theorem witness_AcceptAssignsTheCase : let s := filled (offered (.running 1)) 29
    s.Answers byTrunk 3 ∧ s.OnDuty 31 2 ∧ (s.crew 2).dyn.offer = some ⟨0, .running 1⟩ ∧ s.NamesCase (some 812#16) 0 ∧
    s.NamesCase none 0 ∧ (s.caseAt 0).owed = false ∧ (s.caseAt 0).causes.has .stall = true ∧
    (s.classes[Cause.stall.index.val]).closeOnAccept = false :=
  ⟨answers_down (by decide), ⟨by decide, by decide⟩, by decide, names_of (by decide), .inl rfl, by decide⟩

/-- Case 812 offered to crew record 2 in record 5, another OPEN case of its serial in record 0. -/
def doubled : State :=
  crewed ((rescue .stalled id).setCase 5 { case812 with dispatch := .offered, crew := some 2 })
    fun d => { d with offer := some ⟨5, .running 1⟩ }

theorem witness_AcceptsAndDeclinesThatTakeNoCase :
    ((offered (.running 1)).Answers byTrunk 2 ∧ (offered (.running 1)).OnDuty 31 2 ∧
      ((offered (.running 1)).crew 2).dyn.offer = some ⟨0, .running 1⟩ ∧ ¬ (offered (.running 1)).NamesCase (some 601#16) 0) ∧
    (doubled.Answers byTrunk 2 ∧ doubled.OnDuty 31 2 ∧ (doubled.crew 2).dyn.offer = some ⟨5, .running 1⟩ ∧
      ¬ doubled.NamesCase (some 812#16) 5) ∧
    (let s := crewed State.reset fun d => { d with offerLost := some 813#16 }
     s.Answers byTrunk 2 ∧ s.OnDuty 31 2 ∧ (s.crew 2).dyn.offer = none ∧ (s.crew 2).dyn.offerLost = some 813#16) ∧
    ((crewed State.reset id).OnDuty 31 2 ∧ ((crewed State.reset id).crew 2).dyn.offer = none ∧
      ((crewed State.reset id).crew 2).dyn.offerLost = none) ∧
    (let s : State := { offered (.running 1) with classes := State.reset.classes.set 0 ⟨3, 1800, none, none, 3, 4, true⟩ }
     s.Answers byTrunk 2 ∧ s.OnDuty 31 2 ∧ (s.crew 2).dyn.offer = some ⟨0, .running 1⟩ ∧ s.NamesCase (some 812#16) 0 ∧ s.isOpen 0 = true ∧
       (s.caseAt 0).owed = false ∧ s.NoReopening (s.caseAt 0).lift ∧ (s.caseAt 0).causes = ⟨true, false, false, false, false⟩ ∧
       (s.classes[Cause.stall.index.val]).closeOnAccept = true) :=
  ⟨⟨answers_down (by decide), ⟨by decide, by decide⟩, by decide, names_not (.inl (by decide))⟩,
   ⟨answers_down (by decide), ⟨by decide, by decide⟩, by decide, names_not (.inr (by decide))⟩,
   ⟨answers_down (by decide), ⟨by decide, by decide⟩, by decide⟩, ⟨⟨by decide, by decide⟩, by decide⟩,
   answers_down (by decide), ⟨by decide, by decide⟩, by decide, names_of (by decide), by decide, by decide,
   ⟨by decide +kernel, by decide⟩, by decide, by decide⟩

theorem witness_DeclineReturnsTheCase : let s := filled (offered (.running 1)) 29
    s.Answers byTrunk 3 ∧ s.OnDuty 31 2 ∧ (s.crew 2).dyn.offer = some ⟨0, .running 1⟩ ∧ s.NamesCase (some 812#16) 0 ∧
    (s.caseAt 0).owed = false :=
  ⟨answers_down (by decide), ⟨by decide, by decide⟩, by decide, names_of (by decide), by decide⟩

/-- The min timer run out, and not; a procedure that waits for another event. -/
theorem witness_ArrivalIsJudgedByTheMinTimer :
    (let s := holding fun r => { r with
       window := ⟨.stopped, .running 1, true, false⟩, procedure := { r.procedure with wait := .event .evacuated } }
     s.Answers byTrunk 2 ∧ s.OnDuty 31 2 ∧ s.isOpen 0 = true ∧ (s.caseAt 0).owed = false ∧
       (s.caseAt 0).dispatch = .assigned ∧ (s.crew 2).dyn.held ≠ [] ∧
       (s.heldOrder 2).find? (fun e => (s.caseAt e).dispatch == .assigned) = some 0 ∧ s.heldSerial 2 812#16 = some 0 ∧
       (s.caseAt 0).procedure.wait ≠ .event .crewArrived ∧ (s.caseAt 0).window.minRunOut = true) ∧
    (let s := holding fun r => { r with
       window := ⟨.running 1, .running 1, false, false⟩, procedure := { r.procedure with wait := .event .evacuated } }
     s.Answers byTrunk 2 ∧ s.OnDuty 31 2 ∧ s.heldSerial 2 812#16 = some 0 ∧ (s.caseAt 0).dispatch = .assigned ∧
       (s.caseAt 0).procedure.wait ≠ .event .crewArrived ∧ (s.caseAt 0).window.minRunOut = false) :=
  ⟨⟨answers_down (by decide), ⟨by decide, by decide⟩, by decide⟩, answers_down (by decide), ⟨by decide, by decide⟩, by decide⟩

theorem witness_VoiceAndStandDownReachTheHeldCase : let s := holding id
    s.Answers byTrunk 2 ∧ s.Answers byTrunk 1 ∧ s.OnDuty 31 2 ∧ s.heldNamed 2 none = some 0 ∧
    s.heldNamed 2 (some 812#16) = some 0 ∧ s.isOpen 0 = true ∧ (s.caseAt 0).procedure.wait ≠ .event .voiceContact ∧
    (s.caseAt 0).owed = false ∧ s.NoReopening (s.caseAt 0).lift :=
  ⟨answers_down (by decide), answers_down (by decide), ⟨by decide, by decide⟩, by decide, by decide, by decide, by decide,
   by decide, ⟨by decide +kernel, by decide⟩⟩

/-- Lift 21's landings: at the threshold of creep and of the door zone, both sides. -/
theorem witness_ReportsSetTheLiftState : ((car .parked).lift 21).config.landings ≠ [] ∧
    ((car .parked).lift 21).config.creep ≤ ((514 : Int) - 512).natAbs ∧
    ¬ ((car .parked).lift 21).config.creep ≤ ((513 : Int) - 512).natAbs ∧
    ((22475 : Int) - 22400).natAbs ≤ ((car .parked).lift 21).config.doorZone ∧
    ¬ ((22476 : Int) - 22400).natAbs ≤ ((car .parked).lift 21).config.doorZone := by decide

/-- Line B polling lift 21 and panel 4, the window of lift 21 open, over the state `s` in which the lift has the last report `n`. -/
def watched (s : State) (n : Option CarRecord) : State :=
  let t := cycling s [5, 16] 5
  t.setDyn 21 { (t.lift 21).dyn with lastReport := n, pressBaseline := n.map CarRecord.presses, latch := .empty }

/-- The window of lift 21 holds a report frame whose judgement is `r`. -/
structure CarReported (s : State) (held : WindowHeld) (r : CarReport) : Prop where
  ready : s.Ready 3
  line : (s.line 1).state = .cycle ∧ (s.line 1).currentSlot = some (carSlot 5) ∧
    (s.line 1).slotSet.find? (fun x => carSlot 5 < x) = some 16
  judged : judgeWindow (carSlot 5) (s.line 1).collided held = .report r
  enabled : (s.lift (liftAt 1 5)).config.enabled = true ∧ (s.lift (liftAt 1 5)).dyn.latch = .empty

/-- What the report `r` of lift 21 raises. -/
def raisedBy (s : State) (r : CarReport) : CauseSet :=
  raisedCauses (s.lift 21).config (s.lift 21).dyn.truth ((takenReport s 21 r).1.lift 21).dyn.truth

/-- The report of `edgeReport`, and the same with the car EMPTY and its doors OPEN. -/
def edgeR : CarReport := { reported with position := 22475 }
/-- See `edgeR`. -/
def emptyR : CarReport := { edgeR with occupancy := .empty, doors := .opened }
/-- The frame of `emptyR`. -/
def emptyReport : List Byte := lineFrame [0x02#8, 0x00#8, 0x57#8, 0xCB#8, 0x80#8, 0x00#8, 0x48#8, 0x50#8, 0x96#8]

/-- Case 812 without a procedure, its cause still true, changed by `f`; its car has sent a report before. -/
def attended (f : Case → Case) : State :=
  watched (stillStalled (rescue .stalled fun r => f { r with procedure := .free })) (some (reported.decoded false))

/-- A report that raises nothing, one that opens a case, one that latches. -/
theorem witness_ReportsWithoutACase :
    (let s := watched (car .parked) none
     CarReported s (.frame edgeReport) edgeR ∧ (s.lift 21).dyn.openCase = none ∧ raisedBy s edgeR = .empty) ∧
    (∀ full ∈ [true, false],
      let s := (fun t => t.setDyn 21 { (t.lift 21).dyn with stopCount := 3 })
        (watched (if full then fullTable (car .halted) else car .halted) (some (reported.decoded false)))
      CarReported s (.frame reportBytes) reported ∧ s.Ready 4 ∧ (s.lift 21).dyn.openCase = none ∧ raisedBy s reported ≠ .empty ∧
      (full = true → ∀ c, (s.caseAt c).record ≠ .free) ∧ (full = false → (s.caseAt 0).record = .free) ∧
      (s.stepOf ⟨(s.lift 21).config.page, 0, false, .running, .none, 0, .stopped⟩).action = 12 ∧
      (s.stepOf ⟨(s.lift 21).config.page, 0, false, .running, .none, 0, .stopped⟩).argument = 2) := by
  refine ⟨⟨⟨ready_down (by decide), by decide, by decide +kernel, by decide⟩, by decide +kernel⟩, fun full _ => ?_⟩
  cases full <;>
    exact ⟨⟨ready_down (by decide), by decide, by decide +kernel, by decide⟩, ready_down (by decide), by decide +kernel⟩

/-- Reports of a lift whose case is open: the last cause falls at a WAITING case, and at an ASSIGNED one, where the zone's entry is
news alone; EVACUATED at a WAITING case of an EDGE cause and at one ON_SITE; and a fresh cause. -/
theorem witness_ReportsOfAnOpenCase :
    (let s := attended id
     CarReported s (.frame edgeReport) edgeR ∧ s.isOpen 0 = true ∧ (s.caseAt 0).lift = 21 ∧ (s.lift 21).dyn.openCase = some 0 ∧
       (s.caseAt 0).owed = false ∧ (s.caseAt 0).release = none ∧ (s.caseAt 0).procedure.status ≠ .running ∧
       (s.caseAt 0).presses ≤ 255 ∧ 0 < (s.classes[1]).skip ∧ (s.caseAt 0).dispatch = .waiting ∧
       ((takenReport s 21 edgeR).1.lift 21).dyn.truth = .empty ∧ (s.lift 21).dyn.truth = stallOnly ∧
       (s.caseAt 0).causes = stallOnly ∧ ((s.lift 21).config.cause .stall).trigger = .level ∧ raisedBy s edgeR = .empty ∧
       (takenReport s 21 edgeR).1.NoReopening 21) ∧
    (let s := attended fun r => { r with dispatch := .assigned }
     CarReported s (.frame edgeReport) edgeR ∧ raisedBy s edgeR = .empty ∧
       CarEvents .stalled .parked (some (reported.decoded false)) (edgeR.decoded true) [.inZone]) ∧
    (let s := attended fun r => { r with causes := ⟨false, true, false, false, false⟩ }
     CarReported s (.frame emptyReport) emptyR ∧ raisedBy s emptyR = .empty ∧ (s.caseAt 0).causes.alarm = true ∧
       ((s.lift 21).config.cause .alarm).trigger = .edge ∧ (takenReport s 21 emptyR).1.NoReopening 21 ∧
       CarEvents .stalled .parked (some (reported.decoded false)) (emptyR.decoded true) [.inZone, .doorsOpen, .evacuated]) ∧
    (CarReported (attended fun r => { r with dispatch := .onSite }) (.frame emptyReport) emptyR) ∧
    let s := attended fun r => { r with causes := ⟨false, true, false, false, false⟩ }
    let t := s.setDyn 21 { (s.lift 21).dyn with stopCount := 3 }
    CarReported t (.frame reportBytes) reported ∧ raisedBy t reported = stallOnly ∧ (t.caseAt 0).causes.stall = false := by
  have events {n : CarRecord} {l : List NamedEvent} (h : l.Sublist [.carMoved, .inZone, .doorsOpen, .evacuated])
      (h1 : NamedEvent.carMoved ∉ l) (h2 : NamedEvent.inZone ∈ l) (h3 : .doorsOpen ∈ l ↔ n.doors = .opened)
      (h4 : .evacuated ∈ l ↔ n.occupancy = .empty ∧ n.inZone = true ∧ n.doors = .opened) :
      CarEvents .stalled .parked (some (reported.decoded false)) n l :=
    ⟨h, iff_of_false h1 (by decide), iff_of_true h2 (by decide),
      h3.trans ⟨fun hn => ⟨hn, fun m hm => by cases hm; decide⟩, fun hn => hn.1⟩, h4⟩
  exact ⟨⟨⟨ready_down (by decide), by decide, by decide +kernel, by decide⟩, by decide, by decide, by decide, by decide, by decide,
      by decide, by decide, by decide, by decide, by decide +kernel, by decide, by decide, by decide, by decide +kernel,
      ⟨by decide +kernel, by decide +kernel⟩⟩,
    ⟨⟨ready_down (by decide), by decide, by decide +kernel, by decide⟩, by decide +kernel,
      events (by decide) (by decide) (by decide) (by decide) (by decide)⟩,
    ⟨⟨ready_down (by decide), by decide, by decide +kernel, by decide⟩, by decide +kernel, by decide, by decide,
      ⟨by decide +kernel, by decide +kernel⟩, events (by decide) (by decide) (by decide) (by decide) (by decide)⟩,
    ⟨ready_down (by decide), by decide, by decide +kernel, by decide⟩,
    ⟨ready_down (by decide), by decide, by decide +kernel, by decide⟩, by decide +kernel, by decide⟩

/-- What a LINE_RESET kept ends with the first taken report, which withdraws a case though the set has changed before; a LEVEL cause
of a latch so kept, and one of a case. -/
theorem witness_KeptTruthEndsWithAReport :
    let s := (rescue .unseen fun r => { r with causes := ⟨false, false, false, true, false⟩ }).setDyn 21 { (lift21 .unseen).dyn with
      lastReport := none, keptTruth := ⟨false, false, false, true, false⟩, latch := ⟨false, false, false, true, false⟩,
      openCase := some 0 }
    let e := ((takenReport s 21 reported).1.lift 21).dyn
    e.truth = (s.lift 21).dyn.truth ∧ e.truth ≠ (s.lift 21).standingTruth ∧ e.truth = .empty ∧
    (s.caseAt 0).dispatch = .waiting ∧ ((s.lift 21).config.cause .silent).trigger = .level ∧
    (s.lift 21).standingTruth.silent = true ∧ (s.lift 21).dyn.latch.silent = true ∧
    (truthTold s 21) = (s, []) ∧ (takenReport s 21 reported).2.head? = some (.truthTold 21) := by decide +kernel

/-- Lift 21 in SILENT, that cause true, enabled and LEVEL. -/
def silenced : State := (car .silent).setDyn 21 { (lift21 .silent).dyn with truth := ⟨false, false, false, true, false⟩ }

theorem witness_TruthAndRaisesFollowTheConditions :
    (silenced.lift 21).config.enabled = true ∧ (silenced.lift 21).dyn.truth.has .silent = true ∧
    ((resetLift silenced 21).1.truthOf 21).silent = false ∧
    (let s := (car .stalled).setDyn 21 { (lift21 .stalled).dyn with truth := stallOnly }
     (s.lift 21).config.enabled = true ∧ (s.lift 21).dyn.truth.has .stall = true ∧
       ((s.lift 21).config.cause .stall).enabled = true) ∧
    ((silenced.lift 21).config.cause .silent).enabled = true ∧ (silenced.lift 21).dyn.state ≠ .disabled ∧
    (silenced.lift 21).dyn.state ≠ .offline ∧ ((car .offline).lift 21).dyn.state = .offline ∧
    (State.reset.lift 0).dyn.state = .disabled := by decide

/-- A cause that the case has, and one that it lacks; record 15 FREE alone, and none; at the bound of the own queue. -/
theorem witness_RaisesAndWithdrawals :
    (let s := filled (rescue .stalled id) 30
     s.trunk.own.length + 2 ≤ 32 ∧ (s.lift 21).dyn.openCase = some 0 ∧ (s.caseAt 0).owed = false ∧
       stallOnly.diff (s.caseAt 0).causes = .empty ∧ CauseSet.manualOnly.diff (s.caseAt 0).causes ≠ .empty) ∧
    (let s := (fullTable (car .parked)).setCase 15 .free
     (s.lift 21).dyn.openCase = none ∧ (s.caseAt 15).record = .free ∧ ∀ e < (15 : CaseNo), (s.caseAt e).record ≠ .free) ∧
    ((∀ c, ((fullTable (car .parked)).caseAt c).record ≠ .free) ∧ CauseSet.manualOnly ≠ .empty) ∧
    ((rescue .parked id).lift 21).dyn.openCase = some 0 ∧ ((rescue .parked id).caseAt 0).dispatch = .waiting ∧
    ((rescue .parked id).caseAt 0).causes = stallOnly ∧ (((rescue .parked id).lift 21).config.cause .stall).trigger = .level ∧
    ((rescue .parked id).lift 21).dyn.truth.stall = false := by decide

theorem witness_PressThresholdsAndLatchTests : 0 < (State.reset.classes[1]).skip ∧
    ((rescue .stalled fun r => { r with presses := 255 }).caseAt 0).presses ≤ 255 := by decide

/-- Lifts 21 and 22 wait with a latch of ALARM, the table full but for record 15 or wholly. -/
def latched (free : Bool) : State :=
  let s := if free then (fullTable (car .stalled)).setCase 15 .free else fullTable (car .stalled)
  let d : LiftDynamic := { (lift21 .stalled).dyn with latch := ⟨true, true, false, false, false⟩ }
  (s.setLift 21 ⟨(lift21 .stalled).config, d⟩).setLift 22 ⟨(lift21 .stalled).config, d⟩

/-- No record FREE; record 15 FREE with two latches of one urgency, the lower index first; and a latch of causes all fallen. -/
theorem witness_LatchesAreArbitrated :
    (∀ c, ((latched false).caseAt c).record ≠ .free) ∧ ((latched true).caseAt 15).record = .free ∧
    (∀ e < (15 : CaseNo), ((latched true).caseAt e).record ≠ .free) ∧
    ((latched true).lift 21).standingLatch = ⟨false, true, false, false, false⟩ ∧
    (∀ j, ((latched true).lift j).standingLatch ≠ .empty → (latched true).urgencyAtOpening 21 ((latched true).lift 21).standingLatch =
      (latched true).urgencyAtOpening j ((latched true).lift j).standingLatch ∧ 21 ≤ j) ∧
    (latched true).trunk.own.length + 2 ≤ 32 ∧ (∀ i, ((car .stalled).lift i).standingLatch = .empty) ∧
    (rescue .stalled id).isOpen 0 = true ∧ ((rescue .stalled id).caseAt 0).owed = false := by decide +kernel

/-- A release may begin, and each test in turn fails. -/
theorem witness_ReleasesBeginOrAreRefused :
    let n : CarRecord := { reported.decoded false with mode := .inhibited }
    let s (d : DispatchState) (report : Option CarRecord) (p : Option PanelIdx) : State :=
      crewed ((rescue .stalled fun r => { r with dispatch := d, crew := some 2 }).setDyn 21
        { (lift21 .stalled).dyn with lastReport := report, openCase := some 0 }) fun e => { e with held := [0], logged := p }
    ((s .onSite (some n) (some 4)).releaseStart 0).toOption = some ⟨.awaitHold, 4, .down, 1, 7750, 20, 0, 6, 0, .stopped⟩ ∧
    ((s .assigned (some n) (some 4)).caseAt 0).dispatch ≠ .onSite ∧
    ((s .onSite none (some 4)).lift 21).dyn.lastReport = none ∧
    ((s .onSite (some (reported.decoded false)) (some 4)).lift 21).dyn.lastReport = some (reported.decoded false) ∧
    (reported.decoded false).mode ≠ .inhibited ∧
    ((s .onSite (some n) (some 3)).crew 2).dyn.logged = some 3 ∧ panelLine 3 ≠ 1 ∧ panelLine 4 = 1 := by decide +kernel

/-- The figures of section 7.2.1 for 30,150 mm, and the reach and the cap met exactly. -/
theorem witness_ReleasePlansFollowTheirSteps : let g := (lift21 .stalled).config
    g.landings.Pairwise (· < ·) ∧ 0 < g.step ∧ inDoorZone g.landings g.doorZone 22475 = true ∧
    inDoorZone g.landings g.doorZone 30150 = false ∧ ((49 : Int) - g.balance).natAbs < 5 ∧
    5 ≤ ((50 : Int) - g.balance).natAbs ∧ g.landings[1]? = some 22400 ∧ 22400 + g.doorZone < 30150 ∧
    ((22400 : Int) - 30150).natAbs ≤ 20 * g.step ∧ 20 * g.step < ((22400 : Int) - 30150).natAbs + g.step ∧
    ((22400 : Int) - 30150).natAbs ≤ g.reach ∧ 20 + 20 ≤ g.cap ∧ g.cap < 21 + 20 := by decide

theorem witness_HoldChangesActBySubState : let s := rescue .stalled fun r => { r with
      release := some (releaseIn .pulsePending), pending := some ⟨.brakePulse 7 .down, .release⟩ }
    s.isOpen 0 = true ∧ (s.caseAt 0).release = some (releaseIn .pulsePending) ∧
    (s.caseAt 0).pending = some ⟨.brakePulse 7 .down, .release⟩ ∧ (releaseIn .pulsePending).panel = 4 ∧ (3 : PanelIdx) ≠ 4 ∧
    3 ≠ (releaseIn .pulsePending).lastPress := by decide

/-- A release of lift 21 at sub-state `sub`, the car's last report as given. -/
def reporting (sub : SubState) (n : CarRecord) : State :=
  (releasing sub fun r => { r with pending := some ⟨.brakePulse 7 .down, .release⟩ }).setDyn 21
    { (lift21 .stalled).dyn with lastReport := some n, openCase := some 0 }

/-- Ends with and without a procedure that waits; a report in each sub-state, and settle reports at both edges of the target's
zone and past it. -/
theorem witness_ReleaseReportsActBySubState :
    (let s := filled (releasing .pulsePending id) 31
     (s.caseAt 0).release = some (releaseIn .pulsePending) ∧ s.trunk.own.length < 32 ∧ (s.caseAt 0).owed = false ∧
       (s.caseAt 0).procedure.status = .running ∧ (s.caseAt 0).procedure.wait = .release) ∧
    ((rescue .stalled id).caseAt 0).procedure.wait ≠ .release ∧
    (∀ sub ∈ [SubState.awaitHold, .awaitChain, .pulsePending, .settling], ∀ p ∈ [22475, 22476, 61800, 60000],
      let n : CarRecord := { reported.decoded false with mode := .inhibited, position := p }
      let s := reporting sub n
      (s.caseAt 0).release = some (releaseIn sub) ∧ (s.lift (s.caseAt 0).lift).dyn.lastReport = some n ∧
      (s.caseAt 0).pending = some ⟨.brakePulse 7 .down, .release⟩ ∧ n.chainOpen = false ∧ n.echo = (releaseIn sub).sequence ∧
      n.brakeLifted = false) ∧
    (lift21 .stalled).config.landings.Pairwise (· < ·) ∧ 0 < (lift21 .stalled).config.step ∧
    (lift21 .stalled).config.landings[1]? = some 22400 ∧ ((22475 : Int) - 22400).natAbs ≤ 75 := by decide +kernel

theorem witness_StepsThatCompleteAtOnceGoOn : let s := filled (rescue .stalled id) 31
    s.isOpen 0 = true ∧ (s.caseAt 0).procedure.status = .running ∧ s.trunk.own.length < 32 ∧ (s.caseAt 0).owed = false ∧
    15 < 16 ∧ 16 ≤ 16 := by decide

/-- A clearing finds room for its notice in each dispatch state. -/
theorem witness_ClearingsGoByDispatchState : ∀ d ∈ [DispatchState.waiting, .offered, .assigned, .onSite, .cleared],
    let s := filled (rescue .stalled fun r => { r with dispatch := d }) 31
    s.trunk.own.length < 32 ∧ (s.caseAt 0).owed = false ∧ (s.caseAt 0).dispatch = d := by decide

/-- A case's command, a panel's answer and a routine command, each alone. -/
theorem witness_StartsCarryTheFirstCandidate :
    (let s := rescue .stalled fun r => { r with pending := some ⟨.inhibit, .procedure⟩ }
     s.isOpen 0 = true ∧ lineOf (s.caseAt 0).lift = 1 ∧ (s.caseAt 0).pending ≠ none ∧
       carSlot (carSlotOf (s.caseAt 0).lift) ∈ s.slotSet 1) ∧
    (let s := lineB (panelled (car .parked) id) fun r => { r with
       answers := r.answers.set 0 (some ⟨.ok, 31, none, 0#32⟩), routine := [⟨6, .inhibit⟩, ⟨5, .restore⟩] }
     (∀ c, (s.caseAt c).pending = none) ∧ (s.line 1).answers[0] ≠ none ∧ panelSlot 0 ∈ s.slotSet 1 ∧
       carSlot 6 ∉ s.slotSet 1 ∧ carSlot 5 ∈ s.slotSet 1) := by decide

/-- R15, R37: panel 4 is polled, panels 5 and 6 are not; a START discards their answers, whether it carries panel 4's or a case's
command. -/
theorem witness_UnpolledAnswersAreDiscarded : let a (n : BitVec 32) : Option PanelAnswer := some ⟨.ok, 31, none, n⟩
    let s := lineB (panelled { car .parked with time := { State.reset.time with stamp := 9#32 } } id) fun r => { r with
      answers := ((r.answers.set 0 (a 5#32)).set 1 (a 4#32)).set 2 (a 5#32) }
    (∀ c, (s.caseAt c).pending = none) ∧ panelSlot 0 ∈ s.slotSet 1 ∧ panelSlot 1 ∉ s.slotSet 1 ∧ panelSlot 2 ∉ s.slotSet 1 ∧
    (s.select 1 (s.slotSet 1)).answers = #v[none, none, none, none] ∧
    (s.select 1 (s.slotSet 1)).command = some (.toPanel 0 ⟨.ok, 31, none, 5#32⟩) ∧
    let u := lineB (panelled (rescue .stalled fun r => { r with pending := some ⟨.inhibit, .procedure⟩ }) id) fun r => { r with
      answers := (r.answers.set 0 (a 5#32)).set 1 (a 4#32) }
    (u.select 1 (u.slotSet 1)).delivered = some (0, ⟨.inhibit, .procedure⟩) ∧
    (u.select 1 (u.slotSet 1)).answers = #v[a 5#32, none, none, none] := by decide

/-- A line that keeps polling, and one that does not. -/
theorem witness_StopsChooseTheNextMode : (lastWindow (car .parked) .due .due).KeepsPolling 1 ∧
    ¬ (allQuiet (lastWindow (car .parked) .due .due)).KeepsPolling 1 :=
  ⟨.inl (by decide), by unfold State.KeepsPolling; decide +kernel⟩

theorem witness_ChecksTellFramesApart : (0#8 : Byte) ≠ 1#8 ∧ summaryFrame.body.bytes.length ≤ 250 := by decide

end Sys2Proof.Tests
end

section
/-! SUPPORT. How a handling runs on a gateway whose transmitters have nothing to begin. -/

namespace Sys2Proof.Machine

/-! ### Handlings on a gateway whose transmitters have nothing to begin -/

/-- The jobs come to their end in `t`, at most `n` jobs being done, and no transmitter has anything to begin before any of
them or at the end. -/
inductive Runs : Nat → State → List Job → State → Prop where
  | nil {n : Nat} {s : State} : s.Busy → Runs n s [] s
  | cons {n : Nat} {s t : State} {j : Job} {rest : List Job} : s.Busy →
      Runs n (perform s j).1 ((perform s j).2 ++ rest) t → Runs (n + 1) s (j :: rest) t

namespace Runs

variable {n m : Nat} {s t u : State} {j : Job} {a b jobs rest : List Job}

theorem busy (h : Runs n s jobs t) : s.Busy := by
  cases h <;> assumption

theorem busy_end (h : Runs n s jobs t) : t.Busy := by
  induction h with
  | nil hb => exact hb
  | cons _ _ ih => exact ih

/-- Jobs that come to their end within the budget are the handling. -/
theorem runJobs_eq (h : Runs n s jobs t) : ∀ fuel, n < fuel → runJobs fuel jobs s = .next t := by
  induction h with
  | nil hb =>
    intro fuel hf
    obtain ⟨k, rfl⟩ := Nat.exists_eq_add_of_lt hf
    exact runJobs_nil _ _ (kick_of_busy hb)
  | cons hb _ ih =>
    intro fuel hf
    obtain ⟨k, rfl⟩ := Nat.exists_eq_add_of_lt hf
    rw [runJobs_cons _ _ _ _ (kick_of_busy hb)]
    exact ih _ (by omega)

theorem finish_eq (h : Runs n s jobs t) (hn : n < 10000) : finish (s, jobs) = .next t := h.runJobs_eq _ hn

theorem mono (h : Runs n s jobs t) (hm : n ≤ m) : Runs m s jobs t := by
  induction h generalizing m with
  | nil hb => exact .nil hb
  | cons hb _ ih =>
    obtain ⟨k, rfl⟩ := Nat.exists_eq_add_of_le' (Nat.le_of_add_left_le hm)
    exact .cons hb (ih (by omega))

/-- A job done by its block, with the jobs it gives rise to. -/
theorem step (hb : s.Busy) (hj : perform s j = (u, a)) (h : Runs n u (a ++ rest) t) : Runs (n + 1) s (j :: rest) t :=
  .cons hb (by rw [hj]; exact h)

/-- A single job that comes to what its own jobs come to. -/
theorem of_step {w : Work} (hb : s.Busy) (hj : perform s j = w) (h : Runs n w.1 w.2 t) : Runs (n + 1) s [j] t :=
  .cons hb (by rw [hj, List.append_nil]; exact h)

/-- A job that gives rise to none. -/
theorem step_alone (hb : s.Busy) (hj : perform s j = (u, [])) (h : Runs n u rest t) : Runs (n + 1) s (j :: rest) t :=
  step hb hj h

theorem one (hb : s.Busy) (hj : perform s j = (t, [])) (ht : t.Busy) : Runs 1 s [j] t :=
  step_alone hb hj (.nil ht)

/-- A handling of two lists of jobs is that of the first, then that of the second. -/
theorem append (ha : Runs n s a t) (hb : Runs m t b u) : Runs (n + m) s (a ++ b) u := by
  induction ha with
  | @nil n s _ => exact hb.mono (Nat.le_add_left m n)
  | @cons n s t j rest hs _ ih =>
    rw [Nat.succ_add]
    exact .cons hs (by simpa [List.append_assoc] using ih hb)

/-- The jobs of each entry of a list, each entry taking the state on by `g` and keeping `P`. -/
theorem flatMap {α : Type} {f : α → List Job} {g : State → α → State} {P : State → Prop} (xs : List α)
    (hP : ∀ s x, x ∈ xs → s.Busy → P s → Runs n s (f x) (g s x) ∧ P (g s x)) :
    ∀ s, s.Busy → P s → Runs (n * xs.length) s (xs.flatMap f) (xs.foldl g s) ∧ P (xs.foldl g s) := by
  induction xs with
  | nil => exact fun s hb hs => ⟨.nil hb, hs⟩
  | cons x xs ih =>
    intro s hb hs
    obtain ⟨hrun, hkeep⟩ := hP s x (by simp) hb hs
    obtain ⟨hrest, hend⟩ := ih (fun s y hy => hP s y (by simp [hy])) _ hrun.busy_end hkeep
    refine ⟨?_, hend⟩
    rw [List.length_cons, Nat.mul_succ, Nat.add_comm]
    exact hrun.append hrest

/-- One job for each entry of a list, likewise. -/
theorem map {α : Type} {f : α → Job} {g : State → α → State} {P : State → Prop} (xs : List α)
    (hP : ∀ s x, x ∈ xs → s.Busy → P s → Runs n s [f x] (g s x) ∧ P (g s x)) :
    ∀ s, s.Busy → P s → Runs (n * xs.length) s (xs.map f) (xs.foldl g s) ∧ P (xs.foldl g s) := by
  rw [List.map_eq_flatMap]
  exact flatMap xs hP

/-- Jobs that do nothing in the state. -/
theorem skips (hb : s.Busy) (h : ∀ j ∈ jobs, perform s j = (s, [])) : Runs jobs.length s jobs s := by
  induction jobs with
  | nil => exact .nil hb
  | cons j rest ih => exact step_alone hb (h j (by simp)) (ih fun i hi => h i (by simp [hi]))

end Runs

end Sys2Proof.Machine
end

section
/-! SUPPORT. The command slot selection (R15 to R17, R37). -/

namespace Sys2Proof.Machine

/-! ### The best entry of a list -/

section

variable {α β : Type} [LinearOrder α] [LinearOrder β] {better : α → α → Bool} {f : α → β}

theorem foldl_better_eq (hf : ∀ x y, better x y = true ↔ f x < f y) {a : α} (xs : List α) :
    ∀ best, (best :: xs).Pairwise (· < ·) → a ∈ best :: xs →
      (∀ b ∈ best :: xs, f a < f b ∨ (f a = f b ∧ a ≤ b)) →
      xs.foldl (fun best x => if better x best then x else best) best = a := by
  induction xs with
  | nil => intro best _ ha _; exact (List.mem_singleton.mp ha).symm
  | cons y xs ih =>
    intro best hs ha hbest
    obtain ⟨⟨hlt, hx⟩, hy, hxs⟩ := by simpa using hs
    have hba := hbest best (by simp)
    have hya := hbest y (by simp)
    by_cases hb : f y < f best
    · have hne : a ≠ best := fun h => by subst h; grind
      simp only [List.foldl_cons, (hf _ _).mpr hb, if_true]
      exact ih y (by simpa using ⟨hy, hxs⟩) (by simpa [hne] using ha) fun b hm => hbest b (by simp_all)
    · have hne : a ≠ y := fun h => by subst h; grind
      rw [List.foldl_cons, if_neg (by rw [hf]; exact hb)]
      exact ih best (by simpa using ⟨hx, hxs⟩) (by simpa [hne] using ha) fun b hm => hbest b (by simp_all; tauto)

/-- Of an ascending list judged by `f`, the entry chosen is the one of least `f`, the lower of equals. -/
theorem pickBest_eq_some (hf : ∀ x y, better x y = true ↔ f x < f y) {a : α} {xs : List α} (hs : xs.Pairwise (· < ·))
    (ha : a ∈ xs) (hbest : ∀ b ∈ xs, f a < f b ∨ (f a = f b ∧ a ≤ b)) : pickBest better xs = some a := by
  cases xs with
  | nil => simp at ha
  | cons x xs => exact congrArg some (foldl_better_eq hf xs x hs ha hbest)

end

theorem pickBest_mem {α : Type} {better : α → α → Bool} {xs : List α} {a : α} (h : pickBest better xs = some a) :
    a ∈ xs := by
  have hfold : ∀ (ys : List α) (b : α), ys.foldl (fun best x => if better x best then x else best) b ∈ b :: ys := by
    intro ys
    induction ys with
    | nil => simp
    | cons y ys ih =>
      intro b
      rw [List.foldl_cons]
      by_cases hb : better y b = true
      · rw [if_pos hb]; exact List.mem_cons_of_mem _ (ih y)
      · rw [if_neg hb]; exact (List.mem_cons.mp (ih b)).elim (by simp_all) fun h => by simp [h]
  cases xs with
  | nil => simp [pickBest] at h
  | cons x xs =>
    obtain rfl : _ = a := Option.some.inj h
    exact hfold xs x

theorem finRange_filter_ascending {n : Nat} (p : Fin n → Bool) : ((List.finRange n).filter p).Pairwise (· < ·) :=
  (List.pairwise_lt_finRange n).filter p

/-! ### The command slot selection (R15) -/

/-- The OPEN case of record `c` on line `l` has a pending command for a car of `slots` (R15 step 1). -/
def State.CommandWaits (s : State) (l : LineId) (slots : List Slot) (c : CaseNo) : Prop :=
  s.isOpen c = true ∧ lineOf (s.caseAt c).lift = l ∧ (s.caseAt c).pending ≠ none ∧
    carSlot (carSlotOf (s.caseAt c).lift) ∈ slots

@[simp] theorem State.mem_openOn {s : State} {l : LineId} {c : CaseNo} :
    c ∈ s.openOn l ↔ s.isOpen c = true ∧ lineOf (s.caseAt c).lift = l := by
  simp [State.openOn, State.openRecords, and_comm]

theorem State.openOn_ascending (s : State) (l : LineId) : (s.openOn l).Pairwise (· < ·) :=
  (finRange_filter_ascending _).filter _

theorem State.openOn_isEmpty {s : State} {l : LineId} :
    (s.openOn l).isEmpty = true ↔ ∀ c, s.isOpen c = true → lineOf (s.caseAt c).lift ≠ l := by
  rw [List.isEmpty_iff, List.eq_nil_iff_forall_not_mem]
  simp

/-- The OPEN cases whose commands the selection compares, in record order. -/
theorem State.mem_waitingCases {s : State} {l : LineId} {slots : List Slot} {c : CaseNo} :
    c ∈ ((s.openOn l).filter fun c =>
      (s.caseAt c).pending.isSome && slots.contains (carSlot (carSlotOf (s.caseAt c).lift))) ↔ s.CommandWaits l slots c := by
  simp [State.CommandWaits, Option.isSome_iff_ne_none, and_assoc]

theorem State.caseCommand_none {s : State} {l : LineId} {slots : List Slot} (h : ∀ c, ¬ s.CommandWaits l slots c) :
    s.caseCommand l slots = none := by
  unfold State.caseCommand
  rw [List.eq_nil_iff_forall_not_mem.mpr fun c hc => h c (State.mem_waitingCases.mp hc)]
  rfl

/-- The command chosen is that of a waiting case. -/
theorem State.caseCommand_some {s : State} {l : LineId} {slots : List Slot} {c : CaseNo} {m : PendingCommand}
    (h : s.caseCommand l slots = some (c, m)) : s.CommandWaits l slots c ∧ (s.caseAt c).pending = some m := by
  unfold State.caseCommand at h
  obtain ⟨d, hd, hm⟩ := Option.bind_eq_some_iff.mp h
  obtain ⟨x, hx, hp⟩ := Option.map_eq_some_iff.mp hm
  obtain ⟨rfl, rfl⟩ := Prod.mk.inj hp
  exact ⟨State.mem_waitingCases.mp (pickBest_mem hd), hx⟩

/-- The best urgency goes first, then the lower record (R15 step 1). -/
theorem State.caseCommand_eq {s : State} {l : LineId} {slots : List Slot} {c : CaseNo} {m : PendingCommand}
    (hc : s.CommandWaits l slots c) (hm : (s.caseAt c).pending = some m)
    (hbest : ∀ e, s.CommandWaits l slots e → (s.caseAt c).urgency < (s.caseAt e).urgency ∨
      ((s.caseAt c).urgency = (s.caseAt e).urgency ∧ c ≤ e)) : s.caseCommand l slots = some (c, m) := by
  unfold State.caseCommand
  dsimp only
  rw [pickBest_eq_some (f := fun c => (s.caseAt c).urgency) (by simp)
    ((s.openOn_ascending l).filter _)
    (State.mem_waitingCases.mpr hc) fun e he => hbest e (State.mem_waitingCases.mp he)]
  simp [hm]

/-- The answer pending longest, the lower place of equals (R15 step 2). -/
theorem earliestAnswer_eq {now : BitVec 32} {answers : Vector (Option PanelAnswer) 4} {k : Fin 4}
    (hk : answers[k.val] ≠ none)
    (hbest : ∀ j : Fin 4, answers[j.val] ≠ none → answerAge now answers[j.val] < answerAge now answers[k.val] ∨
      (answerAge now answers[j.val] = answerAge now answers[k.val] ∧ k ≤ j)) : earliestAnswer now answers = some k := by
  unfold earliestAnswer
  refine pickBest_eq_some (f := fun k : Fin 4 => OrderDual.toDual (answerAge now answers[k.val])) (by simp)
    (finRange_filter_ascending _) ?_ ?_
  · simpa [Option.isSome_iff_ne_none] using hk
  · intro j hj
    have := hbest j (by simpa [Option.isSome_iff_ne_none] using hj)
    simpa [eq_comm] using this

theorem earliestAnswer_none {now : BitVec 32} {answers : Vector (Option PanelAnswer) 4}
    (h : ∀ k : Fin 4, answers[k.val] = none) : earliestAnswer now answers = none := by
  unfold earliestAnswer
  rw [List.filter_eq_nil_iff.mpr (by simp [h])]
  rfl

section

variable {s : State} {l : LineId} {slots : List Slot}

theorem State.select_case {c : CaseNo} {m : PendingCommand} (h : s.caseCommand l slots = some (c, m)) :
    s.select l slots = ⟨some (.toCar (carSlotOf (s.caseAt c).lift) m.command), some (c, m),
      polledAnswers slots (s.line l).answers, (s.line l).routine⟩ := by
  simp [State.select, h]

theorem State.select_answer {k : Fin 4} (h : s.caseCommand l slots = none)
    (hk : earliestAnswer s.stamp (polledAnswers slots (s.line l).answers) = some k) :
    s.select l slots = ⟨((polledAnswers slots (s.line l).answers)[k.val]).map (.toPanel k), none,
      (polledAnswers slots (s.line l).answers).set k.val none, (s.line l).routine⟩ := by
  simp [State.select, h, hk]

theorem State.select_routine (h : s.caseCommand l slots = none)
    (hk : earliestAnswer s.stamp (polledAnswers slots (s.line l).answers) = none) :
    s.select l slots = ⟨(sendable slots (s.line l).routine).head?.map fun e => .toCar e.slot e.command, none,
      polledAnswers slots (s.line l).answers, (sendable slots (s.line l).routine).tail⟩ := by
  unfold State.select
  simp only [h, hk]
  split <;> simp_all

/-- The selection says which case is delivered to exactly where a case's command is chosen. -/
theorem State.select_delivered : (s.select l slots).delivered = s.caseCommand l slots := by
  unfold State.select
  dsimp only
  split
  · next h => rw [h]
  · next h => split <;> [skip; split] <;> rw [h]

/-- R37: the answer of a panel that is not polled does not outlive the START. -/
theorem State.select_answers_unpolled {k : Fin 4} (hk : panelSlot k ∉ slots) : (s.select l slots).answers[k.val] = none := by
  have hkept : (polledAnswers slots (s.line l).answers)[k.val] = none := by simp [hk]
  unfold State.select
  dsimp only
  split
  · exact hkept
  · split
    · next j _ =>
      by_cases hj : j = k
      · simp [hj]
      · simpa [Vector.getElem_set_ne, Fin.val_ne_of_ne hj] using hkept
    · split <;> exact hkept

/-- The first routine command whose target is polled, those before it being discarded. -/
theorem sendable_eq {before rest : List RoutineEntry} {e : RoutineEntry} (hb : ∀ b ∈ before, carSlot b.slot ∉ slots)
    (he : carSlot e.slot ∈ slots) : sendable slots (before ++ e :: rest) = e :: rest := by
  unfold sendable
  rw [List.dropWhile_append_of_pos (by simpa using hb)]
  simp [he]

theorem sendable_none {queue : List RoutineEntry} (h : ∀ e ∈ queue, carSlot e.slot ∉ slots) : sendable slots queue = [] := by
  simpa [sendable] using h

end

/-- Settles O58: the choice goes down the three kinds of candidate, and each kind's best is the one `pickBest` finds. -/
theorem startsCarryTheFirstCandidate : Obligations.StartsCarryTheFirstCandidate := by
  intro s l slots x waits age answers
  have hkept : ∀ k : Fin 4, answers k →
      (polledAnswers slots (s.line l).answers)[k.val] = (s.line l).answers[k.val] := fun k hk => by simp [hk.2]
  have hpending : ∀ k : Fin 4, (polledAnswers slots (s.line l).answers)[k.val] ≠ none → answers k := fun k hk => by
    simp only [polledAnswers_get, List.contains_iff_mem] at hk
    split at hk
    · next hm => exact ⟨hk, hm⟩
    · exact absurd rfl hk
  refine ⟨fun c hc hbest => ?_, fun k hk => State.select_answers_unpolled hk, fun hnone => ?_⟩
  · obtain ⟨m, hm⟩ := Option.ne_none_iff_exists'.mp hc.2.2.1
    have hx : x = _ := State.select_case (State.caseCommand_eq hc hm hbest)
    exact ⟨m, hm, by rw [hx], by rw [hx], fun k hk => by rw [hx]; exact hkept k hk, by rw [hx]⟩
  · have hcase : s.caseCommand l slots = none := State.caseCommand_none hnone
    refine ⟨State.select_delivered.trans hcase, fun k hk hbest => ?_, fun hno => ?_⟩
    · have hage : ∀ j, answers j → answerAge s.stamp (polledAnswers slots (s.line l).answers)[j.val] = age j :=
        fun j hj => by rw [hkept j hj]; rfl
      have hx : x = _ := State.select_answer hcase (earliestAnswer_eq (hkept k hk ▸ hk.1) fun j hj => by
        rw [hage j (hpending j hj), hage k hk]; exact hbest j (hpending j hj))
      obtain ⟨a, ha⟩ := Option.ne_none_iff_exists'.mp hk.1
      refine ⟨⟨a, ha, ?_⟩, ?_, fun j hj hne => ?_, by rw [hx]⟩
      · rw [hx]; simp only [hkept k hk, ha]; rfl
      · simp [hx]
      · simp only [hx]
        rw [Vector.getElem_set_ne _ _ (Fin.val_ne_of_ne hne.symm), hkept j hj]
    · have hempty : ∀ k : Fin 4, (polledAnswers slots (s.line l).answers)[k.val] = none := fun k => by
        by_contra hk; exact hno k (hpending k hk)
      have hx : x = _ := State.select_routine hcase (earliestAnswer_none hempty)
      refine ⟨fun k => by rw [hx]; exact hempty k, fun before e rest hr hb he => ?_, fun hr => ?_⟩
      · rw [hx, hr, sendable_eq hb he]; exact ⟨rfl, rfl⟩
      · rw [hx, sendable_none hr]; exact ⟨rfl, rfl⟩

end Sys2Proof.Machine
end

section
/-! SUPPORT. STOP and the next mode (R11), the values after a power-on reset, and checks as bytes. -/

namespace Sys2Proof.Machine

/-! ### The next mode (R11) -/

theorem LiftState.needsPolling_iff (st : LiftState) :
    st.needsPolling = true ↔ st ∈ [LiftState.offline, .unseen, .halted, .stalled, .silent] := by
  cases st <;> decide

/-- The next mode is CONTINUOUS exactly where the line keeps polling. -/
theorem State.staysContinuous_iff (s : State) (l : LineId) : s.staysContinuous l = true ↔ s.KeepsPolling l := by
  have hopen : (s.openOn l).isEmpty = false ↔ ∃ c, s.isOpen c = true ∧ lineOf (s.caseAt c).lift = l := by
    rw [← Bool.not_eq_true, State.openOn_isEmpty]
    push Not; rfl
  have hanswers : (s.line l).answers.toList.any Option.isSome = true ↔ ∃ k : Fin 4, (s.line l).answers[k.val] ≠ none := by
    simp only [List.any_eq_true, Vector.mem_toList_iff, Option.isSome_iff_ne_none, Vector.mem_iff_getElem]
    exact ⟨fun ⟨_, ⟨i, hi, h⟩, hne⟩ => ⟨⟨i, hi⟩, h ▸ hne⟩, fun ⟨k, hk⟩ => ⟨_, ⟨k.val, k.isLt, rfl⟩, hk⟩⟩
  have hroutine : (s.line l).routine.isEmpty = false ↔ (s.line l).routine ≠ [] := by
    rw [← Bool.not_eq_true, List.isEmpty_iff]
  simp only [State.staysContinuous, State.KeepsPolling, Bool.or_eq_true, beq_iff_eq, Bool.not_eq_true', hopen, hroutine,
    hanswers, List.any_eq_true, List.mem_finRange, true_and, LiftState.needsPolling_iff, or_assoc]

/-- The record of a line after a STOP into the mode and state (R11). -/
def Line.stoppedIn (r : Line) (m : CycleMode) (st : LineState) : Line :=
  { r with state := st, mode := m, currentSlot := none, collided := false, lastStop := some m }

/-- A STOP of a line that keeps polling: it waits for its interval. -/
theorem stopLine_continuous {s : State} {l : LineId} (h : s.KeepsPolling l) :
    stopLine s l = (s.setLine l ((s.line l).stoppedIn .continuous .waitInterval),
      if (s.line l).intervalTimer.isRunning then [] else [.start l none]) := by
  simp [stopLine, (s.staysContinuous_iff l).mpr h, Line.stoppedIn]

/-- A STOP of a line that does not: it stands in QUIET_IDLE. -/
theorem stopLine_quiet {s : State} {l : LineId} (h : ¬ s.KeepsPolling l) :
    stopLine s l = (s.setLine l ((s.line l).stoppedIn .quiet .quietIdle),
      if (s.line l).ceilingTimer.isRunning then [] else [.start l none]) := by
  simp [stopLine, show s.staysContinuous l = false by simpa using mt (s.staysContinuous_iff l).mp h, Line.stoppedIn]

/-- Settles O59: the two equations of STOP, by whether the line keeps polling. -/
theorem stopsChooseTheNextMode : Obligations.StopsChooseTheNextMode := by
  intro s l t stays
  by_cases h : s.KeepsPolling l
  · have ht : t = _ := congrArg Prod.fst (stopLine_continuous h)
    refine ⟨by simp [ht], fun _ => ⟨?_, congrArg Prod.snd (stopLine_continuous h)⟩, fun hn => absurd h hn⟩
    rw [ht, State.line_setLine]; rfl
  · have ht : t = _ := congrArg Prod.fst (stopLine_quiet h)
    refine ⟨by simp [ht], fun hs => absurd hs h, fun _ => ⟨?_, congrArg Prod.snd (stopLine_quiet h)⟩⟩
    rw [ht, State.line_setLine]; rfl

/-! ### The values after a power-on reset -/

@[simp] theorem State.reset_line (l : LineId) : State.reset.line l = .reset := by
  simp [State.reset, State.powerOn, State.line]
@[simp] theorem State.reset_lift (i : LiftIdx) : State.reset.lift i = ⟨.reset i, .entered .disabled⟩ := by
  simp [State.reset, State.powerOn, State.lift]
@[simp] theorem State.reset_panel (p : PanelIdx) : State.reset.panel p = .reset := by
  simp [State.reset, State.powerOn, State.panel]
@[simp] theorem State.reset_caseAt (c : CaseNo) : State.reset.caseAt c = .free := by
  simp [State.reset, State.powerOn, State.caseAt]
@[simp] theorem State.reset_crew (k : CrewNo) : State.reset.crew k = .reset k := by
  simp [State.reset, State.powerOn, State.crew]
theorem State.reset_travel (i : Fin 16) : State.reset.travel[i.val] = ⟨0, 9000⟩ := by
  simp [State.reset, State.powerOn]
theorem State.reset_store (i : Fin 256) : State.reset.store[i.val] = .reset := by
  simp [State.reset, State.powerOn]
theorem State.reset_lineSettings (l : LineId) : State.reset.lineSettings l = ⟨.continuous, 5, 50, 6⟩ := by
  simp [State.reset, State.powerOn, State.lineSettings, Settings.reset]

/-- Settles O2: the record at each place of a table of the reset state is the table's one reset record. -/
theorem resetStandsAtThePowerOnValues : Obligations.ResetStandsAtThePowerOnValues := by
  refine ⟨fun l => ?_, fun i => ?_, fun p => ?_, fun c => ?_, fun k => ?_, State.reset_travel, fun i => ?_, ?_⟩
  case refine_1 => simp [Line.reset, State.reset_lineSettings]
  case refine_2 => rw [State.reset_lift]; exact ⟨rfl, rfl⟩
  case refine_3 => rw [State.reset_panel]; rfl
  case refine_4 => rw [State.reset_caseAt]; rfl
  case refine_5 => rw [State.reset_crew]; exact ⟨rfl, rfl⟩
  case refine_6 => rw [State.reset_store]; exact ⟨rfl, rfl, rfl, rfl⟩
  case refine_7 => repeat' constructor

/-! ### The bytes of a window (R7, section 11.1) -/

theorem word2_append (a b : Byte) : word2 a b = a ++ b := by
  apply BitVec.eq_of_toNat_eq
  simp only [word2, num2, BitVec.toNat_ofNat, BitVec.toNat_append]
  have := a.isLt; have := b.isLt
  rw [← Nat.shiftLeft_add_eq_or_of_lt b.isLt, Nat.shiftLeft_eq]
  omega

/-- Two bytes hold a check exactly where they spell its value. -/
theorem eq_checkBytes_iff (v : BitVec 16) (a b : Byte) : [a, b] = checkBytes v ↔ v = word2 a b := by
  rw [word2_append]
  simp only [checkBytes, List.cons.injEq, and_true]
  constructor
  · rintro ⟨rfl, rfl⟩; ext i hi; simp; grind
  · rintro rfl; constructor <;> (ext i hi; simp; try grind)

end Sys2Proof.Machine
end

section
/-! SUPPORT. How a window is judged by its bytes (R7, R14, R173). -/

namespace Sys2Proof.Machine

theorem decodeCarMode_none {n : Nat} : decodeCarMode n = none ↔ 3 ≤ n := by
  unfold decodeCarMode; split <;> simp_all; omega
theorem decodeOccupancy_none {n : Nat} : decodeOccupancy n = none ↔ 3 ≤ n := by
  unfold decodeOccupancy; split <;> simp_all; omega
theorem decodeDoors_none {n : Nat} : decodeDoors n = none ↔ 3 ≤ n := by
  unfold decodeDoors; split <;> simp_all; omega

/-- A REPORT body is outside its lists exactly where one of its three enumerated codes is 3 (R173). -/
theorem decodeReport_none (b0 b1 b2 b3 b4 b5 b6 b7 : Byte) :
    decodeReport b0 b1 b2 b3 b4 b5 b6 b7 = none ↔
      b0.toNat / 64 = 3 ∨ b6.toNat / 64 = 3 ∨ b6.toNat / 16 % 4 = 3 := by
  have hcodes : decodeReport b0 b1 b2 b3 b4 b5 b6 b7 = none ↔ decodeCarMode (b0.toNat / 64) = none ∨
      decodeOccupancy (b6.toNat / 64) = none ∨ decodeDoors (b6.toNat / 16 % 4) = none := by
    unfold decodeReport
    cases decodeCarMode (b0.toNat / 64) <;> cases decodeOccupancy (b6.toNat / 64) <;>
      cases decodeDoors (b6.toNat / 16 % 4) <;> simp
  rw [hcodes, decodeCarMode_none, decodeOccupancy_none, decodeDoors_none]
  have := b0.isLt; have := b6.isLt
  omega

/-- A PANEL body is outside its lists exactly with a tag of 255 or a request code above 10 (R173). -/
theorem decodePanel_none (b0 b1 b2 b3 b4 : Byte) :
    decodePanel b0 b1 b2 b3 b4 = none ↔ b0.toNat = 255 ∨ 10 < b1.toNat / 8 % 16 := by
  simp [decodePanel, or_iff_not_imp_left]

theorem toNat_eq_iff (k : Byte) (n : Nat) (hn : n < 256) : k.toNat = n ↔ k = BitVec.ofNat 8 n := by
  rw [← BitVec.toNat_inj]; simp [Nat.mod_eq_of_lt hn]

/-- What a car slot's answer of the right kind, length and check comes to. -/
def carAnswer : Option CarReport → SlotAnswer
  | some r => .report r
  | none => .silent true

/-- What a panel slot's answer of the right kind, length and check comes to. -/
def panelAnswer : Option PanelReport → SlotAnswer
  | some r => .panel r
  | none => .silent true

theorem judgeCar_bad {bytes : List Byte}
    (h : bytes.length ≠ 11 ∨ bytes[0]? ≠ some 2#8 ∨ bytes.drop 9 ≠ checkBytes (lineCrc (bytes.take 9))) :
    judgeCar bytes = .silent true := by
  unfold judgeCar
  split
  · simp only [List.length_cons, List.length_nil, ne_eq, not_true, false_or, List.getElem?_cons_zero, Option.some.injEq,
      List.drop_succ_cons, List.drop_zero, List.take_succ_cons, List.take_zero, eq_checkBytes_iff] at h
    rw [if_neg]
    rw [Bool.and_eq_true, decide_eq_true_eq, beq_iff_eq, toNat_eq_iff _ _ (by decide)]
    tauto
  · rfl

theorem judgePanel_bad {bytes : List Byte}
    (h : bytes.length ≠ 8 ∨ bytes[0]? ≠ some 3#8 ∨ bytes.drop 6 ≠ checkBytes (lineCrc (bytes.take 6))) :
    judgePanel bytes = .silent true := by
  unfold judgePanel
  split
  · simp only [List.length_cons, List.length_nil, ne_eq, not_true, false_or, List.getElem?_cons_zero, Option.some.injEq,
      List.drop_succ_cons, List.drop_zero, List.take_succ_cons, List.take_zero, eq_checkBytes_iff] at h
    rw [if_neg]
    rw [Bool.and_eq_true, decide_eq_true_eq, beq_iff_eq, toNat_eq_iff _ _ (by decide)]
    tauto
  · rfl

theorem toList_eight {α : Type} (b : Vector α 8) :
    b.toList = [b[0], b[1], b[2], b[3], b[4], b[5], b[6], b[7]] := by
  refine List.ext_getElem (by simp) fun i hi _ => ?_
  rw [Vector.length_toList] at hi
  interval_cases i <;> rfl

theorem toList_five {α : Type} (b : Vector α 5) : b.toList = [b[0], b[1], b[2], b[3], b[4]] := by
  refine List.ext_getElem (by simp) fun i hi _ => ?_
  rw [Vector.length_toList] at hi
  interval_cases i <;> rfl

/-- A well-formed REPORT is judged by its codes. -/
theorem judgeCar_good (b : Vector Byte 8) :
    judgeCar (2#8 :: b.toList ++ checkBytes (lineCrc (2#8 :: b.toList))) =
      carAnswer (decodeReport b[0] b[1] b[2] b[3] b[4] b[5] b[6] b[7]) := by
  rw [toList_eight, checkBytes]
  simp only [List.cons_append, List.nil_append, judgeCar]
  rw [if_pos (by simpa using (eq_checkBytes_iff _ _ _).mp rfl)]
  split <;> simp_all [carAnswer]

/-- A well-formed PANEL answer is judged by its codes. -/
theorem judgePanel_good (b : Vector Byte 5) :
    judgePanel (3#8 :: b.toList ++ checkBytes (lineCrc (3#8 :: b.toList))) =
      panelAnswer (decodePanel b[0] b[1] b[2] b[3] b[4]) := by
  rw [toList_five, checkBytes]
  simp only [List.cons_append, List.nil_append, judgePanel]
  rw [if_pos (by simpa using (eq_checkBytes_iff _ _ _).mp rfl)]
  split <;> simp_all [panelAnswer]

@[simp] theorem judgeWindow_collided (slot : Slot) (held : WindowHeld) : judgeWindow slot true held = .silent true := rfl
@[simp] theorem judgeWindow_unfinished (slot : Slot) : judgeWindow slot false .unfinished = .silent true := rfl
@[simp] theorem judgeWindow_nothing (slot : Slot) : judgeWindow slot false .nothing = .silent false := rfl
theorem judgeWindow_car {slot : Slot} (h : slot.val < 16) (bytes : List Byte) :
    judgeWindow slot false (.frame bytes) = judgeCar bytes := by simp [judgeWindow, h]
theorem judgeWindow_panel {slot : Slot} (h : 16 ≤ slot.val) (bytes : List Byte) :
    judgeWindow slot false (.frame bytes) = judgePanel bytes := by simp [judgeWindow, Nat.not_lt.mpr h]

/-- Settles O20: a frame is judged by its kind, length and check, and then by what its codes decode to. -/
theorem windowsAreJudgedByTheirFrames : Obligations.WindowsAreJudgedByTheirFrames := by
  refine ⟨judgeWindow_collided, fun slot => ⟨judgeWindow_unfinished slot, judgeWindow_nothing slot⟩, ?_, ?_, ?_, ?_, ?_, ?_⟩
  · exact fun slot bytes hs h => (judgeWindow_car hs bytes).trans (judgeCar_bad h)
  · exact fun slot bytes hs h => (judgeWindow_panel hs bytes).trans (judgePanel_bad h)
  · intro slot b r hs h
    rw [judgeWindow_car hs, judgeCar_good, h]; rfl
  · intro slot b r hs h
    rw [judgeWindow_panel hs, judgePanel_good, h]; rfl
  · intro slot b hs unlisted
    have hnone := (decodeReport_none b[0] b[1] b[2] b[3] b[4] b[5] b[6] b[7]).symm
    refine ⟨hnone, fun h => ?_⟩
    rw [judgeWindow_car hs, judgeCar_good, hnone.mp h]; rfl
  · intro slot b hs unlisted
    have hnone := (decodePanel_none b[0] b[1] b[2] b[3] b[4]).symm
    refine ⟨hnone, fun h => ?_⟩
    rw [judgeWindow_panel hs, judgePanel_good, hnone.mp h]; rfl

end Sys2Proof.Machine
end

section
/-! SUPPORT. START (R4, R6), and activations that begin END(HANDOVER) (R112, R115, R125). -/

namespace Sys2Proof.Machine

/-! ### START (R4, R6) -/

theorem State.setLine_eq_self {s : State} {l : LineId} {r : Line} (h : r = s.line l) : s.setLine l r = s := by
  subst h; simp [State.setLine, State.line]
theorem State.setLift_eq_self {s : State} {i : LiftIdx} {r : Lift} (h : r = s.lift i) : s.setLift i r = s := by
  subst h; simp [State.setLift, State.lift]
theorem State.setPanel_eq_self {s : State} {p : PanelIdx} {r : Panel} (h : r = s.panel p) : s.setPanel p r = s := by
  subst h; simp [State.setPanel, State.panel]
theorem State.setCrew_eq_self {s : State} {k : CrewNo} {r : Crew} (h : r = s.crew k) : s.setCrew k r = s := by
  subst h; simp [State.setCrew, State.crew]

@[simp] theorem State.setLine_lineSettings (s : State) (l m : LineId) (r : Line) :
    (s.setLine l r).lineSettings m = s.lineSettings m := rfl
@[simp] theorem State.setLine_slotSet (s : State) (l m : LineId) (r : Line) : (s.setLine l r).slotSet m = s.slotSet m := rfl
@[simp] theorem State.setLine_caseCommand (s : State) (l m : LineId) (r : Line) (slots : List Slot) :
    (s.setLine l r).caseCommand m slots = s.caseCommand m slots := rfl

/-- The selection reads of the line its pending answers and its routine queue alone. -/
theorem State.setLine_select {s : State} {l : LineId} {r : Line} (slots : List Slot) (ha : r.answers = (s.line l).answers)
    (hr : r.routine = (s.line l).routine) : (s.setLine l r).select l slots = s.select l slots := by
  simp only [State.select, State.line_setLine, State.setLine_caseCommand, ha, hr]
  rfl

/-- A START starts both timers afresh, whatever they held. -/
theorem startLine_timers (s : State) (l : LineId) (w : Option WakeSource) (a b : Timer) :
    startLine (s.setLine l { s.line l with intervalTimer := a, ceilingTimer := b }) l w = startLine s l w := by
  have hsel := State.setLine_select (s := s) (l := l)
    (r := { s.line l with intervalTimer := a, ceilingTimer := b }) (s.slotSet l) rfl rfl
  have hline : (s.setLine l { s.line l with intervalTimer := a, ceilingTimer := b }).startedLine l w =
      s.startedLine l w := by
    simp only [State.startedLine, State.setLine_slotSet, hsel, State.line_setLine, State.setLine_lineSettings]
  unfold startLine
  simp only [State.setLine_slotSet, hsel, hline, State.setLine_setLine]
  rfl

theorem State.startedLine_eq (s : State) (l : LineId) (w : Option WakeSource) : s.startedLine l w =
    { s.startedWith l w (s.select l (s.slotSet l)).command (s.slotSet l) with
      answers := (s.select l (s.slotSet l)).answers, routine := (s.select l (s.slotSet l)).routine } := rfl

/-- A START that carries no case's command; where no slot is polled the STOP follows (R6). -/
theorem startLine_undelivered {s : State} {l : LineId} (w : Option WakeSource)
    (h : (s.select l (s.slotSet l)).delivered = none) :
    startLine s l w = (s.setLine l (s.startedLine l w), if (s.slotSet l).isEmpty then [.stop l] else []) := by
  simp [startLine, h]

/-- A START that carries a case's command, which is cleared and its case told (R18); the car's slot is polled. -/
theorem startLine_delivered {s : State} {l : LineId} (w : Option WakeSource) {c : CaseNo} {m : PendingCommand}
    (h : (s.select l (s.slotSet l)).delivered = some (c, m)) :
    startLine s l w = ((s.setLine l (s.startedLine l w)).setCase c { s.caseAt c with pending := none },
      [.delivered c (s.caseAt c).serial m]) := by
  have hslots : (s.slotSet l).isEmpty = false := by
    rw [← Bool.not_eq_true, List.isEmpty_iff]
    exact List.ne_nil_of_mem (State.caseCommand_some (State.select_delivered ▸ h)).1.2.2.2
  simp [startLine, h, hslots, State.serialOf]

/-- With nothing to send, the selection chooses nothing and leaves the places as they are. -/
theorem State.NothingToSend.select {s : State} {l : LineId} (h : s.NothingToSend l) (slots : List Slot) :
    s.select l slots = ⟨none, none, (s.line l).answers, (s.line l).routine⟩ := by
  have hcase : s.caseCommand l slots = none := State.caseCommand_none fun c hc => hc.2.2.1 (h.cases c hc.1 hc.2.1)
  have hkept : polledAnswers slots (s.line l).answers = (s.line l).answers := by
    ext1 k hk
    have := polledAnswers_get slots (s.line l).answers ⟨k, hk⟩
    simp only [h.answers ⟨k, hk⟩, ite_self] at this
    exact this.trans (h.answers ⟨k, hk⟩).symm
  rw [State.select_routine hcase (earliestAnswer_none fun k => by rw [hkept]; exact h.answers k), hkept, h.routine]
  rfl

/-- A START with nothing to send opens the first window (R6). -/
theorem startLine_polling {s : State} {l : LineId} {first : Slot} {slots : List Slot} (w : Option WakeSource)
    (h : s.NothingToSend l) (hs : s.slotSet l = first :: slots) :
    startLine s l w = (s.setLine l (s.polling l w first slots), []) := by
  rw [startLine_undelivered w (by rw [h.select]), State.startedLine_eq, h.select, hs]
  rfl

theorem Runs.start {s : State} {l : LineId} {first : Slot} {slots : List Slot} (w : Option WakeSource) (hb : s.Busy)
    (h : s.NothingToSend l) (hs : s.slotSet l = first :: slots) :
    Runs 1 s [.start l w] (s.setLine l (s.polling l w first slots)) :=
  .one hb (startLine_polling w h hs) hb

/-! ### An activation that begins END(HANDOVER) (R112, R115, R125) -/

/-- A procedure moved to a step. -/
def Procedure.at (p : Procedure) (step : Fin 16) (common : Bool) : Procedure := { p with step := step, onCommon := common }

/-- The record once its procedure has gone on to a step that hands it over. -/
def Case.handedAt (r : Case) (step : Fin 16) (common : Bool) : Case :=
  { r with procedure := { r.procedure.unwaited.at step common with status := .handedOver } }

/-- The step the procedure goes on to is END(HANDOVER). -/
structure State.EndsAt (s : State) (p : Procedure) (step : Fin 16) (common : Bool) : Prop where
  action : (s.stepOf (p.at step common)).action = 12
  argument : (s.stepOf (p.at step common)).argument = 2

section

variable {s : State} {c : CaseNo} {step : Fin 16} {common : Bool}

theorem State.EndsAt.decoded {p : Procedure} (h : s.EndsAt p step common) :
    (s.stepOf (p.at step common)).decoded = some (.ending false) := by
  simp [StepRecord.decoded, h.action, h.argument, decodeEnd]

/-- A notice about the record just stored, with room. -/
theorem State.setCase_notify_room {r : Case} (kind : NoticeKind) (arg : NoticeArg) (hroom : s.trunk.own.length < 32)
    (howed : r.owed = false) : (s.setCase c r).notify c kind arg = (s.setCase c r).withNotice c r kind arg := by
  rw [State.notify_room (s.setCase c r) c kind arg hroom (by rwa [State.caseAt_setCase]), State.caseAt_setCase]

/-- The handover of a procedure that waits for nothing, with room for its notice (R115). -/
theorem handover_room {reason : HandoverReason} (hrun : (s.caseAt c).procedure.status = .running)
    (hwait : (s.caseAt c).procedure.wait = .none) (hroom : s.trunk.own.length < 32) (howed : (s.caseAt c).owed = false) :
    let r := { s.caseAt c with procedure := { (s.caseAt c).procedure.unwaited with status := .handedOver } }
    handover s c reason = (s.setCase c r).withNotice c r .handover (.handover reason) := by
  intro r
  unfold handover
  dsimp only
  rw [if_pos hrun, if_neg (by rw [hwait]; exact Wait.noConfusion)]
  exact State.setCase_notify_room _ _ hroom howed

/-- An activation goes on to a step of the page within its budget (R112). -/
theorem goTo_step {begun : Nat} {a : Action} (hopen : s.isOpen c = true) (hrun : (s.caseAt c).procedure.status = .running)
    (hbegun : begun < 16) (ha : (s.stepOf ((s.caseAt c).procedure.at step common)).decoded = some a) :
    goTo s c begun step.val common = act (s.setProcedure c ((s.caseAt c).procedure.at step common)) c (begun + 1)
      (s.stepOf ((s.caseAt c).procedure.at step common)) a := by
  have hbudget : ¬ Config.stepBudget ≤ begun := Nat.not_le.mpr hbegun
  have hstep : (s.setProcedure c ((s.caseAt c).procedure.at step common)).stepOf
      ((s.setProcedure c ((s.caseAt c).procedure.at step common)).caseAt c).procedure =
      s.stepOf ((s.caseAt c).procedure.at step common) := by rw [State.caseAt_setProcedure]; rfl
  simp only [Procedure.at] at ha hstep ⊢
  unfold goTo
  dsimp only
  rw [if_pos (by simp [hopen, hrun])]
  simp only [toIdx, step.isLt, dif_pos, hbudget, if_false, Fin.eta, hstep, ha]

/-- A waiting step that has ended goes on to END(HANDOVER). -/
theorem perform_go_ending (hopen : s.isOpen c = true) (hrun : (s.caseAt c).procedure.status = .running)
    (hroom : s.trunk.own.length < 32) (howed : (s.caseAt c).owed = false)
    (hend : s.EndsAt (s.caseAt c).procedure step common) :
    perform (s.setProcedure c (s.caseAt c).procedure.unwaited) (.go c 0 step.val common) =
      ((s.setCase c ((s.caseAt c).handedAt step common)).withNotice c ((s.caseAt c).handedAt step common) .handover
        (.handover .ended), []) := by
  let u := s.setProcedure c (s.caseAt c).procedure.unwaited
  have hu : (u.caseAt c).procedure = (s.caseAt c).procedure.unwaited := by simp [u]
  have hdecoded : (u.stepOf ((u.caseAt c).procedure.at step common)).decoded = some (.ending false) := by
    rw [hu]; exact hend.decoded
  have hopen' : u.isOpen c = true := by simpa [u, State.isOpen] using hopen
  change goTo u c 0 step.val common = _
  rw [goTo_step hopen' (by rw [hu]; exact hrun) (by decide) hdecoded, hu]
  let v := u.setProcedure c ((s.caseAt c).procedure.unwaited.at step common)
  have hv : v.caseAt c = { s.caseAt c with procedure := (s.caseAt c).procedure.unwaited.at step common } := by simp [v, u]
  have hover := handover_room (s := v) (c := c) (reason := .ended) (by rw [hv]; exact hrun) (by rw [hv]; rfl) hroom
    (by rw [hv]; exact howed)
  change (handover v c .ended, []) = _
  rw [hover, hv]
  simp only [v, u, State.setProcedure, State.setCase_setCase]
  rfl

/-- The waiting step completes, and the next is END(HANDOVER) (R111, R125). -/
theorem Runs.completeWait_ending (hb : s.Busy) (hopen : s.isOpen c = true) (hrun : (s.caseAt c).procedure.status = .running)
    (hroom : s.trunk.own.length < 32) (howed : (s.caseAt c).owed = false)
    (hstep : step.val = (s.caseAt c).procedure.step.val + 1)
    (hend : s.EndsAt (s.caseAt c).procedure step (s.caseAt c).procedure.onCommon) :
    let r := (s.caseAt c).handedAt step (s.caseAt c).procedure.onCommon
    Runs 1 (completeWait s c).1 (completeWait s c).2 ((s.setCase c r).withNotice c r .handover (.handover .ended)) := by
  intro r
  have hgo := perform_go_ending hopen hrun hroom howed hend
  rw [hstep] at hgo
  exact .one hb hgo hb

/-- The waiting step fails, and its branch is END(HANDOVER) (R111, R125). -/
theorem Runs.failWait_ending (hb : s.Busy) (hopen : s.isOpen c = true) (hrun : (s.caseAt c).procedure.status = .running)
    (hroom : s.trunk.own.length < 32) (howed : (s.caseAt c).owed = false)
    (hend : s.EndsAt (s.caseAt c).procedure (s.stepOf (s.caseAt c).procedure).target (s.stepOf (s.caseAt c).procedure).common) :
    let r := (s.caseAt c).handedAt (s.stepOf (s.caseAt c).procedure).target (s.stepOf (s.caseAt c).procedure).common
    Runs 1 (failWait s c).1 (failWait s c).2 ((s.setCase c r).withNotice c r .handover (.handover .ended)) :=
  .one hb (perform_go_ending hopen hrun hroom howed hend) hb

end

end Sys2Proof.Machine
end

section
/-! SUPPORT. The occasions of a START (R12 to R18). -/

namespace Sys2Proof.Machine

theorem satInc_eq_min (top n : Nat) : satInc top n = min top (n + 1) := by
  unfold satInc; split <;> omega

/-! ### The occasions of a START (R6, R12, R13) -/

/-- What each of the three occasions of a START comes to, `t` telling the end by the wake source. -/
def State.Starts (s : State) (l : LineId) (t : Option WakeSource → State) : Prop :=
  ((s.line l).state = .waitInterval → (s.line l).intervalTimer = .due →
    exec (.intervalTimerExpiry l) s = .next (t none)) ∧
  ((s.line l).state = .quietIdle → (s.line l).ceilingTimer = .due →
    exec (.ceilingTimerExpiry l) s = .next (t none)) ∧
  ∀ burst, (s.line l).state = .quietIdle → exec (.wake l burst) s = .next (t (some (wakeSourceOf burst)))

/-- Each occasion sends one START, which the timer that ran out does not change. -/
theorem starts_of_runs {s : State} {l : LineId} {t : Option WakeSource → State} {n : Nat} (hb : s.Busy)
    (hn : n < 9999) (h : ∀ w, Runs n (startLine s l w).1 (startLine s l w).2 (t w)) : s.Starts l t := by
  have hstart : ∀ (a b : Timer) (w : Option WakeSource),
      finish (s.setLine l { s.line l with intervalTimer := a, ceilingTimer := b }, [.start l w]) = .next (t w) :=
    fun a b w => Runs.finish_eq (Runs.cons (s := s.setLine l _) hb (by
      change Runs n (startLine _ l w).1 ((startLine _ l w).2 ++ []) (t w)
      rw [startLine_timers, List.append_nil]
      exact h w)) (Nat.succ_lt_succ hn)
  refine ⟨fun hst hdue => ?_, fun hst hdue => ?_, fun burst hst => ?_⟩
  · change execIntervalTimerExpiry l s = _
    unfold execIntervalTimerExpiry
    dsimp only
    rw [if_pos hdue, if_pos hst]
    exact hstart .stopped (s.line l).ceilingTimer none
  · change execCeilingTimerExpiry l s = _
    unfold execCeilingTimerExpiry
    dsimp only
    rw [if_pos hdue, if_pos hst]
    exact hstart (s.line l).intervalTimer .stopped none
  · change execWake l burst s = _
    have hself := hstart (s.line l).intervalTimer (s.line l).ceilingTimer (some (wakeSourceOf burst))
    rw [State.setLine_eq_self rfl] at hself
    rw [execWake, if_pos hst, hself]

/-- A burst in CYCLE marks the open window; one in WAIT_INTERVAL or OFF does nothing (R12, R14). -/
theorem collide_cycle {s : State} {l : LineId} (hst : (s.line l).state = .cycle)
    (hopen : (s.line l).currentSlot.isSome = true) : collide s l = s.setLine l { s.line l with collided := true } := by
  simp [collide, hst, hopen]

theorem collide_not_cycle {s : State} {l : LineId} (hst : (s.line l).state ≠ .cycle) : collide s l = s := by
  simp [collide, hst]

/-! ### The slots polled (R4) -/

theorem carSlot_injective : Function.Injective carSlot := fun a b h => by simpa [carSlot, Fin.ext_iff] using h
theorem panelSlot_injective : Function.Injective panelSlot := fun a b h => by simpa [panelSlot, Fin.ext_iff] using h
theorem carSlot_lt_panelSlot (a : Fin 16) (b : Fin 4) : carSlot a < panelSlot b := by
  have := a.isLt
  simp only [carSlot, panelSlot, Fin.lt_def]
  omega

theorem State.carSlot_mem_slotSet (s : State) (l : LineId) (k : Fin 16) :
    carSlot k ∈ s.slotSet l ↔ (s.lift (liftAt l k)).config.enabled = true := by
  have hpanel : ∀ j : Fin 4, panelSlot j ≠ carSlot k := fun j => (carSlot_lt_panelSlot k j).ne'
  simp [State.slotSet, hpanel, carSlot_injective.eq_iff]

theorem State.panelSlot_mem_slotSet (s : State) (l : LineId) (k : Fin 4) :
    panelSlot k ∈ s.slotSet l ↔ (s.panel (panelAt l k)).config.enabled = true := by
  have hcar : ∀ j : Fin 16, carSlot j ≠ panelSlot k := fun j => (carSlot_lt_panelSlot j k).ne
  simp [State.slotSet, hcar, panelSlot_injective.eq_iff]

theorem State.slotSet_ascending (s : State) (l : LineId) : (s.slotSet l).Pairwise (· < ·) := by
  refine List.pairwise_append.mpr ⟨?_, ?_, fun a ha b hb => ?_⟩
  · exact List.pairwise_map.mpr ((finRange_filter_ascending _).imp fun h => Fin.lt_def.mpr (Fin.lt_def.mp h))
  · exact List.pairwise_map.mpr ((finRange_filter_ascending _).imp fun h => Fin.lt_def.mpr (Nat.add_lt_add_left (Fin.lt_def.mp h) 16))
  · obtain ⟨i, _, rfl⟩ := List.mem_map.mp ha
    obtain ⟨j, _, rfl⟩ := List.mem_map.mp hb
    exact carSlot_lt_panelSlot i j

/-- A burst names the slot of a well-formed WAKE, and UNKNOWN otherwise (R13). -/
theorem wakeSourceOf_eq_slot (burst : List Byte) (slot : Slot) : wakeSourceOf burst = .slot slot ↔
    ∃ b : Byte, burst = [5#8, b] ++ checkBytes (lineCrc [5#8, b]) ∧ b.toNat % 32 = slot.val := by
  unfold wakeSourceOf
  split
  · next k b c0 c1 =>
    have hframe : (∃ b' : Byte, [k, b, c0, c1] = [5#8, b'] ++ checkBytes (lineCrc [5#8, b']) ∧ b'.toNat % 32 = slot.val) ↔
        (k.toNat = 5 ∧ lineCrc [k, b] = word2 c0 c1) ∧ b.toNat % 32 = slot.val := by
      rw [toNat_eq_iff _ _ (by decide), ← eq_checkBytes_iff]
      constructor
      · rintro ⟨b', h, hb⟩
        obtain ⟨rfl, rfl, h⟩ := by simpa using h
        exact ⟨⟨rfl, h⟩, hb⟩
      · rintro ⟨⟨rfl, h⟩, hb⟩
        exact ⟨b, by simpa using h, hb⟩
    rw [hframe]
    by_cases hgood : k.toNat = 5 ∧ lineCrc [k, b] = word2 c0 c1
    · rw [if_pos (by simpa using hgood)]
      by_cases hn : b.toNat % 32 < 20
      · simp [toIdx, hn, hgood, Fin.ext_iff]
      · have := slot.isLt
        simp only [toIdx, hn, dif_neg, not_false_eq_true, reduceCtorEq, hgood, and_self, true_and, false_iff]
        omega
    · rw [if_neg (by simpa using hgood)]
      simp [hgood]
  · next hlen =>
    refine ⟨fun h => by simp at h, fun ⟨b, h, _⟩ => absurd h (by simpa [checkBytes] using hlen _ _ _ _)⟩

/-! ### What a delivered command does (R18) -/

section

variable {s : State} {c : CaseNo} {m : PendingCommand}

/-- The case is told of the delivery while it is OPEN with the serial (R18). -/
theorem perform_delivered {serial : BitVec 16} (hopen : s.isOpen c = true) (hserial : (s.caseAt c).serial = serial) :
    perform s (.delivered c serial m) = commandDelivered s c m := by
  simp [perform, State.holds, hopen, hserial]

theorem commandDelivered_unawaited (howner : m.owner = .procedure)
    (h : (s.caseAt c).procedure.status ≠ .running ∨ (s.caseAt c).procedure.wait ≠ .delivery) :
    commandDelivered s c m = (s, []) := by
  have hwaits : s.waitsFor c .delivery = false := by simpa [State.waitsFor, ← not_and_or] using h
  simp [commandDelivered, howner, hwaits]

theorem commandDelivered_awaited (howner : m.owner = .procedure) (hrun : (s.caseAt c).procedure.status = .running)
    (hwait : (s.caseAt c).procedure.wait = .delivery) : commandDelivered s c m = completeWait s c := by
  simp [commandDelivered, howner, State.waitsFor, hrun, hwait]

/-- A delivered pulse is counted and settles (R135). -/
def Case.pulsed (r : Case) (q : Release) (sequence limit : Nat) : Case :=
  { r with
    pulses := min 63 (r.pulses + 1)
    release := some { q with sequence := sequence, settle := .running limit, sub := .settling } }

theorem pulseDelivered_room {q : Release} {sequence : Nat} (hq : (s.caseAt c).release = some q)
    (hsub : q.sub = .pulsePending) (hroom : s.trunk.own.length < 32) (howed : (s.caseAt c).owed = false) :
    let r := (s.caseAt c).pulsed q sequence s.settings.settleLimit
    pulseDelivered s c sequence = (s.setCase c r).withNotice c r .releasePulse
      (.pulse r.pulses ((s.lift (s.caseAt c).lift).dyn.lastReport.map CarRecord.position)) := by
  intro r
  unfold pulseDelivered
  simp only [hq]
  rw [if_pos hsub, satInc_eq_min]
  exact State.setCase_notify_room _ _ hroom howed

end

/-- A STOP right after a START: both timers run, and no START follows (R6, R11). -/
theorem stopLine_started (s : State) (l : LineId) (w : Option WakeSource) :
    (stopLine (s.setLine l (s.startedLine l w)) l).2 = [] := by
  by_cases h : (s.setLine l (s.startedLine l w)).KeepsPolling l
  · rw [stopLine_continuous h, State.line_setLine]; rfl
  · rw [stopLine_quiet h, State.line_setLine]; rfl

theorem stopLine_busy {s : State} (l : LineId) (h : s.Busy) : (stopLine s l).1.Busy := by
  unfold stopLine
  dsimp only
  split <;> exact h

section

variable {s : State} {l : LineId} {c : CaseNo} {m : PendingCommand} {t : Option WakeSource → State}

/-- The state once a START has carried the command of case record `c`, which is not yet told (R18). -/
def State.deliveredBy (s : State) (l : LineId) (w : Option WakeSource) (c : CaseNo) : State :=
  (s.setLine l (s.startedLine l w)).setCase c { s.caseAt c with pending := none }

@[simp] theorem State.deliveredBy_caseAt (w : Option WakeSource) :
    (s.deliveredBy l w c).caseAt c = { s.caseAt c with pending := none } := State.caseAt_setCase _ _ _

theorem State.deliveredBy_setCase (w : Option WakeSource) (r : Case) :
    (s.deliveredBy l w c).setCase c r = (s.setLine l (s.startedLine l w)).setCase c r := State.setCase_setCase _ _ _ _

/-- A START that carries a case's command comes to what the delivery comes to. -/
theorem starts_of_delivery {n : Nat} (hb : s.Busy) (hn : n < 9998)
    (hx : (s.select l (s.slotSet l)).delivered = some (c, m))
    (h : ∀ w, Runs n (commandDelivered (s.deliveredBy l w c) c m).1 (commandDelivered (s.deliveredBy l w c) c m).2 (t w)) :
    s.Starts l t := by
  refine starts_of_runs hb (Nat.succ_lt_succ hn) fun w => ?_
  have hopen : (s.deliveredBy l w c).isOpen c = true := by
    simpa [State.isOpen] using (State.caseCommand_some (State.select_delivered ▸ hx)).1.1
  rw [startLine_delivered w hx]
  refine .cons hb ?_
  change Runs n (perform (s.deliveredBy l w c) _).1 ((perform (s.deliveredBy l w c) _).2 ++ []) (t w)
  rw [perform_delivered hopen (by simp), List.append_nil]
  exact h w

/-- A procedure that waits for the delivery goes on (R117), here to an END(HANDOVER). -/
theorem starts_delivered_ending (hr : s.Ready 1) (hx : (s.select l (s.slotSet l)).delivered = some (c, m))
    (howed : (s.caseAt c).owed = false) (howner : m.owner = .procedure)
    (hrun : (s.caseAt c).procedure.status = .running) (hwait : (s.caseAt c).procedure.wait = .delivery) {step : Fin 16}
    (hstep : step.val = (s.caseAt c).procedure.step.val + 1)
    (hend : s.EndsAt (s.caseAt c).procedure step (s.caseAt c).procedure.onCommon)
    (ht : ∀ w, t w = ((s.setLine l (s.startedLine l w)).setCase c
      { (s.caseAt c).handedAt step (s.caseAt c).procedure.onCommon with pending := none }).withNotice c
      { (s.caseAt c).handedAt step (s.caseAt c).procedure.onCommon with pending := none } .handover (.handover .ended)) :
    s.Starts l t := by
  refine starts_of_delivery (n := 1) hr.busy (by omega) hx fun w => ?_
  have hopen : (s.deliveredBy l w c).isOpen c = true := by
    simpa [State.isOpen] using (State.caseCommand_some (State.select_delivered ▸ hx)).1.1
  rw [commandDelivered_awaited howner (by simpa using hrun) (by simpa using hwait)]
  have hgo := Runs.completeWait_ending (s := s.deliveredBy l w c) (c := c) (step := step) hr.busy hopen
    (by simpa using hrun) hr.room (by simpa using howed) (by simpa using hstep)
    (by rw [State.deliveredBy_caseAt]; exact ⟨hend.action, hend.argument⟩)
  simp only [State.deliveredBy_caseAt, State.deliveredBy_setCase] at hgo
  rw [ht w]
  exact hgo

/-- A release with its pulse pending counts it and goes to SETTLING (R135). -/
theorem starts_delivered_pulse (hr : s.Ready 1) {sequence : Nat} {direction : Direction} {q : Release}
    (hx : (s.select l (s.slotSet l)).delivered = some (c, ⟨.brakePulse sequence direction, .release⟩))
    (howed : (s.caseAt c).owed = false) (hq : (s.caseAt c).release = some q) (hsub : q.sub = .pulsePending)
    (ht : ∀ w, t w = ((s.setLine l (s.startedLine l w)).setCase c
      { (s.caseAt c).pulsed q sequence s.settings.settleLimit with pending := none }).withNotice c
      { (s.caseAt c).pulsed q sequence s.settings.settleLimit with pending := none } .releasePulse
      (.pulse (min 63 ((s.caseAt c).pulses + 1))
        ((s.lift (s.caseAt c).lift).dyn.lastReport.map CarRecord.position))) :
    s.Starts l t := by
  refine starts_of_delivery (n := 0) hr.busy (by omega) hx fun w => ?_
  have hpulse := pulseDelivered_room (s := s.deliveredBy l w c) (c := c) (q := q) (sequence := sequence)
    (by simpa using hq) hsub hr.room (by simpa using howed)
  simp only [State.deliveredBy_caseAt, State.deliveredBy_setCase] at hpulse
  change Runs 0 (pulseDelivered (s.deliveredBy l w c) c sequence) [] (t w)
  rw [hpulse, ht w]
  exact .nil hr.busy

end

/-- Settles O15: each occasion's START is followed by the one job it may give rise to, a STOP or the delivery of a case's command. -/
theorem timersAndWakesBeginOneCycle : Obligations.TimersAndWakesBeginOneCycle := by
  refine ⟨fun s l first slots hb hno hs => ?_, fun s l burst => ⟨fun hst hopen => ?_, fun hst => ?_⟩,
    fun s l => ⟨s.carSlot_mem_slotSet l, s.panelSlot_mem_slotSet l, s.slotSet_ascending l⟩, wakeSourceOf_eq_slot, ?_⟩
  · exact starts_of_runs (n := 0) hb (by omega) fun w => by rw [startLine_polling w hno hs]; exact .nil hb
  · have hq : (s.line l).state ≠ .quietIdle := by rw [hst]; exact LineState.noConfusion
    refine ⟨?_, congrArg _ (collide_cycle hst hopen)⟩
    change execWake l burst s = _
    rw [execWake, if_neg hq, collide_cycle hst hopen]
  · have hq : (s.line l).state ≠ .quietIdle := by rcases hst with h | h <;> rw [h] <;> exact LineState.noConfusion
    have hc : (s.line l).state ≠ .cycle := by rcases hst with h | h <;> rw [h] <;> exact LineState.noConfusion
    refine ⟨?_, congrArg _ (collide_not_cycle hc)⟩
    change execWake l burst s = _
    rw [execWake, if_neg hq, collide_not_cycle hc]
  · intro s l t starts x begun
    refine ⟨fun hx hb hs ht => ?_, fun hb hs ht => ?_, ?_⟩
    · refine starts_of_runs (n := 0) hb (by omega) fun w => ?_
      rw [startLine_undelivered w hx, if_neg (by simpa using hs), ht w]
      exact .nil hb
    · refine starts_of_runs (n := 1) hb (by omega) fun w => ?_
      have hnone : x.delivered = none := State.select_delivered.trans
        (State.caseCommand_none fun c hc => by simpa [hs] using hc.2.2.2)
      rw [startLine_undelivered w hnone, hs, ht w]
      exact .one hb (Prod.ext rfl (stopLine_started s l w)) (stopLine_busy l hb)
    · intro c m hx a p
      refine ⟨fun hb howner hp ht => ?_, ?_, ?_⟩
      · refine starts_of_delivery (n := 0) hb (by omega) hx fun w => ?_
        rw [commandDelivered_unawaited howner (by rwa [State.deliveredBy_caseAt]), ht w]
        exact .nil hb
      · intro hr howed howner hrun hwait step hstep haction hargument handed ht
        exact starts_delivered_ending hr hx howed howner hrun hwait hstep ⟨haction, hargument⟩ ht
      · intro hr howed sequence direction q hm hq hsub settling ht
        exact starts_delivered_pulse hr (hm ▸ hx) howed hq hsub ht

end Sys2Proof.Machine
end

section
/-! SUPPORT. Frames that join the own queue one after another, and lifts that enter a state one after another (R28, R52). -/

namespace Sys2Proof.Machine

/-! ### Frames that join the own queue -/

/-- Port `b` is port `a` after offerings that lost no frame of `a` but summaries offered to a full queue: frames have joined the
tail, and only the sequence and the count of dropped summaries have moved beside it. -/
structure Trunk.Offered (a b : Trunk) : Prop where
  joined : a.own <+: b.own
  rest : b = { a with
    own := b.own
    sequence := b.sequence
    counters := { a.counters with summaryDrops := b.counters.summaryDrops } }

theorem Trunk.Offered.refl (a : Trunk) : a.Offered a := ⟨List.prefix_rfl, rfl⟩

theorem Trunk.Offered.trans {a b c : Trunk} (hab : a.Offered b) (hbc : b.Offered c) : a.Offered c := by
  refine ⟨hab.joined.trans hbc.joined, ?_⟩
  rw [hbc.rest, hab.rest]

theorem State.withOwn_offered (s : State) (f : OwnFrame) : s.trunk.Offered (s.withOwn f).trunk :=
  ⟨List.prefix_append _ _, rfl⟩

theorem State.withAnswer_offered (s : State) (o : Origin) (kind : Byte) (code : AnswerCode) (data : AnswerData) :
    s.trunk.Offered (s.withAnswer o kind code data).trunk := s.withOwn_offered _

theorem State.withBroadcast_offered (s : State) (b : OwnBody) : s.trunk.Offered (s.withBroadcast b).trunk :=
  ⟨List.prefix_append _ _, rfl⟩

theorem State.offerSummary_offered (s : State) (m : Summary) : s.trunk.Offered (s.offerSummary m).trunk := by
  unfold State.offerSummary
  split
  · exact s.withBroadcast_offered (.summary m)
  · exact ⟨List.prefix_rfl, rfl⟩

@[simp] theorem State.withBroadcasts_nil (s : State) : s.withBroadcasts [] = s := rfl
theorem State.withBroadcasts_cons (s : State) (b : OwnBody) (bs : List OwnBody) :
    s.withBroadcasts (b :: bs) = (s.withBroadcast b).withBroadcasts bs := rfl
theorem State.withBroadcasts_append (s : State) (as bs : List OwnBody) :
    s.withBroadcasts (as ++ bs) = (s.withBroadcasts as).withBroadcasts bs := List.foldl_append

theorem State.withBroadcasts_rest (bs : List OwnBody) :
    ∀ s : State, s.withBroadcasts bs = { s with trunk := (s.withBroadcasts bs).trunk } := by
  induction bs with
  | nil => exact fun s => rfl
  | cons b bs ih => intro s; rw [State.withBroadcasts_cons, ih]; rfl

theorem State.withBroadcasts_offered (bs : List OwnBody) : ∀ s : State, s.trunk.Offered (s.withBroadcasts bs).trunk := by
  induction bs with
  | nil => exact fun s => .refl _
  | cons b bs ih => exact fun s => (s.withBroadcast_offered b).trans (ih _)

theorem State.withBroadcasts_length (bs : List OwnBody) :
    ∀ s : State, (s.withBroadcasts bs).trunk.own.length = s.trunk.own.length + bs.length := by
  induction bs with
  | nil => exact fun s => rfl
  | cons b bs ih =>
    intro s
    rw [State.withBroadcasts_cons, ih, State.withBroadcast_length, List.length_cons]
    omega

/-- What the frames make of the port depends on the port and the straps alone. -/
theorem State.withBroadcasts_trunk (bs : List OwnBody) : ∀ {s t : State}, s.trunk = t.trunk → s.straps = t.straps →
    (s.withBroadcasts bs).trunk = (t.withBroadcasts bs).trunk := by
  induction bs with
  | nil => exact fun h _ => h
  | cons b bs ih =>
    intro s t ht hs
    exact ih (by simp only [State.withBroadcast, ht, hs]) hs

/-! ### A lift state change made without a report (R28, R52) -/

/-- The summary decision changes the port alone, and frames join its tail. -/
theorem summaryAfterChange_rest (s : State) (i : LiftIdx) :
    summaryAfterChange s i = { s with trunk := (summaryAfterChange s i).trunk } ∧
      s.trunk.Offered (summaryAfterChange s i).trunk := by
  have hoffer : s.offerSummary (s.summaryOf i) = { s with trunk := (s.offerSummary (s.summaryOf i)).trunk } := by
    obtain ⟨t, ht⟩ := s.offerSummary_trunk (s.summaryOf i)
    rw [ht]
  unfold summaryAfterChange
  split
  · exact ⟨hoffer, s.offerSummary_offered _⟩
  · exact ⟨hoffer, s.offerSummary_offered _⟩
  · exact ⟨rfl, .refl _⟩

/-- With room, the summary is made exactly where the forwarding mode is not NONE. -/
theorem summaryAfterChange_room (s : State) (i : LiftIdx) (h : s.trunk.own.length < 32) :
    summaryAfterChange s i =
      s.withBroadcasts (if (s.lift i).config.forwarding = .none then [] else [.summary (s.summaryOf i)]) := by
  unfold summaryAfterChange
  split
  case h_1 hf => rw [State.offerSummary_room _ _ h, hf]; rfl
  case h_2 hf => rw [State.offerSummary_room _ _ h, hf]; rfl
  case h_3 hf => rw [hf]; rfl

/-- The lift, where it is enabled, takes the dynamic part that `d` makes of its own, and a summary is decided where that changes its
state. -/
def State.reenter (d : LiftDynamic → LiftDynamic) (s : State) (i : LiftIdx) : State :=
  if (s.lift i).config.enabled then
    let u := s.setDyn i (d (s.lift i).dyn)
    if (s.lift i).dyn.state = (d (s.lift i).dyn).state then u else summaryAfterChange u i
  else s

/-- The summaries of lifts that take the state `st` without a report (R52, R53). -/
def State.reentrySummaries (s : State) (st : LiftState) (xs : List LiftIdx) : List OwnBody :=
  (xs.filter fun i => (s.lift i).config.enabled && (s.lift i).dyn.state != st && (s.lift i).config.forwarding != .none).map
    fun i => .summary ⟨(s.lift i).config.identity, s.time.stamp, st, none⟩

theorem State.entrySummaries_eq (s : State) (l : LineId) (st : LiftState) :
    s.entrySummaries l st = s.reentrySummaries st (liftsOf l) := by
  simp only [State.entrySummaries, State.reentrySummaries, liftsOf, List.filter_map, List.map_map]
  rfl

theorem State.reentrySummaries_length (s : State) (st : LiftState) (xs : List LiftIdx) :
    (s.reentrySummaries st xs).length ≤ xs.length := by
  rw [State.reentrySummaries, List.length_map]; exact List.length_filter_le _ _

/-- What lifts that have entered a state one after another leave: every enabled one has its new dynamic part, summaries have joined
the own queue, and with room there is one for each lift that changed its state. -/
structure State.Reentered (s t : State) (d : LiftDynamic → LiftDynamic) (st : LiftState) (xs : List LiftIdx) : Prop where
  rest : t = { s with lifts := t.lifts, trunk := t.trunk }
  lift : ∀ i, t.lift i = if i ∈ xs ∧ (s.lift i).config.enabled = true
    then ⟨(s.lift i).config, d (s.lift i).dyn⟩ else s.lift i
  offered : s.trunk.Offered t.trunk
  room : s.trunk.own.length + xs.length ≤ 32 → t.trunk = (s.withBroadcasts (s.reentrySummaries st xs)).trunk

section

variable {d : LiftDynamic → LiftDynamic} {st : LiftState}

theorem State.reenter_one (hst : ∀ e, (d e).state = st) (hnone : ∀ e, (d e).lastReport = none) (s : State) (i : LiftIdx) :
    s.Reentered (s.reenter d i) d st [i] := by
  by_cases hen : (s.lift i).config.enabled = true
  · have hlift : ∀ j, (s.setDyn i (d (s.lift i).dyn)).lift j = if j ∈ [i] ∧ (s.lift j).config.enabled = true
        then ⟨(s.lift j).config, d (s.lift j).dyn⟩ else s.lift j := by
      intro j
      rw [State.lift_setDyn_if]
      by_cases h : i = j
      · subst h; simp [hen]
      · simp [h, Ne.symm h]
    by_cases hsame : (s.lift i).dyn.state = st
    · have ht : s.reenter d i = s.setDyn i (d (s.lift i).dyn) := by
        simp only [State.reenter, hen, if_true, hst, hsame]
      rw [ht]
      exact ⟨rfl, hlift, .refl _, fun _ => by simp [State.reentrySummaries, hsame]⟩
    · have ht : s.reenter d i = summaryAfterChange (s.setDyn i (d (s.lift i).dyn)) i := by
        simp only [State.reenter, hen, if_true, hst, hsame, if_false]
      obtain ⟨hrest, hoff⟩ := summaryAfterChange_rest (s.setDyn i (d (s.lift i).dyn)) i
      rw [ht]
      refine ⟨?_, fun j => ?_, hoff, fun hroom => ?_⟩
      · rw [hrest]; rfl
      · rw [hrest]; exact hlift j
      · have hfwd : ((s.setDyn i (d (s.lift i).dyn)).lift i).config.forwarding = (s.lift i).config.forwarding := by simp
        have hsum : (s.setDyn i (d (s.lift i).dyn)).summaryOf i =
            ⟨(s.lift i).config.identity, s.time.stamp, st, none⟩ := by
          simp [State.summaryOf, State.identityOf, State.stamp, hst, hnone]
        rw [summaryAfterChange_room _ _ (by simpa using hroom), hfwd, hsum]
        have hbodies : s.reentrySummaries st [i] = if (s.lift i).config.forwarding = .none then []
            else [.summary ⟨(s.lift i).config.identity, s.time.stamp, st, none⟩] := by
          by_cases hf : (s.lift i).config.forwarding = .none <;> simp [State.reentrySummaries, hen, hsame, hf]
        rw [hbodies]
        exact State.withBroadcasts_trunk _ rfl rfl
  · have ht : s.reenter d i = s := by simp only [State.reenter, hen]; rfl
    rw [ht]
    refine ⟨rfl, fun j => ?_, .refl _, fun _ => by simp [State.reentrySummaries, hen]⟩
    by_cases h : j = i
    · subst h; simp [hen]
    · simp [h]

theorem State.Reentered.trans {s t u : State} {xs ys : List LiftIdx} (hst : s.Reentered t d st xs)
    (htu : t.Reentered u d st ys) (hdisj : ∀ i ∈ ys, i ∉ xs) : s.Reentered u d st (xs ++ ys) := by
  have hsame : ∀ i ∈ ys, t.lift i = s.lift i := fun i hi => by rw [hst.lift, if_neg fun h => hdisj i hi h.1]
  have hconf : ∀ i, (t.lift i).config = (s.lift i).config := fun i => by rw [hst.lift]; split <;> rfl
  refine ⟨?_, fun i => ?_, hst.offered.trans htu.offered, fun hroom => ?_⟩
  · rw [htu.rest, hst.rest]
  · rw [htu.lift i, hconf]
    by_cases hi : i ∈ ys
    · simp [hi, hsame i hi]
    · simp [hi, hst.lift]
  · have hsums : t.reentrySummaries st ys = s.reentrySummaries st ys := by
      have htime : t.time = s.time := by rw [hst.rest]
      unfold State.reentrySummaries
      rw [htime]
      rw [List.filter_congr fun i hi => by rw [hsame i hi]]
      exact List.map_congr_left fun i hi => by rw [hconf]
    rw [List.length_append] at hroom
    have hxs := hst.room (by omega)
    have hlen : t.trunk.own.length ≤ s.trunk.own.length + xs.length := by
      rw [hxs, State.withBroadcasts_length]
      have := s.reentrySummaries_length st xs
      omega
    rw [htu.room (by omega), hsums]
    have happ : s.reentrySummaries st (xs ++ ys) = s.reentrySummaries st xs ++ s.reentrySummaries st ys := by
      simp [State.reentrySummaries]
    rw [happ, State.withBroadcasts_append]
    refine State.withBroadcasts_trunk _ hxs ?_
    rw [State.withBroadcasts_rest, hst.rest]

/-- Lifts that enter one after another, each once. -/
theorem State.reenter_all (hst : ∀ e, (d e).state = st) (hnone : ∀ e, (d e).lastReport = none) (xs : List LiftIdx) :
    ∀ s : State, xs.Nodup → s.Reentered (xs.foldl (State.reenter d) s) d st xs := by
  induction xs with
  | nil => exact fun s _ => ⟨rfl, fun i => by simp, .refl _, fun _ => rfl⟩
  | cons i xs ih =>
    intro s hnd
    obtain ⟨hi, hxs⟩ := List.nodup_cons.mp hnd
    exact (s.reenter_one hst hnone i).trans (ih _ hxs) fun j hj => by
      rw [List.mem_singleton]; rintro rfl; exact hi hj

end

end Sys2Proof.Machine
end

section
/-! SUPPORT. LINE_ENABLE (R19), with the panels that are cleared (R31). -/

namespace Sys2Proof.Machine

/-! ### The lifts and the panels of a line -/

@[simp] theorem lineOf_liftAt (l : LineId) (k : Fin 16) : lineOf (liftAt l k) = l := by
  apply Fin.ext; simp only [lineOf, liftAt]; omega
@[simp] theorem carSlotOf_liftAt (l : LineId) (k : Fin 16) : carSlotOf (liftAt l k) = k := by
  apply Fin.ext; simp only [carSlotOf, liftAt]; omega
theorem liftAt_lineOf (i : LiftIdx) : liftAt (lineOf i) (carSlotOf i) = i := by
  apply Fin.ext; simp only [lineOf, carSlotOf, liftAt]; omega
@[simp] theorem panelLine_panelAt (l : LineId) (k : Fin 4) : panelLine (panelAt l k) = l := by
  apply Fin.ext; simp only [panelLine, panelAt]; omega
@[simp] theorem panelPlace_panelAt (l : LineId) (k : Fin 4) : panelPlace (panelAt l k) = k := by
  apply Fin.ext; simp only [panelPlace, panelAt]; omega
theorem panelAt_panelLine (p : PanelIdx) : panelAt (panelLine p) (panelPlace p) = p := by
  apply Fin.ext; simp only [panelLine, panelPlace, panelAt]; omega

@[simp] theorem mem_liftsOf {l : LineId} {i : LiftIdx} : i ∈ liftsOf l ↔ lineOf i = l := by
  simp only [liftsOf, List.mem_map, List.mem_finRange, true_and]
  exact ⟨fun ⟨k, hk⟩ => hk ▸ lineOf_liftAt l k, fun h => ⟨carSlotOf i, h ▸ liftAt_lineOf i⟩⟩
@[simp] theorem mem_panelsOf {l : LineId} {p : PanelIdx} : p ∈ panelsOf l ↔ panelLine p = l := by
  simp only [panelsOf, List.mem_map, List.mem_finRange, true_and]
  exact ⟨fun ⟨k, hk⟩ => hk ▸ panelLine_panelAt l k, fun h => ⟨panelPlace p, h ▸ panelAt_panelLine p⟩⟩

theorem liftsOf_nodup (l : LineId) : (liftsOf l).Nodup :=
  (List.nodup_finRange 16).map fun a b h => by rw [← carSlotOf_liftAt l a, h, carSlotOf_liftAt]
@[simp] theorem liftsOf_length (l : LineId) : (liftsOf l).length = 16 := by simp [liftsOf]
@[simp] theorem panelsOf_length (l : LineId) : (panelsOf l).length = 4 := by simp [panelsOf]

/-- The slots polled depend on which records are enabled alone. -/
theorem State.slotSet_congr {s t : State} {l : LineId} (hlift : ∀ i, (t.lift i).config = (s.lift i).config)
    (hpanel : ∀ p, (t.panel p).config = (s.panel p).config) : t.slotSet l = s.slotSet l := by
  simp only [State.slotSet, hlift, hpanel]

/-! ### Lifts that enter with their line (R19 to R21, R28) -/

theorem Trunk.Offered.busy {s t : State} (h : s.trunk.Offered t.trunk) (hb : s.Busy) : t.Busy := by
  unfold State.Busy
  rw [h.rest]
  exact hb

/-- A lift that has entered a state has nothing that the case manager could end. -/
theorem truthTold_entered (s : State) (i : LiftIdx) (st : LiftState) :
    truthTold (s.setDyn i (.entered st)) i = (s.setDyn i (.entered st), []) := by
  have hset : (s.setDyn i (.entered st)).setDyn i { ((s.setDyn i (.entered st)).lift i).dyn with latch := .empty } =
      s.setDyn i (.entered st) := State.setLift_eq_self (by simp [LiftDynamic.entered])
  unfold truthTold
  simp only [hset, ite_self]
  simp [LiftDynamic.entered]

/-- The summary decision of a change of lift state (R52). -/
theorem Runs.changeJobs {s : State} (hb : s.Busy) (i : LiftIdx) (before after : LiftState) :
    Runs 1 s (changeJobs i before after) (if before = after then s else summaryAfterChange s i) := by
  unfold Machine.changeJobs
  split
  · exact .nil hb
  · exact .one hb rfl ((summaryAfterChange_rest s i).2.busy hb)

/-- A lift enters OFFLINE or UNSEEN with its line. -/
theorem Runs.enterLift {s : State} (hb : s.Busy) (i : LiftIdx) (st : LiftState) :
    Runs 3 s [.enterLift i st] (s.reenter (fun _ => .entered st) i) := by
  by_cases hen : (s.lift i).config.enabled = true
  · let u := s.setDyn i (.entered st)
    have hperform : perform s (.enterLift i st) =
        (u, toldIf i (s.lift i).dyn.truth .empty ++ Machine.changeJobs i (s.lift i).dyn.state st) := by
      simp only [perform, Machine.enterLift, hen, if_true]; rfl
    have htold : Runs 1 u (toldIf i (s.lift i).dyn.truth .empty) u := by
      unfold toldIf
      split
      · exact .nil hb
      · exact .one hb (truthTold_entered s i st) hb
    have hend : s.reenter (fun _ => .entered st) i =
        if (s.lift i).dyn.state = st then u else summaryAfterChange u i := by
      simp only [State.reenter, hen, if_true]; rfl
    rw [hend]
    exact .step hb hperform (by rw [List.append_nil]; exact htold.append (.changeJobs (s := u) hb i _ _))
  · have hperform : perform s (.enterLift i st) = (s, []) := by simp [perform, Machine.enterLift, hen]
    have hend : s.reenter (fun _ => .entered st) i = s := by simp [State.reenter, hen]
    rw [hend]
    exact (Runs.one hb hperform hb).mono (by omega)

/-- The lifts of a line enter OFFLINE or UNSEEN, in ascending slot order (log 41). -/
theorem Runs.enterLifts {s : State} (hb : s.Busy) (l : LineId) (st : LiftState) :
    ∃ t, Runs 48 s ((liftsOf l).map (.enterLift · st)) t ∧ s.Reentered t (fun _ => .entered st) st (liftsOf l) := by
  refine ⟨_, ?_, State.reenter_all (fun _ => rfl) (fun _ => rfl) (liftsOf l) s (liftsOf_nodup l)⟩
  have hruns := (Runs.map (n := 3) (f := fun i => Job.enterLift i st) (P := fun _ => True) (liftsOf l)
    (fun s i _ hb _ => ⟨Runs.enterLift hb i st, trivial⟩) s hb trivial).1
  rwa [liftsOf_length] at hruns

/-! ### Panels that are cleared (R31) -/

/-- The panel's dynamic fields are cleared. -/
def State.clearedAt (s : State) (p : PanelIdx) : State := s.setPanelDyn p .cleared

theorem State.clearedAt_all (ps : List PanelIdx) : ∀ s : State,
    ps.foldl State.clearedAt s = { s with panels := (ps.foldl State.clearedAt s).panels } ∧
    ∀ q, (ps.foldl State.clearedAt s).panel q = if q ∈ ps then ⟨(s.panel q).config, .cleared⟩ else s.panel q := by
  induction ps with
  | nil => exact fun s => ⟨rfl, fun q => by simp⟩
  | cons p ps ih =>
    intro s
    obtain ⟨hrest, hpanel⟩ := ih (s.clearedAt p)
    refine ⟨by rw [List.foldl_cons, hrest]; rfl, fun q => ?_⟩
    rw [List.foldl_cons, hpanel]
    simp only [State.clearedAt, State.panel_setPanelDyn_if]
    by_cases hq : p = q
    · subst hq; simp
    · simp [hq, Ne.symm hq]

theorem inputChangeJobs_same (p : PanelIdx) (map : Vector (BitVec 16) 4) (x : BitVec 4) : inputChangeJobs p map x x = [] := by
  simp [inputChangeJobs, sharedJobs]

/-- A change of inputs is handed on as evaluations of lifts of the panel's line, one for a slot at most (R48). -/
theorem inputChangeJobs_cases (p : PanelIdx) (map : Vector (BitVec 16) 4) (old new : BitVec 4) :
    (inputChangeJobs p map old new).length ≤ 16 ∧
      ∀ j ∈ inputChangeJobs p map old new, ∃ i, lineOf i = panelLine p ∧ j = .sharedEval i := by
  constructor
  · rw [inputChangeJobs, sharedJobs, List.length_map]
    exact (List.length_filter_le _ _).trans (by simp)
  · intro j hj
    obtain ⟨k, -, rfl⟩ := List.mem_map.mp hj
    exact ⟨_, lineOf_liftAt _ k, rfl⟩

/-- A lift in DISABLED or OFFLINE takes no part in an evaluation of SHARED (R48). -/
theorem perform_sharedEval_off {s : State} {i : LiftIdx}
    (h : (s.lift i).dyn.state = .disabled ∨ (s.lift i).dyn.state = .offline) : perform s (.sharedEval i) = (s, []) := by
  have hoff : ((s.lift i).dyn.state = .disabled || (s.lift i).dyn.state = .offline) = true := by simpa using h
  simp only [perform, sharedEval, hoff, if_true]

/-- A panel is cleared where its inputs were inactive, or where the lifts of its line take no part in evaluations. -/
theorem Runs.clearPanel {s : State} (hb : s.Busy) {p : PanelIdx} (h : (s.panel p).dyn.inputs = 0#4 ∨
      ∀ i, lineOf i = panelLine p → (s.lift i).dyn.state = .disabled ∨ (s.lift i).dyn.state = .offline) :
    Runs 17 s [.clearPanel p] (s.clearedAt p) := by
  have hperform : perform s (.clearPanel p) = (s.clearedAt p,
    inputChangeJobs p (s.panel p).config.map (s.panel p).dyn.inputs 0#4) := rfl
  refine .step hb hperform ?_
  rw [List.append_nil]
  rcases h with h | h
  · rw [h, inputChangeJobs_same]; exact .nil hb
  · obtain ⟨hlen, hjobs⟩ := inputChangeJobs_cases p (s.panel p).config.map (s.panel p).dyn.inputs 0#4
    refine (Runs.skips (s := s.clearedAt p) hb fun j hj => ?_).mono hlen
    obtain ⟨i, hi, rfl⟩ := hjobs j hj
    exact perform_sharedEval_off (h i hi)

/-! ### LINE_ENABLE (R19) -/

/-- The line restarts with a START that opens the first window (R19, R21). -/
theorem Runs.restartLine {s : State} (hb : s.Busy) {l : LineId} (hno : s.NothingToSend l) {first : Slot} {slots : List Slot}
    (hs : s.slotSet l = first :: slots) :
    let u := s.setLine l { s.line l with cycleNumber := 0#8, mode := .continuous }
    Runs 2 s [.restartLine l] (s.setLine l (u.polling l none first slots)) := by
  intro u
  have hu : u.NothingToSend l := ⟨hno.cases, by simpa [u] using hno.answers, by simpa [u] using hno.routine⟩
  have hstart := Runs.start (s := u) (l := l) none hb hu hs
  rw [State.setLine_setLine] at hstart
  exact .step hb (a := [.start l none]) rfl (by simpa using hstart)

theorem toIdx_val {n : Nat} (k : Fin n) : toIdx n k.val = some k := by simp [toIdx]

theorem State.line_congr {s t : State} (h : t.lines = s.lines) (m : LineId) : t.line m = s.line m := by
  simp only [State.line, h]
theorem State.lift_congr {s t : State} (h : t.lifts = s.lifts) (i : LiftIdx) : t.lift i = s.lift i := by
  simp only [State.lift, h]
theorem State.panel_congr {s t : State} (h : t.panels = s.panels) (p : PanelIdx) : t.panel p = s.panel p := by
  simp only [State.panel, h]
theorem State.caseAt_congr {s t : State} (h : t.cases = s.cases) (c : CaseNo) : t.caseAt c = s.caseAt c := by
  simp only [State.caseAt, h]
theorem State.crew_congr {s t : State} (h : t.crews = s.crews) (k : CrewNo) : t.crew k = s.crew k := by
  simp only [State.crew, h]

/-- Changes of the lines, the lifts, the panels and the port alone. -/
theorem State.sameBeyondLines_of {s t : State}
    (h : t = { s with lines := t.lines, lifts := t.lifts, panels := t.panels, trunk := t.trunk })
    (ho : s.trunk.Offered t.trunk) : s.SameBeyondLines t := by
  refine ⟨?_, ?_, ?_, ?_, ?_, ?_, ?_, ?_, ?_, ?_, ?_, ?_, ?_, ho.rest⟩ <;> rw [h]

/-- LINE_ENABLE of a line in OFF: the whole handling. -/
theorem lineEnable_runs {s : State} {l : LineId} {first : Slot} {slots : List Slot} (hb : s.Busy) (hno : s.NothingToSend l)
    (hs : s.slotSet l = first :: slots)
    (hinputs : ∀ k, (s.panel (panelAt l k)).config.enabled = true → (s.panel (panelAt l k)).dyn.inputs = 0#4) :
    let u := s.setLine l ((s.setLine l { s.line l with cycleNumber := 0#8, mode := .continuous }).polling l none first slots)
    ∃ v, u.Reentered v (fun _ => .entered .unseen) .unseen (liftsOf l) ∧
      Runs 9000 s (enableJobs s l)
        (((panelsOf l).filter fun p => (s.panel p).config.enabled).foldl State.clearedAt v) := by
  intro u
  have hstart : Runs 2 s [.restartLine l] u := Runs.restartLine hb hno hs
  obtain ⟨v, hlifts, hv⟩ := Runs.enterLifts (s := u) hb l .unseen
  refine ⟨v, hv, ?_⟩
  have hpanels := (Runs.map (n := 17) (f := Job.clearPanel) (g := State.clearedAt)
    (P := fun t => ∀ p, panelLine p = l → (s.panel p).config.enabled = true → (t.panel p).dyn.inputs = 0#4)
    ((panelsOf l).filter fun p => (s.panel p).config.enabled) (fun t p hp ht hinv => ?_) v hlifts.busy_end ?_).1
  · refine ((hstart.append hlifts).append hpanels).mono ?_
    have := List.length_filter_le (fun p => (s.panel p).config.enabled) (panelsOf l)
    rw [panelsOf_length] at this
    omega
  · obtain ⟨hp, hen⟩ := by simpa using hp
    refine ⟨Runs.clearPanel ht (.inl (hinv p hp hen)), fun q hq hqen => ?_⟩
    rw [State.clearedAt, State.panel_setPanelDyn_if]
    split
    · rfl
    · exact hinv q hq hqen
  · intro p hp hen
    rw [hv.rest]
    have hk := hinputs (panelPlace p)
    rw [← hp, panelAt_panelLine] at hk
    exact hk hen

/-- Settles O35: the START, the lifts' entries and the clearing of the panels, each by its own law. -/
theorem lineEnableRestartsTheLine : Obligations.LineEnableRestartsTheLine := by
  intro s o l hready
  have hroom : s.trunk.own.length < 32 := hready.room
  have hexec : exec (.lineEnable o l.val) s = finish (s.withAnswer o 4#8 .ok .none,
      if (s.line l).state = .off then enableJobs s l else []) := by
    change finish (lineEnableRequest s o l.val) = _
    rw [lineEnableRequest, toIdx_val]
    exact congrArg finish (Prod.ext (State.answer_room s o _ _ _ hroom) rfl)
  refine ⟨fun hoff => ?_, fun first slots hoff hno hs _ hinputs => ?_⟩
  · rw [hexec, if_neg hoff]; exact finish_busy hready.busy
  · let s0 := s.withAnswer o 4#8 .ok .none
    have hno0 : s0.NothingToSend l := ⟨hno.cases, hno.answers, hno.routine⟩
    obtain ⟨v, hv, hruns⟩ := lineEnable_runs (s := s0) hready.busy hno0 hs hinputs
    let ps := (panelsOf l).filter fun p => (s.panel p).config.enabled
    obtain ⟨hrest, hpanel⟩ := State.clearedAt_all ps v
    let t := ps.foldl State.clearedAt v
    have hlifts : t.lifts = v.lifts := by simp only [t]; rw [hrest]
    have hline : ∀ m, t.line m = (s0.setLine l _).line m := State.line_congr (by simp only [t]; rw [hrest, hv.rest])
    have htrunk : t.trunk = v.trunk := by simp only [t]; rw [hrest]
    have hoffered : s0.trunk.Offered t.trunk := by rw [htrunk]; exact hv.offered
    refine ⟨t, ?_, State.sameBeyondLines_of ?_ ((s.withAnswer_offered _ _ _ _).trans hoffered), hoffered.joined, fun h17 => ?_,
      ?_, fun m hm => ?_, fun i => ?_, fun p => ?_⟩
    · rw [hexec, if_pos hoff]
      exact hruns.finish_eq (by omega)
    · simp only [t]; rw [hrest, hv.rest]; rfl
    · rw [htrunk, State.entrySummaries_eq]
      refine (hv.room ?_).trans (State.withBroadcasts_trunk _ rfl rfl)
      rw [liftsOf_length]
      change (s.withAnswer o 4#8 .ok .none).trunk.own.length + 16 ≤ 32
      rw [State.withAnswer, State.withOwn_length]
      omega
    · rw [hline, State.line_setLine]; rfl
    · rw [hline, State.line_setLine_ne _ _ _ _ (Ne.symm hm)]; rfl
    · rw [State.lift_congr hlifts, hv.lift]
      simp only [mem_liftsOf]
      rfl
    · rw [hpanel p]
      have hp : v.panel p = s.panel p := State.panel_congr (by rw [hv.rest]; rfl) p
      simp only [ps, List.mem_filter, mem_panelsOf, hp]
      rfl

end Sys2Proof.Machine
end

section
/-! SUPPORT. LINE_DISABLE (R20), with the crews that leave their panels (R88). -/

namespace Sys2Proof.Machine

/-! ### Crews that leave a panel (R88) -/

/-- The crew of the tag leaves the panel: its logged panel becomes absent where it is that one (R88). -/
def State.crewLeaves (s : State) (p : PanelIdx) (tag : Nat) : State := (crewLeft s p tag).1

theorem State.crewLeaves_none {s : State} {p : PanelIdx} {tag : Nat} (h : s.resolveTag tag = none) :
    s.crewLeaves p tag = s := by simp [State.crewLeaves, crewLeft, h]

theorem State.crewLeaves_some {s : State} {p : PanelIdx} {tag : Nat} {k : CrewNo} (h : s.resolveTag tag = some k) :
    s.crewLeaves p tag = s.setCrewDyn k { (s.crew k).dyn with
      logged := if (s.crew k).dyn.logged = some p then none else (s.crew k).dyn.logged } := by
  unfold State.crewLeaves crewLeft
  simp only [h]
  split
  · rfl
  · exact (State.setCrew_eq_self rfl).symm

/-- A departure does nothing to the releases where none is tied to the panel (R137). -/
theorem perform_releaseCrewLeft_untied {s : State} {c : CaseNo} {p : PanelIdx} {k : CrewNo}
    (h : ∀ q, s.isOpen c = true → (s.caseAt c).release = some q → q.panel ≠ p) :
    perform s (.releaseCrewLeft c p k) = (s, []) := by
  simp only [perform, releaseCrewLeft]
  split
  · next q hq =>
    rw [if_neg]
    simp only [Bool.and_eq_true, decide_eq_true_eq, not_and]
    exact fun ⟨hopen, hp⟩ _ => h q hopen hq hp
  · rfl

/-- A tag leaves a panel to which no release is tied. -/
theorem Runs.crewLeft {s : State} (hb : s.Busy) (p : PanelIdx) (tag : Nat)
    (h : ∀ c q, s.isOpen c = true → (s.caseAt c).release = some q → q.panel ≠ p) :
    Runs 17 s [.crewLeft p tag] (s.crewLeaves p tag) := by
  cases hk : s.resolveTag tag with
  | none =>
    have hleft : perform s (.crewLeft p tag) = (s, []) := by simp [perform, Machine.crewLeft, hk]
    rw [State.crewLeaves_none hk]
    exact (Runs.one hb hleft hb).mono (by omega)
  | some k =>
    have hleft : perform s (.crewLeft p tag) = (s.crewLeaves p tag, crewLeftJobs p k) := by
      simp [perform, Machine.crewLeft, State.crewLeaves, hk]
    have hb' : (s.crewLeaves p tag).Busy := by rw [State.crewLeaves_some hk]; exact hb
    refine .step hb hleft ?_
    rw [List.append_nil]
    refine (Runs.skips hb' fun j hj => ?_).mono (by simp [crewLeftJobs])
    obtain ⟨c, -, rfl⟩ := List.mem_map.mp hj
    refine perform_releaseCrewLeft_untied ?_
    rw [State.crewLeaves_some hk]
    exact h c

/-- The crews of the tags that `tag` gives for the panels leave them, one panel after another. -/
def State.crewsLeave (tag : PanelIdx → Option Nat) (s : State) (p : PanelIdx) : State :=
  match tag p with
  | some t => s.crewLeaves p t
  | none => s

/-- Crew `k` is the one that a tag of the panels names, and is logged at that panel. -/
def State.Leaves (s : State) (tag : PanelIdx → Option Nat) (ps : List PanelIdx) (k : CrewNo) : Prop :=
  ∃ p ∈ ps, ∃ t, tag p = some t ∧ s.resolveTag t = some k ∧ (s.crew k).dyn.logged = some p

/-- What departures one panel after another leave: the crews alone change, and a crew that has left has no logged panel. -/
structure State.Departed (s t : State) (tag : PanelIdx → Option Nat) (ps : List PanelIdx) : Prop where
  rest : t = { s with crews := t.crews }
  config : ∀ k, (t.crew k).config = (s.crew k).config
  left : ∀ k, s.Leaves tag ps k → t.crew k = { s.crew k with dyn := { (s.crew k).dyn with logged := none } }
  stayed : ∀ k, ¬ s.Leaves tag ps k → t.crew k = s.crew k

section

variable {tag : PanelIdx → Option Nat}

theorem State.resolveTag_congr {s t : State} (h : ∀ k, (t.crew k).config = (s.crew k).config) (n : Nat) :
    t.resolveTag n = s.resolveTag n := by
  simp only [State.resolveTag, h]

theorem State.Departed.of_unchanged {s : State} {ps : List PanelIdx} (h : ∀ k, ¬ s.Leaves tag ps k) :
    s.Departed s tag ps := ⟨rfl, fun _ => rfl, fun k hk => absurd hk (h k), fun _ _ => rfl⟩

theorem State.departed_one (tag : PanelIdx → Option Nat) (s : State) (p : PanelIdx) :
    s.Departed (s.crewsLeave tag p) tag [p] := by
  cases ht : tag p with
  | none =>
    rw [show s.crewsLeave tag p = s by simp [State.crewsLeave, ht]]
    exact .of_unchanged fun k => by simp [State.Leaves, ht]
  | some n =>
    have hleaves : ∀ k, s.Leaves tag [p] k ↔ s.resolveTag n = some k ∧ (s.crew k).dyn.logged = some p := fun k => by
      simp [State.Leaves, ht]
    rw [show s.crewsLeave tag p = s.crewLeaves p n by simp [State.crewsLeave, ht]]
    cases hj : s.resolveTag n with
    | none =>
      rw [State.crewLeaves_none hj]
      exact .of_unchanged fun k => by simp [hleaves, hj]
    | some j =>
      rw [State.crewLeaves_some hj]
      refine ⟨rfl, fun k => ?_, fun k hk => ?_, fun k hk => ?_⟩ <;> rw [State.crew_setCrewDyn_if]
      · split
        · next h => rw [h]
        · rfl
      · obtain ⟨hjk, hl⟩ := (hleaves k).mp hk
        obtain rfl : j = k := Option.some.inj (hj.symm.trans hjk)
        rw [if_pos rfl, if_pos hl]
      · by_cases hjk : j = k
        · subst hjk
          rw [if_pos rfl, if_neg fun hl => hk ((hleaves j).mpr ⟨hj, hl⟩)]
        · rw [if_neg hjk]

theorem State.Departed.trans {s t u : State} {ps qs : List PanelIdx} (hst : s.Departed t tag ps) (htu : t.Departed u tag qs) :
    s.Departed u tag (ps ++ qs) := by
  have hres := State.resolveTag_congr hst.config
  have hsplit : ∀ k, s.Leaves tag (ps ++ qs) k ↔ s.Leaves tag ps k ∨ s.Leaves tag qs k := fun k => by
    simp only [State.Leaves, List.mem_append, or_and_right, exists_or]
  have hlater : ∀ k, s.Leaves tag ps k → ¬ t.Leaves tag qs k := fun k hk ⟨p, _, n, _, _, hl⟩ => by
    simp [hst.left k hk] at hl
  have hsame : ∀ k, ¬ s.Leaves tag ps k → (t.Leaves tag qs k ↔ s.Leaves tag qs k) := fun k hk => by
    simp only [State.Leaves, hres, hst.stayed k hk]
  refine ⟨by rw [htu.rest, hst.rest], fun k => (htu.config k).trans (hst.config k), fun k hk => ?_, fun k hk => ?_⟩
  · by_cases hp : s.Leaves tag ps k
    · rw [htu.stayed k (hlater k hp), hst.left k hp]
    · have hq := ((hsplit k).mp hk).resolve_left hp
      rw [htu.left k ((hsame k hp).mpr hq), hst.stayed k hp]
  · obtain ⟨hp, hq⟩ := not_or.mp (mt (hsplit k).mpr hk)
    rw [htu.stayed k (mt (hsame k hp).mp hq), hst.stayed k hp]

theorem State.departed_all (ps : List PanelIdx) : ∀ s : State, s.Departed (ps.foldl (State.crewsLeave tag) s) tag ps := by
  induction ps with
  | nil => exact fun s => .of_unchanged fun k ⟨p, hp, _⟩ => by simp at hp
  | cons p ps ih => exact fun s => (State.departed_one tag s p).trans (ih _)

end

/-- The crews logged at panels of a list leave them, none of the panels being tied to a release. -/
theorem Runs.crewsLeave {s : State} (hb : s.Busy) (u : State) (ps : List PanelIdx)
    (h : ∀ c q, s.isOpen c = true → (s.caseAt c).release = some q → q.panel ∉ ps) :
    ∃ t, Runs (17 * ps.length) s (crewsLeaveJobs u ps) t ∧ s.Departed t (fun p => (u.panel p).dyn.logged) ps := by
  have hruns := (Runs.flatMap (n := 17) (f := fun p => match (u.panel p).dyn.logged with
      | some t => [Job.crewLeft p t]
      | none => []) (g := State.crewsLeave fun p => (u.panel p).dyn.logged) (P := fun t => t.cases = s.cases) ps
    (fun t p hp ht hcases => ?_) s hb rfl).1
  · exact ⟨_, hruns, State.departed_all ps s⟩
  · have hkeep : (t.crewsLeave (fun p => (u.panel p).dyn.logged) p).cases = s.cases := by
      rw [(State.departed_one _ t p).rest]; exact hcases
    refine ⟨?_, hkeep⟩
    unfold State.crewsLeave
    dsimp only
    split
    · refine Runs.crewLeft ht p _ fun c q hopen hq hqp => ?_
      rw [State.isOpen, State.caseAt_congr hcases] at hopen
      rw [State.caseAt_congr hcases] at hq
      exact h c q hopen hq (hqp ▸ hp)
    · exact .nil ht

/-! ### LINE_DISABLE (R20) -/

/-- LINE_DISABLE's jobs after the line has entered OFF: the lifts enter OFFLINE, the crews leave, the panels are cleared. -/
theorem lineDisable_runs {s u : State} {l : LineId} (hb : s.Busy)
    (hrelease : ∀ c q, s.isOpen c = true → (s.caseAt c).release = some q → panelLine q.panel ≠ l)
    (hoff : ∀ i, lineOf i = l → (s.lift i).config.enabled = false → (s.lift i).dyn.state = .disabled) :
    ∃ v w, s.Reentered v (fun _ => .entered .offline) .offline (liftsOf l) ∧
      v.Departed w (fun p => (u.panel p).dyn.logged) (panelsOf l) ∧
      Runs 9000 s (disableJobs u l) ((panelsOf l).foldl State.clearedAt w) := by
  obtain ⟨v, hlifts, hv⟩ := Runs.enterLifts hb l .offline
  have hvcases : v.cases = s.cases := by rw [hv.rest]
  obtain ⟨w, hcrews, hw⟩ := Runs.crewsLeave hlifts.busy_end u (panelsOf l) fun c q hopen hq hp => by
    rw [State.isOpen, State.caseAt_congr hvcases] at hopen
    rw [State.caseAt_congr hvcases] at hq
    exact hrelease c q hopen hq (mem_panelsOf.mp hp)
  refine ⟨v, w, hv, hw, ?_⟩
  have hwlifts : w.lifts = v.lifts := by rw [hw.rest]
  have hout : ∀ i, lineOf i = l → (w.lift i).dyn.state = .disabled ∨ (w.lift i).dyn.state = .offline := fun i hi => by
    rw [State.lift_congr hwlifts, hv.lift]
    by_cases hen : (s.lift i).config.enabled = true
    · rw [if_pos ⟨mem_liftsOf.mpr hi, hen⟩]; exact .inr rfl
    · rw [if_neg fun h => hen h.2]; exact .inl (hoff i hi (by simpa using hen))
  have hpanels := (Runs.map (n := 17) (f := Job.clearPanel) (g := State.clearedAt) (P := fun t => t.lifts = w.lifts)
    (panelsOf l) (fun t p hp ht hinv => ⟨Runs.clearPanel ht (.inr fun i hi => ?_), hinv⟩) w hcrews.busy_end rfl).1
  · exact ((hlifts.append hcrews).append hpanels).mono (by simp)
  · rw [State.lift_congr hinv]
    exact hout i (hi.trans (mem_panelsOf.mp hp))

/-- Settles O36: the line enters OFF, and then the lifts', the crews' and the panels' laws follow one another. -/
theorem lineDisableTakesTheLineOff : Obligations.LineDisableTakesTheLineOff := by
  intro s o l hready
  have hanswer : ∀ code, s.answer o kindLineDisable code .none = s.withAnswer o 5#8 code .none :=
    fun code => State.answer_room s o _ _ _ hready.room
  have hexec : exec (.lineDisable o l.val) s = finish (lineDisableRequest s o l.val) := rfl
  rw [lineDisableRequest, toIdx_val] at hexec
  dsimp only at hexec
  refine ⟨fun hoff => ?_, fun hon ⟨c, hopen, hc⟩ => ?_, fun hon hno hrelease hdisabled => ?_⟩
  · rw [hexec, if_pos hoff, answered, hanswer]; exact finish_busy hready.busy
  · have hopenOn : (s.openOn l).isEmpty = false := by
      rw [← Bool.not_eq_true, State.openOn_isEmpty]; exact fun h => h c hopen hc
    rw [hexec, if_neg hon, hopenOn, answered, hanswer]; exact finish_busy hready.busy
  · let s0 := offLine (s.withAnswer o 5#8 .ok .none) l
    obtain ⟨v, w, hv, hw, hruns⟩ := lineDisable_runs (s := s0) (u := s) (l := l) hready.busy hrelease hdisabled
    obtain ⟨hrest, hpanel⟩ := State.clearedAt_all (panelsOf l) w
    let t := (panelsOf l).foldl State.clearedAt w
    have ht : t = { v with crews := w.crews, panels := t.panels } := by simp only [t]; rw [hrest, hw.rest]
    have htrunk : t.trunk = v.trunk := by rw [ht]
    have hlifts : t.lifts = v.lifts := by rw [ht]
    have hcrews : t.crews = w.crews := by rw [ht]
    have hline : ∀ m, t.line m = s0.line m := State.line_congr (by rw [ht, hv.rest])
    have hoffered : (s.withAnswer o 5#8 .ok .none).trunk.Offered t.trunk := by rw [htrunk]; exact hv.offered
    have hleaves : ∀ k, (∃ p tag, panelLine p = l ∧ (s.panel p).dyn.logged = some tag ∧ s.resolveTag tag = some k ∧
        (s.crew k).dyn.logged = some p) ↔ v.Leaves (fun p => (s.panel p).dyn.logged) (panelsOf l) k := fun k => by
      have hcrew : ∀ k, v.crew k = s.crew k := State.crew_congr (by rw [hv.rest]; rfl)
      simp only [State.Leaves, mem_panelsOf, State.resolveTag_congr fun k => congrArg Crew.config (hcrew k), hcrew,
        exists_and_left]
    refine ⟨t, ?_, State.sameBeyondLines_of ?_ ((s.withAnswer_offered _ _ _ _).trans hoffered), hoffered.joined, fun h17 => ?_,
      ?_, fun m hm => ?_, fun i => ?_, fun p => ?_, fun k => ⟨fun hk => ?_, fun hk => ?_⟩⟩
    · rw [hexec, if_neg hon, State.openOn_isEmpty.mpr hno, hanswer]
      exact hruns.finish_eq (by omega)
    · rw [ht, hv.rest]; rfl
    · rw [htrunk, State.entrySummaries_eq]
      refine (hv.room ?_).trans (State.withBroadcasts_trunk _ rfl rfl)
      rw [liftsOf_length]
      change (s.withAnswer o 5#8 .ok .none).trunk.own.length + 16 ≤ 32
      rw [State.withAnswer, State.withOwn_length]
      omega
    · rw [hline]; exact State.line_setLine _ _ _
    · rw [hline]; exact State.line_setLine_ne _ _ _ _ (Ne.symm hm)
    · rw [State.lift_congr hlifts, hv.lift]
      simp only [mem_liftsOf]
      rfl
    · rw [hpanel p]
      have hp : w.panel p = s.panel p := State.panel_congr (by rw [hw.rest, hv.rest]; rfl) p
      simp only [mem_panelsOf, hp]
      rfl
    · rw [State.crew_congr hcrews, hw.left k ((hleaves k).mp hk), State.crew_congr (s := s) (by rw [hv.rest]; rfl)]
    · rw [State.crew_congr hcrews, hw.stayed k (mt (hleaves k).mpr hk), State.crew_congr (s := s) (by rw [hv.rest]; rfl)]

end Sys2Proof.Machine
end

section
/-! SUPPORT. LINE_RESET (R21), with the ends of releases (R132, R138). -/

namespace Sys2Proof.Machine

/-! ### How a release ends (R132) -/

/-- The record once its release has ended: a pulse not yet sent is withdrawn with it. -/
def Case.withoutRelease (r : Case) : Case :=
  { (if r.release.any fun q => q.sub == .pulsePending then r.withdraw .release else r) with release := none }

section

variable {s : State} {c : CaseNo}

theorem Case.withdraw_of_none {r : Case} (owner : CommandOwner) (h : r.pending = none) : r.withdraw owner = r := by
  simp [Case.withdraw, h]

theorem Case.dropRelease_of_none {r : Case} (h : r.release = none) : { r with release := none } = r := by
  rw [← h]

theorem Case.withoutRelease_of_none {r : Case} (h : r.pending = none) : r.withoutRelease = { r with release := none } := by
  simp only [Case.withoutRelease, Case.withdraw_of_none _ h, ite_self]

@[simp] theorem Case.withdraw_owed (r : Case) (owner : CommandOwner) : (r.withdraw owner).owed = r.owed := by
  unfold Case.withdraw; split <;> [split; skip] <;> rfl
@[simp] theorem Case.withdraw_procedure (r : Case) (owner : CommandOwner) : (r.withdraw owner).procedure = r.procedure := by
  unfold Case.withdraw; split <;> [split; skip] <;> rfl
@[simp] theorem Case.withdraw_pulses (r : Case) (owner : CommandOwner) : (r.withdraw owner).pulses = r.pulses := by
  unfold Case.withdraw; split <;> [split; skip] <;> rfl
@[simp] theorem Case.withdraw_record (r : Case) (owner : CommandOwner) : (r.withdraw owner).record = r.record := by
  unfold Case.withdraw; split <;> [split; skip] <;> rfl
@[simp] theorem Case.withoutRelease_owed (r : Case) : r.withoutRelease.owed = r.owed := by
  unfold Case.withoutRelease; dsimp only; split <;> simp
@[simp] theorem Case.withoutRelease_procedure (r : Case) : r.withoutRelease.procedure = r.procedure := by
  unfold Case.withoutRelease; dsimp only; split <;> simp
@[simp] theorem Case.withoutRelease_pulses (r : Case) : r.withoutRelease.pulses = r.pulses := by
  unfold Case.withoutRelease; dsimp only; split <;> simp
@[simp] theorem Case.withoutRelease_record (r : Case) : r.withoutRelease.record = r.record := by
  unfold Case.withoutRelease; dsimp only; split <;> simp

/-- An abort with room for its notice (R132, R141). -/
theorem dropRelease_room (reason : AbortReason) (hroom : s.trunk.own.length < 32) (howed : (s.caseAt c).owed = false) :
    dropRelease s c (.aborted reason) = (s.setCase c (s.caseAt c).withoutRelease).withNotice c (s.caseAt c).withoutRelease
      .releaseAborted (.aborted reason (s.caseAt c).pulses) := by
  have hdrop : dropRelease s c (.aborted reason) = (s.setCase c (s.caseAt c).withoutRelease).notify c .releaseAborted
      (.aborted reason ((s.setCase c (s.caseAt c).withoutRelease).caseAt c).pulses) := rfl
  rw [hdrop, State.caseAt_setCase, Case.withoutRelease_pulses]
  exact State.setCase_notify_room _ _ hroom (by simpa using howed)

/-- An abort that no step waits for. -/
theorem endRelease_unawaited (reason : AbortReason) (hroom : s.trunk.own.length < 32) (howed : (s.caseAt c).owed = false)
    (hwait : (s.caseAt c).procedure.status ≠ .running ∨ (s.caseAt c).procedure.wait ≠ .release) :
    endRelease s c (.aborted reason) = ((s.setCase c (s.caseAt c).withoutRelease).withNotice c (s.caseAt c).withoutRelease
      .releaseAborted (.aborted reason (s.caseAt c).pulses), []) := by
  unfold endRelease
  rw [dropRelease_room reason hroom howed]
  dsimp only
  rw [if_neg]
  simp only [State.waitsFor, State.withNotice, State.withBroadcast_caseAt, State.caseAt_setCase, Case.withoutRelease_procedure,
    Bool.and_eq_true, beq_iff_eq]
  tauto

/-- An abort that the procedure's step waits for fails the step (R132). -/
theorem endRelease_awaited (reason : AbortReason) (hroom : s.trunk.own.length < 32) (howed : (s.caseAt c).owed = false)
    (hrun : (s.caseAt c).procedure.status = .running) (hwait : (s.caseAt c).procedure.wait = .release) :
    endRelease s c (.aborted reason) = failWait ((s.setCase c (s.caseAt c).withoutRelease).withNotice c
      (s.caseAt c).withoutRelease .releaseAborted (.aborted reason (s.caseAt c).pulses)) c := by
  unfold endRelease
  rw [dropRelease_room reason hroom howed]
  dsimp only
  rw [if_pos]
  simp [State.waitsFor, State.withNotice, hrun, hwait]

/-! ### The cases of a line that is reset (R21 steps 2 and 3) -/

/-- Record `c` is an OPEN case on line `l`. -/
def State.openHere (s : State) (l : LineId) (c : CaseNo) : Bool := s.isOpen c && lineOf (s.caseAt c).lift == l

theorem State.openHere_iff {l : LineId} : s.openHere l c = true ↔ s.isOpen c = true ∧ lineOf (s.caseAt c).lift = l := by
  simp [State.openHere]

theorem State.openHere_congr {t : State} {l : LineId} (hrecord : (t.caseAt c).record = (s.caseAt c).record)
    (hlift : (t.caseAt c).lift = (s.caseAt c).lift) : t.openHere l c = s.openHere l c := by
  simp only [State.openHere, State.isOpen, hrecord, hlift]

theorem dropPending_caseAt (s : State) (l : LineId) (c : CaseNo) : (dropPending s l).caseAt c =
    if s.openHere l c then { s.caseAt c with pending := none } else s.caseAt c := by
  simp only [dropPending, State.caseAt, State.openHere, State.isOpen, Vector.getElem_map, Bool.and_eq_true, beq_iff_eq,
    decide_eq_true_eq]

theorem dropPending_openHere (s : State) (l m : LineId) (c : CaseNo) :
    (dropPending s l).openHere m c = s.openHere m c := by
  have hrecord : ((dropPending s l).caseAt c).record = (s.caseAt c).record := by rw [dropPending_caseAt]; split <;> rfl
  have hlift : ((dropPending s l).caseAt c).lift = (s.caseAt c).lift := by rw [dropPending_caseAt]; split <;> rfl
  exact State.openHere_congr hrecord hlift

/-- The notice of a release that a LINE_RESET aborts (R138). -/
def State.resetAbort (s : State) (c : CaseNo) : OwnBody :=
  .notice (s.noticeAbout c { s.caseAt c with release := none } .releaseAborted (.aborted .lineReset (s.caseAt c).pulses))

theorem perform_releaseReset_skip {l : LineId} (h : s.openHere l c = false ∨ (s.caseAt c).release = none) :
    perform s (.releaseReset c l) = (s, []) := by
  have hcond : (s.isOpen c && (s.caseAt c).release.isSome && lineOf (s.caseAt c).lift = l) = false := by
    rcases h with h | h
    · simp only [State.openHere, Bool.and_eq_false_iff, beq_eq_false_iff_ne] at h
      simp only [Bool.and_eq_false_iff, decide_eq_false_iff_not]
      tauto
    · simp [h]
  simp only [perform, releaseReset, hcond]
  rfl

theorem perform_releaseReset_abort {l : LineId} (hhere : s.openHere l c = true) (hrelease : (s.caseAt c).release ≠ none) :
    perform s (.releaseReset c l) = endRelease s c (.aborted .lineReset) := by
  obtain ⟨hopen, hline⟩ := State.openHere_iff.mp hhere
  simp [perform, releaseReset, hopen, hline, Option.isSome_iff_ne_none, hrelease]

end

/-- The OPEN cases of the line, of a list of records, that hold a release. -/
def State.abortsOn (s : State) (l : LineId) (cs : List CaseNo) : List CaseNo :=
  cs.filter fun c => s.openHere l c && (s.caseAt c).release.isSome

/-- What the aborts of the releases of a line's cases leave, no procedure waiting for them: the releases are gone, and there is a
notice for each (R138). -/
structure State.ResetAborted (s t : State) (l : LineId) (cs : List CaseNo) : Prop where
  rest : t = { s with cases := t.cases, trunk := t.trunk }
  cases : ∀ c, t.caseAt c = if c ∈ cs ∧ s.openHere l c = true then { s.caseAt c with release := none } else s.caseAt c
  trunk : t.trunk = (s.withBroadcasts ((s.abortsOn l cs).map s.resetAbort)).trunk

/-- The release of case record `c` can be aborted without more than a notice: no command is pending, no notice owed, and no step
waits for it. -/
structure Case.AbortsAlone (r : Case) : Prop where
  pending : r.pending = none
  owed : r.owed = false
  unawaited : r.procedure.status ≠ .running ∨ r.procedure.wait ≠ .release

section

variable {s : State} {l : LineId}

theorem Runs.releaseReset (hb : s.Busy) (c : CaseNo)
    (h : c ∈ s.abortsOn l [c] → s.trunk.own.length < 32 ∧ (s.caseAt c).AbortsAlone) :
    ∃ t, Runs 1 s [.releaseReset c l] t ∧ s.ResetAborted t l [c] := by
  by_cases hc : s.openHere l c = true ∧ (s.caseAt c).release ≠ none
  · have habort : s.abortsOn l [c] = [c] := by simp [State.abortsOn, hc.1, Option.isSome_iff_ne_none, hc.2]
    obtain ⟨hroom, halone⟩ := h (by simp [habort])
    have hperform := (perform_releaseReset_abort hc.1 hc.2).trans
      (endRelease_unawaited .lineReset hroom halone.owed halone.unawaited)
    rw [Case.withoutRelease_of_none halone.pending] at hperform
    refine ⟨_, .one hb hperform hb, rfl, fun e => ?_, ?_⟩
    · simp only [State.withNotice, State.withBroadcast_caseAt, State.caseAt_setCase_if, List.mem_singleton]
      by_cases he : c = e
      · subst he; simp [hc.1]
      · simp [he, Ne.symm he]
    · rw [habort]; rfl
  · have hskip : s.openHere l c = false ∨ (s.caseAt c).release = none := by
      simpa only [not_and_or, Bool.not_eq_true, not_not] using hc
    refine ⟨s, .one hb (perform_releaseReset_skip hskip) hb, rfl, fun e => ?_, ?_⟩
    · split
      · next he =>
        obtain ⟨he, hopen⟩ := he
        obtain rfl := List.mem_singleton.mp he
        exact (Case.dropRelease_of_none (hskip.resolve_left (by simp [hopen]))).symm
      · rfl
    · have hnone : s.abortsOn l [c] = [] := by
        rcases hskip with h | h <;> simp [State.abortsOn, h]
      rw [hnone]; rfl

theorem State.ResetAborted.trans {t u : State} {cs ds : List CaseNo} (hst : s.ResetAborted t l cs)
    (htu : t.ResetAborted u l ds) (hdisj : ∀ c ∈ ds, c ∉ cs) : s.ResetAborted u l (cs ++ ds) := by
  have hsame : ∀ c ∈ ds, t.caseAt c = s.caseAt c := fun c hc => by rw [hst.cases, if_neg fun h => hdisj c hc h.1]
  have hhere : ∀ c ∈ ds, t.openHere l c = s.openHere l c := fun c hc =>
    State.openHere_congr (by rw [hsame c hc]) (by rw [hsame c hc])
  refine ⟨by rw [htu.rest, hst.rest], fun c => ?_, ?_⟩
  · rw [htu.cases]
    by_cases hc : c ∈ ds
    · simp [hc, hsame c hc, hhere c hc]
    · simp [hc, hst.cases]
  · have haborts : t.abortsOn l ds = s.abortsOn l ds := List.filter_congr fun c hc => by rw [hhere c hc, hsame c hc]
    have hbodies : (s.abortsOn l ds).map t.resetAbort = (s.abortsOn l ds).map s.resetAbort :=
      List.map_congr_left fun c hc => by
        simp only [State.resetAbort, hsame c (List.mem_of_mem_filter hc)]
        rw [hst.rest]
        rfl
    have happ : s.abortsOn l (cs ++ ds) = s.abortsOn l cs ++ s.abortsOn l ds := List.filter_append ..
    rw [htu.trunk, haborts, hbodies, happ, List.map_append, State.withBroadcasts_append]
    exact State.withBroadcasts_trunk _ hst.trunk (by rw [hst.rest, State.withBroadcasts_rest])

/-- The releases of a line's cases abort, in ascending record order (R138, log 33). -/
theorem Runs.releaseResets (cs : List CaseNo) : ∀ s : State, s.Busy → cs.Nodup →
    s.trunk.own.length + (s.abortsOn l cs).length ≤ 32 → (∀ c ∈ s.abortsOn l cs, (s.caseAt c).AbortsAlone) →
    ∃ t, Runs cs.length s (cs.map (.releaseReset · l)) t ∧ s.ResetAborted t l cs := by
  induction cs with
  | nil => exact fun s hb _ _ _ => ⟨s, .nil hb, rfl, fun c => by simp, rfl⟩
  | cons c cs ih =>
    intro s hb hnd hroom halone
    obtain ⟨hc, hcs⟩ := List.nodup_cons.mp hnd
    have hsplit : s.abortsOn l (c :: cs) = s.abortsOn l [c] ++ s.abortsOn l cs := List.filter_append (l₁ := [c]) ..
    rw [hsplit] at halone
    rw [hsplit, List.length_append] at hroom
    obtain ⟨t, hrun, ht⟩ := Runs.releaseReset (l := l) hb c fun h =>
      ⟨by have := List.length_pos_of_mem h; omega, halone c (List.mem_append_left _ h)⟩
    have hne : ∀ e ∈ cs, e ∉ [c] := fun e he h => hc (List.mem_singleton.mp h ▸ he)
    have hsame : ∀ e ∈ cs, t.caseAt e = s.caseAt e := fun e he => by
      rw [ht.cases, if_neg (mt And.left (hne e he))]
    have haborts : t.abortsOn l cs = s.abortsOn l cs := List.filter_congr fun e he => by
      rw [State.openHere_congr (s := s) (by rw [hsame e he]) (by rw [hsame e he]), hsame e he]
    obtain ⟨u, hruns, hu⟩ := ih t hrun.busy_end hcs
      (by rw [ht.trunk, State.withBroadcasts_length, List.length_map, haborts]; omega)
      (fun e he => by
        rw [haborts] at he
        rw [hsame e (List.mem_of_mem_filter he)]
        exact halone e (List.mem_append_right _ he))
    refine ⟨u, ?_, ht.trans hu hne⟩
    rw [List.length_cons, Nat.add_comm]
    exact hrun.append hruns

end

/-! ### The lost commands (R21 step 2) -/

theorem mem_pendingOn {s : State} {l : LineId} {e : CaseNo × CommandOwner} (h : e ∈ pendingOn s l) :
    s.openHere l e.1 = true ∧ ∃ m, (s.caseAt e.1).pending = some m ∧ e.2 = m.owner := by
  obtain ⟨c, hc, he⟩ := List.mem_filterMap.mp h
  obtain ⟨m, hm, rfl⟩ := Option.map_eq_some_iff.mp he
  exact ⟨State.openHere_iff.mpr (State.mem_openOn.mp hc), m, hm, rfl⟩

theorem pendingOn_length (s : State) (l : LineId) : (pendingOn s l).length ≤ 16 := by
  have h1 := List.length_filterMap_le (fun c => (s.caseAt c).pending.map fun p => (c, p.owner)) (s.openOn l)
  have h2 : (s.openOn l).length ≤ 16 := by
    refine (List.length_filter_le _ _).trans ((List.length_filter_le _ _).trans ?_)
    simp
  exact h1.trans h2

/-- The case is told of the loss while it is OPEN with the serial. -/
theorem perform_lost {s : State} {c : CaseNo} {serial : BitVec 16} {owner : CommandOwner} (hopen : s.isOpen c = true)
    (hserial : (s.caseAt c).serial = serial) : perform s (.lost c serial owner) = commandLost s c owner := by
  simp [perform, State.holds, hopen, hserial]

theorem commandLost_unawaited {s : State} {c : CaseNo} (owner : CommandOwner)
    (h : (s.caseAt c).procedure.status ≠ .running ∨ (s.caseAt c).procedure.wait ≠ .delivery) :
    commandLost s c owner = (s, []) := by
  have hwaits : s.waitsFor c .delivery = false := by simpa [State.waitsFor, ← not_and_or] using h
  cases owner <;> simp [commandLost, hwaits]

theorem commandLost_awaited {s : State} {c : CaseNo} (hrun : (s.caseAt c).procedure.status = .running)
    (hwait : (s.caseAt c).procedure.wait = .delivery) : commandLost s c .procedure = failWait s c := by
  simp [commandLost, State.waitsFor, hrun, hwait]

/-! ### The line restarts (R21 steps 4 to 6) -/

/-- The dynamic part of an enabled lift once its line is reset (the last row of R28). -/
def LiftDynamic.afterReset (d : LiftDynamic) : LiftDynamic :=
  { d with
    state := .unseen, lastReport := none, stopCount := 0, silenceCount := 0, pressBaseline := none
    keptTruth := if d.lastReport = none then d.keptTruth.union d.truth else d.truth }

theorem LiftDynamic.truthToKeep_eq (d : LiftDynamic) :
    d.truthToKeep = if d.lastReport = none then d.keptTruth.union d.truth else d.truth := by
  unfold LiftDynamic.truthToKeep
  by_cases h : d.lastReport = none
  · rw [LiftDynamic.heldTruth_of_none h, if_pos h]
  · obtain ⟨n, hn⟩ := Option.ne_none_iff_exists'.mp h
    rw [LiftDynamic.heldTruth_of_report hn, if_neg h]
    rfl

theorem Runs.resetLift {s : State} (hb : s.Busy) (i : LiftIdx) :
    Runs 2 s [.resetLift i] (s.reenter LiftDynamic.afterReset i) := by
  by_cases hen : (s.lift i).config.enabled = true
  · let u := s.setDyn i (s.lift i).dyn.afterReset
    have hperform : perform s (.resetLift i) = (u, Machine.changeJobs i (s.lift i).dyn.state .unseen) := by
      simp only [perform, Machine.resetLift, hen, if_true, LiftDynamic.truthToKeep_eq]; rfl
    have hend : s.reenter LiftDynamic.afterReset i =
        if (s.lift i).dyn.state = .unseen then u else summaryAfterChange u i := by
      simp only [State.reenter, hen, if_true]; rfl
    rw [hend]
    exact .step hb hperform (by rw [List.append_nil]; exact .changeJobs (s := u) hb i _ _)
  · have hperform : perform s (.resetLift i) = (s, []) := by simp [perform, Machine.resetLift, hen]
    have hend : s.reenter LiftDynamic.afterReset i = s := by simp [State.reenter, hen]
    rw [hend]
    exact (Runs.one hb hperform hb).mono (by omega)

theorem Runs.resetLifts {s : State} (hb : s.Busy) (l : LineId) :
    ∃ t, Runs 32 s ((liftsOf l).map .resetLift) t ∧ s.Reentered t LiftDynamic.afterReset .unseen (liftsOf l) := by
  refine ⟨_, ?_, State.reenter_all (d := LiftDynamic.afterReset) (fun _ => rfl) (fun _ => rfl) (liftsOf l) s
    (liftsOf_nodup l)⟩
  have hruns := (Runs.map (n := 2) (f := Job.resetLift) (P := fun _ => True) (liftsOf l)
    (fun s i _ hb _ => ⟨Runs.resetLift hb i, trivial⟩) s hb trivial).1
  rwa [liftsOf_length] at hruns

/-- Line `l` has been reset from state `s`, all but the cases and the port. -/
def State.Restarted (s : State) (l : LineId) (first : Slot) (slots : List Slot) (t : State) : Prop :=
  s.SameBeyondLines { t with cases := s.cases } ∧ t.panels = s.panels ∧
    t.line l = (s.setLine l { s.line l with
      cycleNumber := 0#8, mode := .continuous, routine := [], answers := Vector.replicate 4 none }).polling
        l none first slots ∧
    (∀ m, m ≠ l → t.line m = s.line m) ∧
    ∀ i, t.lift i = if lineOf i = l ∧ (s.lift i).config.enabled = true
      then ⟨(s.lift i).config, (s.lift i).dyn.afterReset⟩ else s.lift i

/-- The last steps of a LINE_RESET: the lifts become UNSEEN and the line restarts. -/
theorem lineReset_end {s w : State} {l : LineId} {first : Slot} {slots : List Slot}
    (hw : w = { abandonCycle s l with cases := w.cases, trunk := w.trunk }) (hb : w.Busy) (hoffered : s.trunk.Offered w.trunk)
    (hpending : ∀ c, w.openHere l c = true → (w.caseAt c).pending = none) (hs : s.slotSet l = first :: slots) :
    ∃ t, Runs 34 w ((liftsOf l).map .resetLift ++ [.restartLine l]) t ∧ s.Restarted l first slots t ∧ t.cases = w.cases ∧
      w.trunk.own <+: t.trunk.own ∧
      (w.trunk.own.length + 16 ≤ 32 → t.trunk = (w.withBroadcasts (s.entrySummaries l .unseen)).trunk) := by
  obtain ⟨v, hlifts, hv⟩ := Runs.resetLifts hb l
  have hvline : ∀ m, v.line m = (abandonCycle s l).line m := State.line_congr (by rw [hv.rest, hw])
  have hline : v.line l = (abandonCycle s l).line l := hvline l
  rw [abandonCycle, State.line_setLine] at hline
  have hwlift : ∀ i, w.lift i = s.lift i := State.lift_congr (by rw [hw]; rfl)
  have hwtime : w.time = s.time := by rw [hw]; rfl
  have hno : v.NothingToSend l := by
    refine ⟨fun c hopen hc => ?_, fun k => by rw [hline]; simp, by rw [hline]⟩
    have hcase : v.caseAt c = w.caseAt c := State.caseAt_congr (by rw [hv.rest]) c
    rw [hcase] at hc ⊢
    rw [State.isOpen, hcase] at hopen
    exact hpending c (State.openHere_iff.mpr ⟨hopen, hc⟩)
  have hslots : v.slotSet l = first :: slots := by
    rw [State.slotSet_congr (s := s) (fun i => ?_) (fun p => ?_), hs]
    · rw [hv.lift, hwlift]; split <;> rfl
    · rw [State.panel_congr (s := s) (by rw [hv.rest, hw]; rfl)]
  have hrestart := Runs.restartLine hlifts.busy_end hno hslots
  have hrest : v = { abandonCycle s l with cases := w.cases, lifts := v.lifts, trunk := v.trunk } := by rw [hv.rest, hw]
  refine ⟨_, hlifts.append hrestart, ⟨State.sameBeyondLines_of ?_ (hoffered.trans hv.offered), ?_, ?_, fun m hm => ?_,
    fun i => ?_⟩, ?_, hv.offered.joined, fun hroom => ?_⟩
  · rw [hrest]; rfl
  · rw [hrest]; rfl
  · simp only [State.polling, State.startedWith, State.line_setLine, hline, State.setLine_lineSettings]
    rw [hrest]
    rfl
  · rw [State.line_setLine_ne _ _ _ _ (Ne.symm hm), hvline m]
    exact State.line_setLine_ne _ _ _ _ (Ne.symm hm)
  · change v.lift i = _
    rw [hv.lift, hwlift]
    simp only [mem_liftsOf]
  · rw [hrest]; rfl
  · change v.trunk = _
    rw [hv.room (by rw [liftsOf_length]; exact hroom), State.entrySummaries_eq]
    have hsums : w.reentrySummaries .unseen (liftsOf l) = s.reentrySummaries .unseen (liftsOf l) := by
      simp only [State.reentrySummaries, hwlift, hwtime]
    rw [hsums]

/-! ### LINE_RESET as a whole (R21, R165) -/

section

variable {s : State} {o : Origin} {l : LineId}

/-- The state once LINE_RESET has abandoned the cycle and dropped the pending commands (R21 steps 1 and 2). -/
def State.stripped (s : State) (o : Origin) (l : LineId) : State :=
  dropPending (abandonCycle (s.withAnswer o 6#8 .ok .none) l) l

/-- The jobs of LINE_RESET that tell the cases (R21 steps 2 and 3). -/
def resetCaseJobs (s : State) (l : LineId) : List Job :=
  (pendingOn s l).map (fun e => .lost e.1 (s.serialOf e.1) e.2) ++ (List.finRange 16).map (.releaseReset · l)

theorem State.stripped_caseAt (c : CaseNo) : (s.stripped o l).caseAt c =
    if s.openHere l c then { s.caseAt c with pending := none } else s.caseAt c := dropPending_caseAt _ _ _

theorem State.stripped_openHere (c : CaseNo) : (s.stripped o l).openHere l c = s.openHere l c := dropPending_openHere _ _ _ _

/-- The whole handling, from what the cases come to. -/
theorem lineReset_of_cases {w : State} {n : Nat} {first : Slot} {slots : List Slot} (hready : s.Ready 1)
    (hon : (s.line l).state ≠ .off) (hs : s.slotSet l = first :: slots)
    (hruns : Runs n (s.stripped o l) (resetCaseJobs s l) w) (hn : n ≤ 9000)
    (hw : w = { s.stripped o l with cases := w.cases, trunk := w.trunk }) (hoffered : s.trunk.Offered w.trunk)
    (hpending : ∀ c, w.openHere l c = true → (w.caseAt c).pending = none) :
    ∃ t, exec (.lineReset o l.val) s = .next t ∧ s.Restarted l first slots t ∧ t.cases = w.cases ∧
      w.trunk.own <+: t.trunk.own ∧
      (w.trunk.own.length + 16 ≤ 32 → t.trunk = (w.withBroadcasts (s.entrySummaries l .unseen)).trunk) := by
  obtain ⟨t, hend, hrest⟩ := lineReset_end (s := s) (w := w) hw hruns.busy_end hoffered hpending hs
  refine ⟨t, ?_, hrest⟩
  change finish (lineResetRequest s o l.val) = _
  rw [lineResetRequest, toIdx_val]
  dsimp only
  rw [if_neg hon, State.answer_room s o _ _ _ hready.room]
  have hall := (hruns.append hend).finish_eq (by omega)
  simp only [resetCaseJobs, ← List.append_assoc] at hall
  exact hall

/-- The lost commands of cases that do not wait for their delivery are told to no effect. -/
theorem Runs.lost_unawaited {w : State} (hb : w.Busy) (hw : w = s.stripped o l)
    (h : ∀ c, s.openHere l c = true → (s.caseAt c).procedure.status ≠ .running ∨ (s.caseAt c).procedure.wait ≠ .delivery) :
    Runs 16 w ((pendingOn s l).map fun e => .lost e.1 (s.serialOf e.1) e.2) w := by
  refine (Runs.skips hb fun j hj => ?_).mono (by rw [List.length_map]; exact pendingOn_length s l)
  obtain ⟨e, he, rfl⟩ := List.mem_map.mp hj
  obtain ⟨hhere, -⟩ := mem_pendingOn he
  have hcase : w.caseAt e.1 = { s.caseAt e.1 with pending := none } := by
    rw [hw, State.stripped_caseAt, if_pos hhere]
  rw [perform_lost (by rw [State.isOpen, hcase]; exact (State.openHere_iff.mp hhere).1) (by rw [hcase]; rfl)]
  exact commandLost_unawaited _ (by rw [hcase]; exact h _ hhere)

/-- LINE_RESET where no procedure waits for what is lost: every case loses its command and its release. -/
theorem lineReset_unawaited {first : Slot} {slots : List Slot} (hready : s.Ready 1) (hon : (s.line l).state ≠ .off)
    (hs : s.slotSet l = first :: slots)
    (hroom : s.trunk.own.length + 1 + (s.abortsOn l (List.finRange 16)).length ≤ 32)
    (howed : ∀ c ∈ s.abortsOn l (List.finRange 16), (s.caseAt c).owed = false)
    (hwait : ∀ c, s.openHere l c = true → (s.caseAt c).procedure.status ≠ .running ∨
      ((s.caseAt c).procedure.wait ≠ .delivery ∧ (s.caseAt c).procedure.wait ≠ .release)) :
    let stripped (c : CaseNo) : Case := { s.caseAt c with pending := none, release := none }
    let told := (s.withAnswer o 6#8 .ok .none).withBroadcasts ((s.abortsOn l (List.finRange 16)).map fun c =>
      .notice (s.noticeAbout c (stripped c) .releaseAborted (.aborted .lineReset (s.caseAt c).pulses)))
    ∃ t, exec (.lineReset o l.val) s = .next t ∧ s.Restarted l first slots t ∧
      (∀ c, t.caseAt c = if s.openHere l c then stripped c else s.caseAt c) ∧
      told.trunk.own.IsPrefix t.trunk.own ∧
      (s.trunk.own.length + 17 + (s.abortsOn l (List.finRange 16)).length ≤ 32 →
        t.trunk = (told.withBroadcasts (s.entrySummaries l .unseen)).trunk) := by
  intro stripped told
  let u := s.stripped o l
  have hcase : ∀ c, s.openHere l c = true → u.caseAt c = { s.caseAt c with pending := none } := fun c hc => by
    rw [State.stripped_caseAt, if_pos hc]
  have haborts : u.abortsOn l (List.finRange 16) = s.abortsOn l (List.finRange 16) :=
    List.filter_congr fun c _ => by
      rw [State.stripped_openHere, State.stripped_caseAt]; split <;> rfl
  have hmem : ∀ c ∈ s.abortsOn l (List.finRange 16), s.openHere l c = true := fun c hc => by
    simpa using (Bool.and_eq_true_iff.mp (List.mem_filter.mp hc).2).1
  have hulen : u.trunk.own.length = s.trunk.own.length + 1 := State.withOwn_length s _
  have hlost : Runs 16 u _ u := Runs.lost_unawaited (s := s) (o := o) (l := l) hready.busy rfl fun c hc =>
    (hwait c hc).imp_right And.left
  obtain ⟨w, hreleases, hw⟩ := Runs.releaseResets (l := l) (List.finRange 16) u hready.busy (List.nodup_finRange 16)
    (by rw [haborts, hulen]; exact hroom)
    (fun c hc => by
      rw [haborts] at hc
      rw [hcase c (hmem c hc)]
      exact ⟨rfl, howed c hc, (hwait c (hmem c hc)).imp_right And.right⟩)
  have hwtrunk : w.trunk = told.trunk := by
    rw [hw.trunk, haborts]
    have hbodies : (s.abortsOn l (List.finRange 16)).map u.resetAbort = (s.abortsOn l (List.finRange 16)).map fun c =>
        .notice (s.noticeAbout c (stripped c) .releaseAborted (.aborted .lineReset (s.caseAt c).pulses)) :=
      List.map_congr_left fun c hc => by rw [State.resetAbort, hcase c (hmem c hc)]; rfl
    rw [hbodies]
    exact State.withBroadcasts_trunk _ rfl rfl
  have hwcase : ∀ c, w.caseAt c = if s.openHere l c then stripped c else s.caseAt c := fun c => by
    rw [hw.cases, State.stripped_openHere, State.stripped_caseAt]
    by_cases hc : s.openHere l c = true
    · simp [hc, stripped]
    · simp [hc]
  have hwhere : ∀ c, w.openHere l c = s.openHere l c := fun c =>
    State.openHere_congr (by rw [hwcase]; split <;> rfl) (by rw [hwcase]; split <;> rfl)
  have hoffered : s.trunk.Offered w.trunk := by
    rw [hwtrunk]
    exact (s.withAnswer_offered _ _ _ _).trans (State.withBroadcasts_offered _ _)
  obtain ⟨t, hexec, hrestarted, hcases, hprefix, htrunk⟩ := lineReset_of_cases (o := o) hready hon hs
    (hlost.append hreleases) (by simp) (by rw [hw.rest]) hoffered fun c hc => by
      rw [hwhere] at hc
      rw [hwcase, if_pos hc]
  refine ⟨t, hexec, hrestarted, fun c => ?_, ?_, fun h17 => ?_⟩
  · rw [State.caseAt_congr hcases, hwcase]
  · rw [← hwtrunk]; exact hprefix
  · rw [htrunk ?_]
    · have hstraps : told.straps = s.straps := by simp only [told]; rw [State.withBroadcasts_rest]; rfl
      exact State.withBroadcasts_trunk _ hwtrunk (by rw [hstraps, hw.rest]; rfl)
    · rw [hwtrunk, State.withBroadcasts_length, List.length_map, State.withAnswer, State.withOwn_length]
      omega

/-- A case is alone on its line. -/
theorem State.openOn_alone {c : CaseNo} (hhere : s.openHere l c = true) (halone : ∀ e, s.openHere l e = true → e = c) :
    s.openOn l = [c] := by
  have hmem : ∀ e, e ∈ s.openOn l ↔ e = c := fun e => by
    rw [State.mem_openOn, ← State.openHere_iff]
    exact ⟨halone e, fun h => h ▸ hhere⟩
  have hasc := s.openOn_ascending l
  match h : s.openOn l with
  | [] => exact absurd ((hmem c).mpr rfl) (by simp [h])
  | [x] => rw [(hmem x).mp (by simp [h])]
  | x :: y :: _ =>
    rw [h] at hasc
    have hx := (hmem x).mp (by simp [h])
    have hy := (hmem y).mp (by simp [h])
    have hxy : x < y := (List.pairwise_cons.mp hasc).1 y (by simp)
    exact absurd hxy (by rw [hx, hy]; exact lt_irrefl c)

/-- LINE_RESET with one case on the line, which the handling brings to `handed`, having sent the notices `bodies`. -/
theorem lineReset_alone {w : State} {n : Nat} {first : Slot} {slots : List Slot} {c : CaseNo} {handed : Case}
    {bodies : List OwnBody} (hready : s.Ready 1) (hon : (s.line l).state ≠ .off) (hs : s.slotSet l = first :: slots)
    (halone : ∀ e, s.openHere l e = true → e = c)
    (hruns : Runs n (s.stripped o l) (resetCaseJobs s l) w) (hn : n ≤ 9000)
    (hw : w = ((s.stripped o l).setCase c handed).withBroadcasts bodies) (hrecord : handed.record = (s.caseAt c).record)
    (hlift : handed.lift = (s.caseAt c).lift) (hpending : handed.pending = none) :
    ∃ t, exec (.lineReset o l.val) s = .next t ∧ s.Restarted l first slots t ∧
      (∀ e, t.caseAt e = if e = c then handed else s.caseAt e) ∧
      ((s.withAnswer o 6#8 .ok .none).withBroadcasts bodies).trunk.own.IsPrefix t.trunk.own := by
  have hwcase : ∀ e, w.caseAt e = if e = c then handed else s.caseAt e := fun e => by
    have hcases : w.cases = ((s.stripped o l).setCase c handed).cases := by rw [hw, State.withBroadcasts_rest]
    rw [State.caseAt_congr hcases, State.caseAt_setCase_if]
    by_cases he : c = e
    · simp [he]
    · rw [if_neg he, if_neg (Ne.symm he), State.stripped_caseAt, if_neg fun h => he (halone e h).symm]
  have hwhere : ∀ e, w.openHere l e = s.openHere l e := fun e => by
    refine State.openHere_congr ?_ ?_ <;> rw [hwcase] <;> split
    · next h => rw [h, hrecord]
    · rfl
    · next h => rw [h, hlift]
    · rfl
  have hwtrunk : w.trunk = ((s.withAnswer o 6#8 .ok .none).withBroadcasts bodies).trunk := by
    rw [hw]; exact State.withBroadcasts_trunk _ rfl rfl
  obtain ⟨t, hexec, hrestarted, hcases, hprefix, -⟩ := lineReset_of_cases (o := o) (w := w) hready hon hs hruns hn
    (by rw [hw, State.withBroadcasts_rest]; rfl)
    (by rw [hwtrunk]; exact (s.withAnswer_offered _ _ _ _).trans (State.withBroadcasts_offered _ _))
    (fun e he => by
      rw [hwhere] at he
      rw [hwcase, if_pos (halone e he), hpending])
  exact ⟨t, hexec, hrestarted, fun e => by rw [State.caseAt_congr hcases, hwcase], by rw [← hwtrunk]; exact hprefix⟩

/-- The procedure of the open case `c` is RUNNING at a step whose branch is END(HANDOVER), and no notice is owed. -/
structure State.FailsOver (s : State) (c : CaseNo) : Prop where
  running : (s.caseAt c).procedure.status = .running
  owed : (s.caseAt c).owed = false
  ends : s.EndsAt (s.caseAt c).procedure (s.stepOf (s.caseAt c).procedure).target (s.stepOf (s.caseAt c).procedure).common

/-- The record once its procedure has been handed over at the branch, its command and its release lost. -/
def State.lostOver (s : State) (c : CaseNo) : Case :=
  { (s.caseAt c).handedAt (s.stepOf (s.caseAt c).procedure).target (s.stepOf (s.caseAt c).procedure).common with
    pending := none, release := none }

/-- Once no open case of the line holds a release, the rest of step 3 does nothing. -/
theorem Runs.releaseResets_skip (hb : s.Busy) (cs : List CaseNo)
    (h : ∀ c ∈ cs, s.openHere l c = true → (s.caseAt c).release = none) :
    Runs cs.length s (cs.map (.releaseReset · l)) s := by
  refine (Runs.skips hb fun j hj => ?_).mono (by simp)
  obtain ⟨c, hc, rfl⟩ := List.mem_map.mp hj
  exact perform_releaseReset_skip (Bool.eq_false_or_eq_true (s.openHere l c) |>.symm.imp_right (h c hc))

/-- The same, where the one case of the line has been handed over. -/
theorem Runs.releaseResets_lostOver {c : CaseNo} (halone : ∀ e, s.openHere l e = true → e = c) {v : State} (hb : v.Busy)
    (hv : v.cases = ((s.stripped o l).setCase c (s.lostOver c)).cases) (cs : List CaseNo) :
    Runs cs.length v (cs.map (.releaseReset · l)) v := by
  refine Runs.releaseResets_skip hb cs fun e _ he => ?_
  have hcase : v.caseAt e = if c = e then s.lostOver c else (s.stripped o l).caseAt e := by
    rw [State.caseAt_congr hv, State.caseAt_setCase_if]
  by_cases hce : c = e
  · rw [hcase, if_pos hce]; rfl
  · rw [if_neg hce] at hcase
    rw [State.openHere_congr (s := s.stripped o l) (by rw [hcase]) (by rw [hcase]), State.stripped_openHere] at he
    exact absurd (halone e he).symm hce

/-- The procedure waits for the delivery of the lost command: the step fails (R117). -/
theorem Runs.resetCases_delivery {c : CaseNo} {m : PendingCommand} (hready : s.Ready 1) (hroom : s.trunk.own.length + 3 ≤ 32)
    (hhere : s.openHere l c = true) (halone : ∀ e, s.openHere l e = true → e = c) (hover : s.FailsOver c)
    (hwait : (s.caseAt c).procedure.wait = .delivery) (hm : (s.caseAt c).pending = some m) (howner : m.owner = .procedure)
    (hrelease : (s.caseAt c).release = none) :
    Runs 20 (s.stripped o l) (resetCaseJobs s l) (((s.stripped o l).setCase c (s.lostOver c)).withNotice c (s.lostOver c)
      .handover (.handover .ended)) := by
  let u := s.stripped o l
  have hcase : u.caseAt c = { s.caseAt c with pending := none, release := none } := by
    rw [State.stripped_caseAt, if_pos hhere, ← hrelease]
  have hopen : u.isOpen c = true := by rw [State.isOpen, hcase]; exact (State.openHere_iff.mp hhere).1
  have hulen : u.trunk.own.length = s.trunk.own.length + 1 := State.withOwn_length s _
  have hpendings : pendingOn s l = [(c, .procedure)] := by
    simp [pendingOn, State.openOn_alone hhere halone, hm, howner]
  have hfail := Runs.failWait_ending (s := u) (c := c) hready.busy hopen (by rw [hcase]; exact hover.running) (by omega)
    (by rw [hcase]; exact hover.owed) (by rw [hcase]; exact ⟨hover.ends.action, hover.ends.argument⟩)
  rw [hcase] at hfail
  have hlost : perform u (.lost c (s.serialOf c) .procedure) = failWait u c := by
    rw [perform_lost hopen (by rw [hcase]; rfl)]
    exact commandLost_awaited (by rw [hcase]; exact hover.running) (by rw [hcase]; exact hwait)
  have htold := Runs.of_step (s := u) hready.busy hlost hfail
  rw [resetCaseJobs, hpendings]
  exact (htold.append (Runs.releaseResets_lostOver (o := o) halone htold.busy_end rfl _)).mono (by simp)

/-- The record without its command and its release. -/
def State.bare (s : State) (c : CaseNo) : Case := { s.caseAt c with pending := none, release := none }

/-- The notices of an aborted release whose step fails over. -/
def State.lostOverBodies (s : State) (c : CaseNo) : List OwnBody :=
  [.notice (s.noticeAbout c (s.bare c) .releaseAborted (.aborted .lineReset (s.caseAt c).pulses)),
   .notice (s.noticeAbout c (s.lostOver c) .handover (.handover .ended))]

/-- The release that a procedure's step waits for aborts, and the step fails (R132, R138). -/
theorem Runs.releaseReset_awaited {c : CaseNo} (hready : s.Ready 1) (hroom : s.trunk.own.length + 3 ≤ 32)
    (hhere : s.openHere l c = true) (hover : s.FailsOver c)
    (hwait : (s.caseAt c).procedure.wait = .release) (hrelease : (s.caseAt c).release ≠ none) :
    Runs 2 (s.stripped o l) [.releaseReset c l]
      (((s.stripped o l).setCase c (s.lostOver c)).withBroadcasts (s.lostOverBodies c)) := by
  let u := s.stripped o l
  let v := (u.setCase c (s.bare c)).withNotice c (s.bare c) .releaseAborted (.aborted .lineReset (s.caseAt c).pulses)
  have hcase : u.caseAt c = { s.caseAt c with pending := none } := by rw [State.stripped_caseAt, if_pos hhere]
  have hulen : u.trunk.own.length = s.trunk.own.length + 1 := State.withOwn_length s _
  have hvlen : v.trunk.own.length = u.trunk.own.length + 1 := State.withBroadcast_length _ _
  have hvcase : v.caseAt c = s.bare c := State.caseAt_setCase _ _ _
  have hvopen : v.isOpen c = true := by rw [State.isOpen, hvcase]; exact (State.openHere_iff.mp hhere).1
  have habort : perform u (.releaseReset c l) = failWait v c := by
    rw [perform_releaseReset_abort (by rw [State.stripped_openHere]; exact hhere) (by rw [hcase]; exact hrelease),
      endRelease_awaited .lineReset (by omega) (by rw [hcase]; exact hover.owed) (by rw [hcase]; exact hover.running)
        (by rw [hcase]; exact hwait), hcase, Case.withoutRelease_of_none rfl]
    rfl
  have hfail : Runs 1 (failWait v c).1 (failWait v c).2
      ((v.setCase c (s.lostOver c)).withNotice c (s.lostOver c) .handover (.handover .ended)) := by
    have hrun := Runs.failWait_ending (s := v) (c := c) hready.busy hvopen (by rw [hvcase]; exact hover.running) (by omega)
      (by rw [hvcase]; exact hover.owed) (by rw [hvcase]; exact ⟨hover.ends.action, hover.ends.argument⟩)
    rw [hvcase] at hrun
    exact hrun
  have hset : v.setCase c (s.lostOver c) = (u.setCase c (s.lostOver c)).withBroadcast
      (.notice (s.noticeAbout c (s.bare c) .releaseAborted (.aborted .lineReset (s.caseAt c).pulses))) := by
    have hcommute : v.setCase c (s.lostOver c) = ((u.setCase c (s.bare c)).setCase c (s.lostOver c)).withBroadcast _ :=
      State.setCase_withBroadcast _ _ _ _
    rw [State.setCase_setCase] at hcommute
    exact hcommute
  rw [hset] at hfail
  exact Runs.of_step (s := u) hready.busy habort hfail

/-- The procedure waits for the aborted release: the step fails (R132). -/
theorem Runs.resetCases_release {c : CaseNo} (hready : s.Ready 1) (hroom : s.trunk.own.length + 3 ≤ 32)
    (hhere : s.openHere l c = true) (halone : ∀ e, s.openHere l e = true → e = c) (hover : s.FailsOver c)
    (hwait : (s.caseAt c).procedure.wait = .release) (hrelease : (s.caseAt c).release ≠ none) :
    Runs 40 (s.stripped o l) (resetCaseJobs s l)
      (((s.stripped o l).setCase c (s.lostOver c)).withBroadcasts (s.lostOverBodies c)) := by
  have hlost : Runs 16 (s.stripped o l) _ (s.stripped o l) := Runs.lost_unawaited hready.busy rfl fun e he => .inr (by
    rw [halone e he, hwait]; exact Wait.noConfusion)
  obtain ⟨before, after, hsplit⟩ := List.append_of_mem (List.mem_finRange c)
  have hbefore : c ∉ before := by
    have hnd := List.nodup_finRange 16
    rw [hsplit] at hnd
    exact fun h => (List.nodup_append.mp hnd).2.2 c h c (by simp) rfl
  have hskip := Runs.releaseResets_skip (l := l) hlost.busy_end before fun e he heh => by
    rw [State.stripped_openHere] at heh
    exact absurd (halone e heh ▸ he) hbefore
  have hthere := Runs.releaseReset_awaited (o := o) hready hroom hhere hover hwait hrelease
  have hafter := Runs.releaseResets_lostOver halone hthere.busy_end (by rw [State.withBroadcasts_rest]) after
  have hlen : before.length + (after.length + 1) = 16 := by
    have := congrArg List.length hsplit
    simpa using this.symm
  rw [resetCaseJobs, hsplit, List.map_append, List.map_cons]
  exact (hlost.append (hskip.append (hthere.append hafter))).mono (by omega)

end

/-- Settles O37: the cases are told to no effect but the aborts, or the one case of the line fails over; then the line restarts. -/
theorem lineResetRestartsTheLine : Obligations.LineResetRestartsTheLine := by
  intro s o l hready
  refine ⟨fun hoff => ?_, fun first slots hon hs => ?_⟩
  · change finish (lineResetRequest s o l.val) = _
    rw [lineResetRequest, toIdx_val]
    dsimp only
    rw [if_pos hoff, answered, State.answer_room s o _ _ _ hready.room]
    exact finish_busy hready.busy
  · intro here stripped restarted
    refine ⟨fun aborts haborts hroom howed hwait => ?_, ?_⟩
    · subst haborts
      exact lineReset_unawaited hready hon hs hroom howed hwait
    · intro c hhere halone howed hroom p at' hrun haction hargument handed toldOver gone
      have hover : s.FailsOver c := ⟨hrun, howed, haction, hargument⟩
      refine ⟨fun ⟨m, hm, howner⟩ hwait hrelease => ?_, fun hrelease hwait => ?_⟩
      · exact lineReset_alone (handed := s.lostOver c) hready hon hs halone
          (Runs.resetCases_delivery hready hroom hhere halone hover hwait hm howner hrelease) (by omega)
          (bodies := [.notice (s.noticeAbout c (s.lostOver c) .handover (.handover .ended))]) rfl rfl rfl rfl
      · exact lineReset_alone (handed := s.lostOver c) hready hon hs halone
          (Runs.resetCases_release hready hroom hhere halone hover hwait hrelease) (by omega)
          (bodies := s.lostOverBodies c) rfl rfl rfl rfl

end Sys2Proof.Machine
end

section
/-! SUPPORT. What a window hands on as it closes (R7 to R10). -/

namespace Sys2Proof.Machine

/-! ### The window that closes (R7, R8) -/

/-- The line's record once its window has been judged: one error where the answer counts one (R7). -/
def Line.judged (r : Line) (a : SlotAnswer) : Line :=
  { r with errors := if a = .silent true then min 65535 (r.errors + 1) else r.errors }

theorem Line.judged_of_ne {r : Line} {a : SlotAnswer} (h : a ≠ .silent true) : r.judged a = r := by
  simp [Line.judged, h]

theorem countError_if (s : State) (l : LineId) (a : SlotAnswer) :
    (if a = .silent true then countError s l else s) = s.setLine l ((s.line l).judged a) := by
  by_cases h : a = .silent true
  · simp only [h, if_true, countError, Line.judged, satInc_eq_min]
  · rw [if_neg h, Line.judged_of_ne h, State.setLine_eq_self rfl]

theorem slotJobs_car (s : State) (l : LineId) (k : Fin 16) (a : SlotAnswer) :
    slotJobs s l (carSlot k) a = carJobs s (liftAt l k) a := by
  simp [slotJobs, carSlot]

theorem slotJobs_panel (s : State) (l : LineId) (k : Fin 4) (a : SlotAnswer) :
    slotJobs s l (panelSlot k) a = panelSlotJobs s (panelAt l k) a := by
  simp [slotJobs, panelSlot]

section

variable {s t : State} {l : LineId} {slot : Slot} {held : WindowHeld} {n : Nat}

/-- The line has its window of `slot` open. -/
structure State.WindowOpen (s : State) (l : LineId) (slot : Slot) : Prop where
  cycle : (s.line l).state = .cycle
  current : (s.line l).currentSlot = some slot

theorem exec_answerWindowClose (h : s.WindowOpen l slot) : exec (.answerWindowClose l held) s =
    finish (s.setLine l ((s.line l).judged (judgeWindow slot (s.line l).collided held)),
      slotJobs s l slot (judgeWindow slot (s.line l).collided held) ++ [.advance l slot]) := by
  change execAnswerWindowClose l held s = _
  unfold execAnswerWindowClose
  simp only [h.cycle, h.current, closeWindow, countError_if]

/-- The next window of the cycle opens (R7). -/
theorem advance_next {next : Slot} (h : s.WindowOpen l slot) (hnext : (s.line l).slotSet.find? (fun x => slot < x) = some next) :
    advance s l slot = (s.setLine l { s.line l with currentSlot := some next, collided := false }, []) := by
  simp [advance, h.cycle, h.current, hnext]

/-- The last window of the cycle is followed by the STOP (R7, R11). -/
theorem advance_last (h : s.WindowOpen l slot) (hlast : (s.line l).slotSet.find? (fun x => slot < x) = none) :
    advance s l slot = (s, [.stop l]) := by
  simp [advance, h.cycle, h.current, hlast]

/-- A window whose outcome leaves the line alone: the next window opens on what the outcome comes to. -/
theorem closes_next {next : Slot} {a : SlotAnswer} (h : s.WindowOpen l slot)
    (hnext : (s.line l).slotSet.find? (fun x => slot < x) = some next) (ha : judgeWindow slot (s.line l).collided held = a)
    (hjobs : Runs n (s.setLine l ((s.line l).judged a)) (slotJobs s l slot a) t) (hn : n < 9000)
    (hline : t.line l = (s.line l).judged a) : exec (.answerWindowClose l held) s =
      .next (t.setLine l { (s.line l).judged a with currentSlot := some next, collided := false }) := by
  rw [exec_answerWindowClose h, ha]
  have hopen : t.WindowOpen l slot := ⟨by rw [hline]; exact h.cycle, by rw [hline]; exact h.current⟩
  have hadvance : perform t (.advance l slot) = _ := advance_next hopen (next := next) (by rw [hline]; exact hnext)
  rw [hline] at hadvance
  exact (hjobs.append (Runs.one hjobs.busy_end hadvance hjobs.busy_end)).finish_eq (by omega)

/-- The outcome of the slot changes nothing. -/
def State.Idle (s : State) (l : LineId) (slot : Slot) (a : SlotAnswer) : Prop :=
  ∀ r : Line, ∀ j ∈ slotJobs s l slot a, perform (s.setLine l r) j = (s.setLine l r, [])

theorem slotJobs_length_silent (s : State) (l : LineId) (slot : Slot) (error : Bool) :
    (slotJobs s l slot (.silent error)).length ≤ 1 := by
  unfold slotJobs
  split
  · simp only [carJobs]; split <;> simp
  · simp only [panelSlotJobs]; split <;> simp

/-- A silent panel slot whose hold is not active keeps every field (R10). -/
theorem panelSilent_inactive {p : PanelIdx} (h : (s.panel p).dyn.hold = false) : panelSilent s p = (s, []) := by
  have hself : s.setPanelDyn p { (s.panel p).dyn with hold := false } = s := State.setPanel_eq_self (by rw [← h])
  simp [panelSilent, hself, h]

theorem State.idle_silentPanel {k : Fin 4} (h : (s.panel (panelAt l k)).dyn.hold = false) (error : Bool) :
    s.Idle l (panelSlot k) (.silent error) := by
  intro r j hj
  rw [slotJobs_panel] at hj
  simp only [panelSlotJobs] at hj
  split at hj
  · obtain rfl := List.mem_singleton.mp hj
    exact panelSilent_inactive (s := s.setLine l r) h
  · simp at hj

theorem slotJobs_disabledPanel {k : Fin 4} (h : (s.panel (panelAt l k)).config.enabled = false) (a : SlotAnswer) :
    slotJobs s l (panelSlot k) a = [] := by
  rw [slotJobs_panel]; cases a <;> simp [panelSlotJobs, h]

theorem slotJobs_disabledLift {k : Fin 16} (h : (s.lift (liftAt l k)).config.enabled = false) (a : SlotAnswer) :
    slotJobs s l (carSlot k) a = [] := by
  rw [slotJobs_car]; cases a <;> simp [carJobs, h]

/-- Jobs of an outcome that changes nothing. -/
theorem Runs.idle {a : SlotAnswer} (hb : s.Busy) (h : s.Idle l slot a) (r : Line) :
    Runs (slotJobs s l slot a).length (s.setLine l r) (slotJobs s l slot a) (s.setLine l r) :=
  Runs.skips hb (h r)

theorem State.keepsPolling_setLine {r : Line} (hr : r.routine = (s.line l).routine) (ha : r.answers = (s.line l).answers) :
    (s.setLine l r).KeepsPolling l ↔ s.KeepsPolling l := by
  simp only [State.KeepsPolling, State.line_setLine, hr, ha]
  exact Iff.rfl

/-- A window that is the last of its cycle, its outcome changing nothing: the STOP follows, and then what it gives rise to. -/
theorem closes_last {a : SlotAnswer} (hb : s.Busy) (h : s.WindowOpen l slot)
    (hlast : (s.line l).slotSet.find? (fun x => slot < x) = none) (ha : judgeWindow slot (s.line l).collided held = a)
    (hidle : s.Idle l slot a) (hlen : (slotJobs s l slot a).length ≤ 10)
    (hstop : Runs n (stopLine (s.setLine l ((s.line l).judged a)) l).1 (stopLine (s.setLine l ((s.line l).judged a)) l).2 t)
    (hn : n < 9000) : exec (.answerWindowClose l held) s = .next t := by
  rw [exec_answerWindowClose h, ha]
  let u := s.setLine l ((s.line l).judged a)
  have hopen : u.WindowOpen l slot := ⟨by rw [State.line_setLine]; exact h.cycle, by rw [State.line_setLine]; exact h.current⟩
  have hadvance : perform u (.advance l slot) = (u, [.stop l]) :=
    advance_last hopen (by rw [State.line_setLine]; exact hlast)
  have hafter : Runs (n + 2) u [.advance l slot] t :=
    .of_step hb hadvance (.of_step (w := stopLine u l) hb rfl hstop)
  exact ((Runs.idle hb hidle _).append hafter).finish_eq (by omega)

/-- What follows a STOP: nothing while the timer runs, and otherwise the next START, here with nothing to send. -/
theorem Runs.afterStop {timer : Timer} {r : Line} (hb : s.Busy)
    (hstop : stopLine s l = (s.setLine l r, if timer.isRunning then [] else [.start l none])) :
    (∀ n, timer = .running n → Runs 1 (stopLine s l).1 (stopLine s l).2 (s.setLine l r)) ∧
    ∀ first slots, (∀ n, timer ≠ .running n) → (s.setLine l r).NothingToSend l → s.slotSet l = first :: slots →
      Runs 1 (stopLine s l).1 (stopLine s l).2 (s.setLine l ((s.setLine l r).polling l none first slots)) := by
  rw [hstop]
  refine ⟨fun n hn => by rw [hn]; exact .nil hb, fun first slots hn hno hs => ?_⟩
  have htimer : timer.isRunning = false := by
    cases timer with
    | stopped => rfl
    | due => rfl
    | running n => exact absurd rfl (hn n)
  have hstart := Runs.start (s := s.setLine l r) none hb hno hs
  rw [State.setLine_setLine] at hstart
  rw [htimer]
  exact hstart

/-- The outcomes of a window that change nothing: a silent panel slot with its hold not active, and a record not enabled. -/
theorem State.idle_cases {a : SlotAnswer} (h : (∃ k : Fin 4, slot = panelSlot k ∧ (s.panel (panelAt l k)).dyn.hold = false ∧
      ∃ error, a = SlotAnswer.silent error) ∨
    (∃ k : Fin 4, slot = panelSlot k ∧ (s.panel (panelAt l k)).config.enabled = false) ∨
    ∃ k : Fin 16, slot = carSlot k ∧ (s.lift (liftAt l k)).config.enabled = false) :
    s.Idle l slot a ∧ (slotJobs s l slot a).length ≤ 1 := by
  rcases h with ⟨k, rfl, hhold, error, rfl⟩ | ⟨k, rfl, hen⟩ | ⟨k, rfl, hen⟩
  · exact ⟨State.idle_silentPanel hhold error, slotJobs_length_silent s l _ error⟩
  · have hnone := slotJobs_disabledPanel hen a
    exact ⟨fun r j hj => by simp [hnone] at hj, by simp [hnone]⟩
  · have hnone := slotJobs_disabledLift hen a
    exact ⟨fun r j hj => by simp [hnone] at hj, by simp [hnone]⟩

/-! ### Car slots (R45, R54) -/

/-- The truth set depends of the lift on its configuration, its state, its last report and what a reset kept. -/
theorem State.truthOf_setDyn {i : LiftIdx} {d : LiftDynamic} (hstate : d.state = (s.lift i).dyn.state)
    (hreport : d.lastReport = (s.lift i).dyn.lastReport) (hkept : d.keptTruth = (s.lift i).dyn.keptTruth) :
    (s.setDyn i d).truthOf i = s.truthOf i := by
  simp only [State.truthOf, State.lift_setDyn, LiftDynamic.heldTruth, Lift.reports, hstate, hreport, hkept]
  rfl

theorem CauseSet.filter_false : CauseSet.filter (fun _ => false) = .empty := rfl

theorem raisedCauses_empty (g : LiftConfig) (old : CauseSet) : raisedCauses g old .empty = .empty := by
  have hno : ∀ c, CauseSet.empty.has c = false := fun c => by cases c <;> rfl
  simp [raisedCauses, hno, CauseSet.filter_false]

/-- A lift none of whose causes is enabled has none true (R46). -/
theorem State.truthOf_disabled {i : LiftIdx} (h : ∀ x, ((s.lift i).config.cause x).enabled = false) :
    s.truthOf i = .empty := by
  simp only [State.truthOf, h, Bool.false_and, CauseSet.filter_false, ite_self]

theorem Lift.standingTruth_disabled {r : Lift} (h : ∀ x, (r.config.cause x).enabled = false) : r.standingTruth = .empty := by
  simp only [Lift.standingTruth, h, Bool.false_and, CauseSet.filter_false]

/-- A silent slot below the silence threshold, no cause being true: the count alone goes up (R45). -/
theorem silentSlot_below {i : LiftIdx} (htruth : (s.lift i).dyn.truth = .empty) (hnow : s.truthOf i = .empty)
    (hbelow : min 15 ((s.lift i).dyn.silenceCount + 1) < (s.lift i).config.silence) :
    silentSlot s i = (s.setLift i { s.lift i with dyn := { (s.lift i).dyn with
      silenceCount := min 15 ((s.lift i).dyn.silenceCount + 1) } }, []) := by
  let d : LiftDynamic := { (s.lift i).dyn with silenceCount := min 15 ((s.lift i).dyn.silenceCount + 1) }
  have hstate : (if (s.lift i).config.silence ≤ min 15 ((s.lift i).dyn.silenceCount + 1) then LiftState.silent
      else (s.lift i).dyn.state) = (s.lift i).dyn.state := if_neg (Nat.not_le.mpr hbelow)
  have hstore : storeTruth (s.setDyn i d) i = s.setDyn i d := by
    rw [storeTruth, State.truthOf_setDyn (d := d) rfl rfl rfl, hnow, State.lift_setDyn]
    exact State.setLift_eq_self (by rw [State.lift_setDyn, ← htruth])
  unfold silentSlot
  simp only [satInc_eq_min, hstate, if_true, List.append_nil]
  change (storeTruth (s.setDyn i d) i, toldIf i _ ((storeTruth (s.setDyn i d) i).lift i).dyn.truth ++
    raiseIf i (raisedCauses _ _ ((storeTruth (s.setDyn i d) i).lift i).dyn.truth)) = (s.setDyn i d, [])
  have hempty : ((s.setDyn i d).lift i).dyn.truth = .empty := by rw [State.lift_setDyn]; exact htruth
  rw [hstore, hempty, htruth, raisedCauses_empty]
  rfl

/-- A taken report of a lift with no cause enabled, none true and no case open: the lift is brought up to date, and a summary is
decided (R54). -/
theorem takenReport_quiet {i : LiftIdx} {r : CarReport} (hcase : (s.lift i).dyn.openCase = none)
    (htruth : (s.lift i).dyn.truth = .empty) (hcauses : ∀ x, ((s.lift i).config.cause x).enabled = false) :
    takenReport s i r = (s.setDyn i (reportedDyn (s.lift i).config (s.lift i).dyn r),
      [.summaryReport i (s.lift i).dyn.state (s.lift i).dyn.lastReport]) := by
  let d := reportedDyn (s.lift i).config (s.lift i).dyn r
  have hempty : ((s.setDyn i d).lift i).dyn.truth = .empty := by rw [State.lift_setDyn]; exact htruth
  have hstore : storeTruth (s.setDyn i d) i = s.setDyn i d := by
    rw [storeTruth, State.truthOf_disabled (by rw [State.lift_setDyn]; exact hcauses)]
    exact State.setLift_eq_self (by rw [← hempty])
  have htold : toldAtReport i (s.lift i) .empty = [] := by
    rw [toldAtReport, htruth, Lift.standingTruth_disabled hcauses]; rfl
  unfold takenReport
  simp only [hcase]
  change (storeTruth (s.setDyn i d) i, toldAtReport i _ ((storeTruth (s.setDyn i d) i).lift i).dyn.truth ++ [] ++
    raiseIf i (raisedCauses _ _ ((storeTruth (s.setDyn i d) i).lift i).dyn.truth) ++ _) = (s.setDyn i d, _)
  rw [hstore, hempty, htold, raisedCauses_empty]
  rfl

/-- The summary of a report in a mode other than CHANGES (R52). -/
theorem summaryAfterReport_room {i : LiftIdx} (before : LiftState) (previous : Option CarRecord)
    (hmode : (s.lift i).config.forwarding ≠ .changes) (hroom : s.trunk.own.length < 32) :
    summaryAfterReport s i before previous =
      if (s.lift i).config.forwarding = .all then s.withBroadcast (.summary (s.summaryOf i)) else s := by
  unfold summaryAfterReport
  cases hf : (s.lift i).config.forwarding with
  | all => simp [hf, State.offerSummary_room _ _ hroom]
  | changes => exact absurd hf hmode
  | none => simp [hf]

end

end Sys2Proof.Machine
end

section
/-! SUPPORT. The steps of a taken PANEL answer (R9, R73, R88, R137). -/

namespace Sys2Proof.Machine

/-! ### The four steps of a taken PANEL answer (R9) -/

/-- No open case's release is tied to the panel. -/
def State.Untied (s : State) (p : PanelIdx) : Prop :=
  ∀ c q, s.isOpen c = true → (s.caseAt c).release = some q → q.panel ≠ p

section

variable {s w : State} {p : PanelIdx}

theorem State.Untied.of_cases (h : s.Untied p) (hw : w.cases = s.cases) : w.Untied p := fun c q hopen hq => by
  rw [State.isOpen, State.caseAt_congr hw] at hopen
  rw [State.caseAt_congr hw] at hq
  exact h c q hopen hq

/-- A hold change reaches no release but those tied to the panel (R133). -/
theorem perform_holdChange_untied (h : s.Untied p) (c : CaseNo) (was hold : Bool) (press : Nat) :
    perform s (.holdChange c p was hold press) = (s, []) := by
  have hchange : holdChange s c p was hold press = s := by
    unfold holdChange
    split
    · next q hq =>
      rw [if_neg]
      simpa using fun hopen => h c q hopen hq
    · rfl
  simp [perform, hchange]

/-- Step 1 stores the logged crew; a change is told as a departure and a login. -/
theorem panelLogged_eq (s : State) (p : PanelIdx) (logged : Option Nat) : panelLogged s p logged =
    (s.setPanelDyn p { (s.panel p).dyn with logged := logged },
      if (s.panel p).dyn.logged = logged then [] else
        ((s.panel p).dyn.logged.map (Job.crewLeft p)).toList ++ (logged.map (Job.crewLogin p)).toList) := by
  by_cases h : (s.panel p).dyn.logged = logged
  · have hself : s.setPanelDyn p { (s.panel p).dyn with logged := logged } = s := State.setPanel_eq_self (by rw [← h])
    simp [panelLogged, h, hself]
  · unfold panelLogged
    simp only [h, if_false]
    cases (s.panel p).dyn.logged <;> cases logged <;> rfl

/-- Step 2 stores the toggle; without a fresh request of a logged crew that is all (R9). -/
theorem panelRequest_none {toggle : Bool} {request : Option CrewRequest} (serial : Option (BitVec 16))
    (h : (s.panel p).dyn.toggle = none ∨ (s.panel p).dyn.toggle = some toggle ∨ (s.panel p).dyn.logged = none ∨
      request = none) :
    panelRequest s p toggle request serial = (s.setPanelDyn p { (s.panel p).dyn with toggle := some toggle }, []) := by
  unfold panelRequest
  dsimp only
  split
  · next old tag q hold hlogged =>
    have htoggle : old = toggle := by simpa [hold, hlogged] using h
    rw [if_pos htoggle]
  · rfl

/-- Steps 2 to 4, where no request is made, the hold change reaches no release and no lift's SHARED is to be evaluated. -/
theorem Runs.panelRest {r : PanelReport} (hb : w.Busy) (hlogged : (w.panel p).dyn.logged = r.logged)
    (hrequest : (w.panel p).dyn.toggle = none ∨ (w.panel p).dyn.toggle = some r.toggle ∨ r.logged = none ∨ r.request = none)
    (hhold : w.Untied p ∨ (r.hold = (w.panel p).dyn.hold ∧ r.pressNumber = (w.panel p).dyn.pressNumber))
    (hinputs : r.inputs = (w.panel p).dyn.inputs ∨ ∀ i, lineOf i = panelLine p → (w.lift i).dyn.state = .disabled) :
    Runs 40 w [.panelRequest p r.toggle r.request r.serial, .panelHold p r.hold r.pressNumber, .panelInputs p r.inputs]
      (w.setPanel p ⟨(w.panel p).config, r.logged, some r.toggle, r.hold, r.pressNumber, r.inputs⟩) := by
  let d := (w.panel p).dyn
  let d2 : PanelDynamic := { d with toggle := some r.toggle }
  let d3 : PanelDynamic := { d2 with hold := r.hold, pressNumber := r.pressNumber }
  let d4 : PanelDynamic := { d3 with inputs := r.inputs }
  have h2 : perform w (.panelRequest p r.toggle r.request r.serial) = (w.setPanelDyn p d2, []) :=
    panelRequest_none _ (by rwa [hlogged])
  have hw2 : ((w.setPanelDyn p d2).panel p).dyn = d2 := by rw [State.panel_setPanelDyn]
  have hset3 : (w.setPanelDyn p d2).setPanelDyn p d3 = w.setPanelDyn p d3 := by simp [State.setPanelDyn]
  have hset4 : (w.setPanelDyn p d3).setPanelDyn p d4 = w.setPanelDyn p d4 := by simp [State.setPanelDyn]
  have hjobs3 : Runs 16 (w.setPanelDyn p d3) (if d2.hold = r.hold && d2.pressNumber = r.pressNumber then []
      else holdJobs p d2.hold r.hold r.pressNumber) (w.setPanelDyn p d3) := by
    rcases hhold with huntied | ⟨hh, hp⟩
    · split
      · exact .nil hb
      · refine (Runs.skips (s := w.setPanelDyn p d3) hb fun j hj => ?_).mono (by simp [holdJobs])
        obtain ⟨c, -, rfl⟩ := List.mem_map.mp hj
        exact perform_holdChange_untied (s := w.setPanelDyn p d3) (huntied.of_cases rfl) c _ _ _
    · rw [if_pos (by simp [d2, d, hh, hp])]
      exact .nil hb
  have hrun3 : Runs 17 (w.setPanelDyn p d2) [.panelHold p r.hold r.pressNumber] (w.setPanelDyn p d3) := by
    refine .of_step (w := (w.setPanelDyn p d3, _)) hb ?_ hjobs3
    change panelHold _ _ _ _ = _
    rw [panelHold, hw2]
    exact congrArg (·, _) hset3
  have hw3 : (w.setPanelDyn p d3).panel p = ⟨(w.panel p).config, d3⟩ := State.panel_setPanelDyn _ _ _
  have hrun4 : Runs 17 (w.setPanelDyn p d3) [.panelInputs p r.inputs] (w.setPanelDyn p d4) := by
    refine .of_step (n := 16) (w := (w.setPanelDyn p d4, inputChangeJobs p (w.panel p).config.map d.inputs r.inputs)) hb ?_ ?_
    · change panelInputs _ _ _ = _
      rw [panelInputs, hw3]
      exact congrArg (·, _) hset4
    · rcases hinputs with h | h
      · rw [show d.inputs = r.inputs from h.symm, inputChangeJobs_same]; exact .nil hb
      · obtain ⟨hlen, hjobs⟩ := inputChangeJobs_cases p (w.panel p).config.map d.inputs r.inputs
        refine (Runs.skips (s := w.setPanelDyn p d4) hb fun j hj => ?_).mono hlen
        obtain ⟨i, hi, rfl⟩ := hjobs j hj
        exact perform_sharedEval_off (.inl (h i hi))
  have hfinal : w.setPanelDyn p d4 =
      w.setPanel p ⟨(w.panel p).config, r.logged, some r.toggle, r.hold, r.pressNumber, r.inputs⟩ := by
    rw [← hlogged]; rfl
  rw [← hfinal]
  exact (((Runs.one hb h2 hb).append hrun3).append hrun4).mono (by omega)

/-! ### Step 1: who is logged at the panel (R9, R88) -/

/-- The panel's logged crew is stored. -/
def State.loggedAt (s : State) (p : PanelIdx) (logged : Option Nat) : State :=
  s.setPanelDyn p { (s.panel p).dyn with logged := logged }

@[simp] theorem State.loggedAt_panel (logged : Option Nat) :
    (s.loggedAt p logged).panel p = { s.panel p with dyn := { (s.panel p).dyn with logged := logged } } :=
  State.panel_setPanelDyn _ _ _

/-- Step 1 comes to what its two reports come to. -/
theorem Runs.panelLogged {n : Nat} {logged : Option Nat} (hb : s.Busy) (h : (s.panel p).dyn.logged ≠ logged →
      Runs n (s.loggedAt p logged)
        (((s.panel p).dyn.logged.map (Job.crewLeft p)).toList ++ (logged.map (Job.crewLogin p)).toList) w)
    (hsame : (s.panel p).dyn.logged = logged → w = s.loggedAt p logged) :
    Runs (n + 1) s [.panelLogged p logged] w := by
  refine .of_step hb (panelLogged_eq s p logged) ?_
  by_cases hl : (s.panel p).dyn.logged = logged
  · rw [if_pos hl, hsame hl]; exact .nil hb
  · rw [if_neg hl]; exact h hl

/-- A tag that no enabled crew record holds is reported to no effect (R88). -/
theorem perform_crewLeft_unresolved {tag : Nat} (h : s.resolveTag tag = none) : perform s (.crewLeft p tag) = (s, []) := by
  simp [perform, crewLeft, h]
theorem perform_crewLogin_unresolved {tag : Nat} (h : s.resolveTag tag = none) : perform s (.crewLogin p tag) = (s, []) := by
  simp [perform, crewLogin, h]

/-- Reports of tags that no enabled crew record holds. -/
theorem Runs.reports_unresolved (hb : s.Busy) (old : Option Nat) (hold : ∀ t, old = some t → s.resolveTag t = none)
    (logged : Option Nat) (hlogged : ∀ t, logged = some t → s.resolveTag t = none) :
    Runs 2 s ((old.map (Job.crewLeft p)).toList ++ (logged.map (Job.crewLogin p)).toList) s := by
  refine (Runs.skips hb fun j hj => ?_).mono (by cases old <;> cases logged <;> simp)
  rcases List.mem_append.mp hj with hj | hj
  · obtain ⟨t, ht, rfl⟩ := by simpa using hj
    exact perform_crewLeft_unresolved (hold t ht)
  · obtain ⟨t, ht, rfl⟩ := by simpa using hj
    exact perform_crewLogin_unresolved (hlogged t ht)

/-- A release tied to the panel of the crew that leaves aborts CREW_LEFT (R137). -/
theorem perform_releaseCrewLeft_tied {c : CaseNo} {k : CrewNo} {q : Release} (hopen : s.isOpen c = true)
    (hq : (s.caseAt c).release = some q) (hp : q.panel = p) (hk : (s.caseAt c).crew = some k) :
    perform s (.releaseCrewLeft c p k) = endRelease s c (.aborted .crewLeft) := by
  simp [perform, releaseCrewLeft, hq, hopen, hp, hk]

/-- One release is tied to the panel, and no step waits for it: it alone aborts (R132, R137). -/
theorem Runs.crewLeft_tied {c : CaseNo} {k : CrewNo} {q : Release} (hb : s.Busy) (hroom : s.trunk.own.length < 32)
    (hopen : s.isOpen c = true) (hq : (s.caseAt c).release = some q) (hp : q.panel = p) (hk : (s.caseAt c).crew = some k)
    (hothers : ∀ e x, e ≠ c → s.isOpen e = true → (s.caseAt e).release = some x → x.panel ≠ p)
    (howed : (s.caseAt c).owed = false)
    (hwait : (s.caseAt c).procedure.status ≠ .running ∨ (s.caseAt c).procedure.wait ≠ .release) :
    Runs 16 s (crewLeftJobs p k) ((s.setCase c (s.caseAt c).withoutRelease).withNotice c (s.caseAt c).withoutRelease
      .releaseAborted (.aborted .crewLeft (s.caseAt c).pulses)) := by
  let r := (s.caseAt c).withoutRelease
  let t := (s.setCase c r).withNotice c r .releaseAborted (.aborted .crewLeft (s.caseAt c).pulses)
  have habort : perform s (.releaseCrewLeft c p k) = (t, []) :=
    (perform_releaseCrewLeft_tied hopen hq hp hk).trans (endRelease_unawaited .crewLeft hroom howed hwait)
  obtain ⟨before, after, hsplit⟩ := List.append_of_mem (List.mem_finRange c)
  have hbefore : c ∉ before := by
    have hnd := List.nodup_finRange 16
    rw [hsplit] at hnd
    exact fun h => (List.nodup_append.mp hnd).2.2 c h c (by simp) rfl
  have hskip : Runs before.length s (before.map fun e => .releaseCrewLeft e p k) s := by
    refine (Runs.skips hb fun j hj => ?_).mono (by simp)
    obtain ⟨e, he, rfl⟩ := List.mem_map.mp hj
    exact perform_releaseCrewLeft_untied fun x => hothers e x (fun h => hbefore (h ▸ he))
  have hrest : Runs after.length t (after.map fun e => .releaseCrewLeft e p k) t := by
    refine (Runs.skips (s := t) hb fun j hj => ?_).mono (by simp)
    obtain ⟨e, he, rfl⟩ := List.mem_map.mp hj
    refine perform_releaseCrewLeft_untied fun x hxopen hx => ?_
    have hcase : t.caseAt e = if c = e then r else s.caseAt e := State.caseAt_setCase_if _ _ _ _
    by_cases hce : c = e
    · rw [hcase, if_pos hce] at hx; exact absurd hx (by simp [r, Case.withoutRelease])
    · rw [hcase, if_neg hce] at hx
      rw [State.isOpen, hcase, if_neg hce] at hxopen
      exact hothers e x (Ne.symm hce) hxopen hx
  have hlen : before.length + (after.length + 1) = 16 := by
    have := congrArg List.length hsplit
    simpa using this.symm
  rw [crewLeftJobs, hsplit, List.map_append, List.map_cons]
  exact (hskip.append ((Runs.one hb habort hb).append hrest)).mono (by omega)

/-- A crew that leaves a panel to which no release is tied, or whose releases abort as told. -/
theorem Runs.crewLeft_resolved {tag n : Nat} {k : CrewNo} (hb : s.Busy) (hk : s.resolveTag tag = some k)
    (h : Runs n (s.crewLeaves p tag) (crewLeftJobs p k) w) : Runs (n + 1) s [.crewLeft p tag] w := by
  refine .of_step hb (w := (s.crewLeaves p tag, crewLeftJobs p k)) ?_ h
  simp [perform, Machine.crewLeft, State.crewLeaves, hk]

/-! ### Arrival by login (R103) -/

/-- The crew's offers and logins are no part of its held list's order. -/
theorem State.heldOrder_congr {k : CrewNo} (hcases : w.cases = s.cases) (htime : w.time = s.time)
    (hheld : (w.crew k).dyn.held = (s.crew k).dyn.held) : w.heldOrder k = s.heldOrder k := by
  have hbefore : w.heldBefore = s.heldBefore := by
    funext a b
    simp only [State.heldBefore, State.caseAt_congr hcases, State.stamp, htime]
    rfl
  simp only [State.heldOrder, hbefore, hheld]

theorem eventTimer_eq (r : Case) (e : NamedEvent) : eventTimer r e =
    if r.stop = some e then .stopped
    else if r.clear = some e ∧ r.escalation ≠ .stopped then .running r.interval else r.escalation := by
  have hlive : r.escalation.live = true ↔ r.escalation ≠ .stopped := by
    cases r.escalation <;> simp [Timer.live]
  simp only [eventTimer, Bool.and_eq_true, decide_eq_true_eq, hlive]

/-- An event that no procedure waits for, other than EVACUATED, only marks the case (R73). -/
theorem perform_event_unawaited {c : CaseNo} {serial : BitVec 16} {e : NamedEvent} (hopen : s.isOpen c = true)
    (hserial : (s.caseAt c).serial = serial) (he : e ≠ .evacuated) (hwait : (s.caseAt c).procedure.wait ≠ .event e) :
    perform s (.event c serial e) = (s.setCase c ((s.caseAt c).met e), []) := by
  have hholds : s.holds c serial = true := by simp [State.holds, hopen, hserial]
  have hmet : s.setCase c { s.caseAt c with seen := (s.caseAt c).seen.insert e, escalation := eventTimer (s.caseAt c) e } =
      s.setCase c ((s.caseAt c).met e) := by rw [eventTimer_eq]; rfl
  have hwaits : (s.setCase c ((s.caseAt c).met e)).waitsFor c (.event e) = false := by
    simp only [State.waitsFor, State.caseAt_setCase, Case.met, Bool.and_eq_false_iff, beq_eq_false_iff_ne]
    exact .inr hwait
  simp only [perform, hholds, if_true, caseEvent, he, if_false, hmet, procedureEvent, hwaits]
  rfl

end

end Sys2Proof.Machine
end

section
/-! SUPPORT. Windows of silence, taken reports, and the end of a cycle (R7, R8, R10, R11, R45, R54). -/

namespace Sys2Proof.Machine

section

variable {s t : State} {l : LineId} {held : WindowHeld} {next : Slot} {n : Nat}

/-! ### Windows of silence -/

/-- `closes_next` where the answer counts no error. -/
theorem closes_taken {slot : Slot} {a : SlotAnswer} (h : s.WindowOpen l slot)
    (hnext : (s.line l).slotSet.find? (fun x => slot < x) = some next) (ha : judgeWindow slot (s.line l).collided held = a)
    (herror : a ≠ .silent true) (hjobs : Runs n s (slotJobs s l slot a) t) (hn : n < 9000) (hline : t.line l = s.line l) :
    exec (.answerWindowClose l held) s =
      .next (t.setLine l { s.line l with currentSlot := some next, collided := false }) := by
  have hjudged : (s.line l).judged a = s.line l := Line.judged_of_ne herror
  have hset : s.setLine l (s.line l) = s := State.setLine_eq_self rfl
  have hcloses := closes_next h hnext ha (t := t) (n := n) (by rwa [hjudged, hset]) hn (by rwa [hjudged])
  rwa [hjudged] at hcloses

/-- Nothing in a car slot's window, its lift below the silence threshold (R45). -/
theorem closes_carNothing {k : Fin 16} (hb : s.Busy) (h : s.WindowOpen l (carSlot k)) (hcol : (s.line l).collided = false)
    (hnext : (s.line l).slotSet.find? (fun x => carSlot k < x) = some next)
    (hen : (s.lift (liftAt l k)).config.enabled = true) (htruth : (s.lift (liftAt l k)).dyn.truth = .empty)
    (hnow : s.truthOf (liftAt l k) = .empty)
    (hbelow : min 15 ((s.lift (liftAt l k)).dyn.silenceCount + 1) < (s.lift (liftAt l k)).config.silence) :
    exec (.answerWindowClose l .nothing) s = .next ((s.setLift (liftAt l k) { s.lift (liftAt l k) with
      dyn := { (s.lift (liftAt l k)).dyn with silenceCount := min 15 ((s.lift (liftAt l k)).dyn.silenceCount + 1) } }).setLine l
        { s.line l with currentSlot := some next }) := by
  have ha : judgeWindow (carSlot k) (s.line l).collided .nothing = .silent false := by rw [hcol]; rfl
  have hjobs : slotJobs s l (carSlot k) (.silent false) = [.silentSlot (liftAt l k)] := by
    rw [slotJobs_car]; simp [carJobs, hen]
  have hsilent : perform s (.silentSlot (liftAt l k)) = _ := silentSlot_below htruth hnow hbelow
  have hrun := Runs.one hb hsilent hb
  rw [← hjobs] at hrun
  have hsame : { s.line l with currentSlot := some next, collided := false } =
      { s.line l with currentSlot := some next } := by rw [← hcol]
  rw [← hsame]
  exact closes_taken h hnext ha (by simp) hrun (by omega) rfl

/-- A window counts an error exactly where it does not stand empty (R7, R14). -/
theorem judgeWindow_empty {slot : Slot} {collided : Bool} (h : held = .nothing ∨ held = .unfinished ∨ collided = true) :
    judgeWindow slot collided held = .silent (!decide (held = .nothing ∧ collided = false)) := by
  cases collided with
  | true => simp
  | false => rcases h with rfl | rfl | h <;> [rfl; rfl; cases h]

/-- A silent panel slot whose hold is not active (R10). -/
theorem closes_panelNothing {k : Fin 4} (hb : s.Busy) (h : s.WindowOpen l (panelSlot k))
    (hnext : (s.line l).slotSet.find? (fun x => panelSlot k < x) = some next)
    (hhold : (s.panel (panelAt l k)).dyn.hold = false)
    (hheld : held = .nothing ∨ held = .unfinished ∨ (s.line l).collided = true) :
    exec (.answerWindowClose l held) s = .next (s.setLine l { s.line l with
      currentSlot := some next
      collided := false
      errors := if held = .nothing ∧ (s.line l).collided = false then (s.line l).errors
        else min 65535 ((s.line l).errors + 1) }) := by
  have hrun := Runs.idle hb (State.idle_silentPanel (l := l) hhold (!decide (held = .nothing ∧ (s.line l).collided = false)))
    ((s.line l).judged (.silent (!decide (held = .nothing ∧ (s.line l).collided = false))))
  have hcloses := closes_next h hnext (judgeWindow_empty hheld) hrun
    (Nat.lt_of_le_of_lt (slotJobs_length_silent s l _ _) (by omega)) (State.line_setLine _ _ _)
  rw [hcloses, State.setLine_setLine]
  by_cases hempty : held = .nothing ∧ (s.line l).collided = false <;> simp [Line.judged, hempty]

/-! ### Taken reports (R54) -/

/-- A taken report of a lift with no cause enabled and no case open, its mode other than CHANGES. -/
theorem closes_report {k : Fin 16} {r : CarReport} (hready : s.Ready 1) (h : s.WindowOpen l (carSlot k))
    (hnext : (s.line l).slotSet.find? (fun x => carSlot k < x) = some next)
    (ha : judgeWindow (carSlot k) (s.line l).collided held = .report r)
    (hen : (s.lift (liftAt l k)).config.enabled = true) (hcase : (s.lift (liftAt l k)).dyn.openCase = none)
    (htruth : (s.lift (liftAt l k)).dyn.truth = .empty)
    (hcauses : ∀ x, ((s.lift (liftAt l k)).config.cause x).enabled = false)
    (hmode : (s.lift (liftAt l k)).config.forwarding ≠ .changes) :
    let i := liftAt l k
    let d := reportedDyn (s.lift i).config (s.lift i).dyn r
    let u := s.setDyn i d
    exec (.answerWindowClose l held) s = .next ((if (s.lift i).config.forwarding = .all
        then u.withBroadcast (.summary ⟨(s.lift i).config.identity, s.time.stamp, d.state, d.lastReport⟩)
        else u).setLine l { s.line l with currentSlot := some next, collided := false }) := by
  intro i d u
  have hlift : u.lift i = ⟨(s.lift i).config, d⟩ := State.lift_setDyn _ _ _
  have hjobs : slotJobs s l (carSlot k) (.report r) = [.takenReport i r] := by
    rw [slotJobs_car]; simp [carJobs, hen, i]
  have hsummary : u.summaryOf i = ⟨(s.lift i).config.identity, s.time.stamp, d.state, d.lastReport⟩ := by
    simp only [State.summaryOf, State.identityOf, hlift]; rfl
  have hsum := summaryAfterReport_room (s := u) (i := i) (s.lift i).dyn.state (s.lift i).dyn.lastReport
    (by rw [hlift]; exact hmode) hready.room
  rw [hsummary, show (u.lift i).config = (s.lift i).config by rw [hlift]] at hsum
  have hperform : perform u (.summaryReport i (s.lift i).dyn.state (s.lift i).dyn.lastReport) = (_, []) := congrArg (·, []) hsum
  have hb : (if (s.lift i).config.forwarding = .all
      then u.withBroadcast (.summary ⟨(s.lift i).config.identity, s.time.stamp, d.state, d.lastReport⟩) else u).Busy := by
    split <;> exact hready.busy
  have htaken : perform s (.takenReport i r) = (u, _) := takenReport_quiet hcase htruth hcauses
  have hrun := Runs.of_step hready.busy htaken (.one hready.busy hperform hb)
  rw [← hjobs] at hrun
  exact closes_taken h hnext ha (by simp) hrun (by omega) (by split <;> rfl)

/-! ### Windows that change nothing, and the end of the cycle (R8, R11) -/

/-- A window whose outcome changes nothing closes: the next opens. -/
theorem closes_idle {slot : Slot} {a : SlotAnswer} (hb : s.Busy) (h : s.WindowOpen l slot)
    (ha : judgeWindow slot (s.line l).collided held = a) (hidle : s.Idle l slot a ∧ (slotJobs s l slot a).length ≤ 1)
    (hnext : (s.line l).slotSet.find? (fun x => slot < x) = some next) : exec (.answerWindowClose l held) s =
      .next (s.setLine l { (s.line l).judged a with currentSlot := some next, collided := false }) := by
  have hcloses := closes_next h hnext ha (Runs.idle hb hidle.1 _) (Nat.lt_of_le_of_lt hidle.2 (by omega))
    (State.line_setLine _ _ _)
  rwa [State.setLine_setLine] at hcloses

theorem State.NothingToSend.setLine {r : Line} (h : s.NothingToSend l) (hr : r.routine = (s.line l).routine)
    (ha : r.answers = (s.line l).answers) : (s.setLine l r).NothingToSend l :=
  ⟨h.cases, by rw [State.line_setLine, ha]; exact h.answers, by rw [State.line_setLine, hr]; exact h.routine⟩

/-- The last window of a cycle closes, its outcome changing nothing: what the STOP comes to, by the timer that the next mode waits
for. -/
theorem closes_stopped {slot : Slot} {a : SlotAnswer} (hb : s.Busy) (h : s.WindowOpen l slot)
    (ha : judgeWindow slot (s.line l).collided held = a) (hidle : s.Idle l slot a ∧ (slotJobs s l slot a).length ≤ 1)
    (hlast : (s.line l).slotSet.find? (fun x => slot < x) = none) {m : CycleMode} {st : LineState} {timer : Timer}
    (hstop : stopLine (s.setLine l ((s.line l).judged a)) l =
      ((s.setLine l ((s.line l).judged a)).setLine l (((s.setLine l ((s.line l).judged a)).line l).stoppedIn m st),
        if timer.isRunning then [] else [.start l none])) :
    (∀ n, timer = .running n →
      exec (.answerWindowClose l held) s = .next (s.setLine l (((s.line l).judged a).stoppedIn m st))) ∧
    ∀ first slots, (∀ n, timer ≠ .running n) → s.NothingToSend l → s.slotSet l = first :: slots →
      exec (.answerWindowClose l held) s = .next (s.setLine l
        ((s.setLine l (((s.line l).judged a).stoppedIn m st)).polling l none first slots)) := by
  have hlen : (slotJobs s l slot a).length ≤ 10 := Nat.le_trans hidle.2 (by omega)
  obtain ⟨hwaits, hstarts⟩ := Runs.afterStop (s := s.setLine l ((s.line l).judged a)) hb hstop
  rw [State.line_setLine, State.setLine_setLine] at hwaits hstarts
  refine ⟨fun n hn => closes_last hb h hlast ha hidle.1 hlen (hwaits n hn) (by omega), fun first slots hn hno hs => ?_⟩
  have hcloses := closes_last hb h hlast ha hidle.1 hlen (hstarts first slots hn (hno.setLine rfl rfl) hs) (by omega)
  rwa [State.setLine_setLine] at hcloses

/-! ### Requests of a panel answer (R9 step 2) -/

/-- A request whose toggle differs is the request by the panel's route. -/
theorem panelRequest_fresh {p : PanelIdx} {old toggle : Bool} {tag : Nat} (hold : (s.panel p).dyn.toggle = some old)
    (hne : old ≠ toggle) (hlogged : (s.panel p).dyn.logged = some tag) (q : CrewRequest) (serial : Option (BitVec 16)) :
    panelRequest s p toggle (some q) serial =
      crewRequest (s.setPanelDyn p { (s.panel p).dyn with toggle := some toggle }) (.panel p) tag (some q) serial := by
  unfold panelRequest
  simp only [hold, hlogged]
  exact if_neg hne

end

end Sys2Proof.Machine
end

section
/-! SUPPORT. What a PANEL answer comes to, by what it reports of the logged crew (R9, R88, R103, R137). -/

namespace Sys2Proof.Machine

/-! ### What a PANEL answer leaves (R9) -/

/-- The panel's record after its answer (R9). -/
def Panel.answered (g : Panel) (r : PanelReport) : Panel :=
  ⟨g.config, r.logged, some r.toggle, r.hold, r.pressNumber, r.inputs⟩

/-- The logged crew of the panel has been stored, and its change has reached no panel, lift or line otherwise. -/
structure State.LoggedIn (s : State) (p : PanelIdx) (logged : Option Nat) (w : State) : Prop where
  panels : w.panels = (s.loggedAt p logged).panels
  lifts : w.lifts = s.lifts
  lines : w.lines = s.lines

/-- A taken answer makes no request, and no lift's SHARED is to be evaluated. -/
structure State.Unasking (s : State) (p : PanelIdx) (r : PanelReport) : Prop where
  request : (s.panel p).dyn.toggle = none ∨ (s.panel p).dyn.toggle = some r.toggle ∨ r.logged = none ∨ r.request = none
  inputs : r.inputs = (s.panel p).dyn.inputs ∨ ∀ n, (s.lift (liftAt (panelLine p) n)).dyn.state = .disabled

/-- Line `l` has the window of panel slot `k` open, which holds the PANEL answer `r` of an enabled panel, and `next` is polled after
it. -/
structure State.PanelTaken (s : State) (l : LineId) (k : Fin 4) (next : Slot) (held : WindowHeld) (r : PanelReport) : Prop where
  window : s.WindowOpen l (panelSlot k)
  next : (s.line l).slotSet.find? (fun x => panelSlot k < x) = some next
  judged : judgeWindow (panelSlot k) (s.line l).collided held = .panel r
  enabled : (s.panel (panelAt l k)).config.enabled = true
  unasking : s.Unasking (panelAt l k) r

section

variable {s w : State} {l : LineId} {k : Fin 4} {p : PanelIdx} {held : WindowHeld} {next : Slot} {n : Nat} {r : PanelReport}

theorem State.LoggedIn.setPanel {logged : Option Nat} (h : s.LoggedIn p logged w) (y : Panel) :
    w.setPanel p y = { w with panels := (s.setPanel p y).panels } := by
  simp only [State.setPanel, h.panels, State.loggedAt, State.setPanelDyn, Vector.set_set]

/-- A taken PANEL answer closes its window with what step 1 comes to, the panel's fields being brought up to date. -/
theorem State.PanelTaken.closes (h : s.PanelTaken l k next held r)
    (hfirst : Runs n s [.panelLogged (panelAt l k) r.logged] w) (hn : n < 8000) (hin : s.LoggedIn (panelAt l k) r.logged w)
    (hhold : w.Untied (panelAt l k) ∨ (r.hold = (s.panel (panelAt l k)).dyn.hold ∧
      r.pressNumber = (s.panel (panelAt l k)).dyn.pressNumber)) :
    exec (.answerWindowClose l held) s =
      .next (State.setLine { w with panels := (s.setPanel (panelAt l k) ((s.panel (panelAt l k)).answered r)).panels } l
        { s.line l with currentSlot := some next, collided := false }) := by
  let p := panelAt l k
  have hpanel : w.panel p = { s.panel p with dyn := { (s.panel p).dyn with logged := r.logged } } :=
    (State.panel_congr hin.panels p).trans (State.loggedAt_panel _)
  have hinputs : r.inputs = (w.panel p).dyn.inputs ∨ ∀ i, lineOf i = panelLine p → (w.lift i).dyn.state = .disabled := by
    rw [hpanel]
    refine h.unasking.inputs.imp id fun hoff i hi => ?_
    rw [State.lift_congr hin.lifts, ← liftAt_lineOf i, hi]
    exact hoff _
  have hrest := Runs.panelRest (r := r) hfirst.busy_end (by rw [hpanel]) (by rw [hpanel]; exact h.unasking.request)
    (by rw [hpanel]; exact hhold) hinputs
  have hconfig : (w.panel p).config = (s.panel p).config := by rw [hpanel]
  rw [hconfig, hin.setPanel] at hrest
  have hjobs : slotJobs s l (panelSlot k) (.panel r) = panelJobs p r := by
    rw [slotJobs_panel]; simp [panelSlotJobs, h.enabled, p]
  have hall := hfirst.append hrest
  rw [List.singleton_append, ← panelJobs, ← hjobs] at hall
  exact closes_taken h.window h.next h.judged (by simp) hall (by omega) (State.line_congr hin.lines l)

/-! ### Departures (R88, R137) -/

/-- Step 1 of an answer that reports nobody logged: what the departure comes to. -/
theorem Runs.panelLogged_left {tag : Nat} (hb : s.Busy) (hold : (s.panel p).dyn.logged = some tag)
    (h : Runs n (s.loggedAt p none) [.crewLeft p tag] w) : Runs (n + 1) s [.panelLogged p none] w :=
  .panelLogged hb (fun _ => by rw [hold]; exact h) (fun hsame => by rw [hold] at hsame; cases hsame)

/-- The record whose release has ended, its pulse not yet sent being withdrawn. -/
theorem Case.withoutRelease_eq {c : Case} {q : Release} (h : c.release = some q) : c.withoutRelease = { c with
    release := none
    pending := match c.pending with
      | some m => if q.sub = .pulsePending ∧ m.owner = .release then none else some m
      | none => none } := by
  have hpulse : (c.release.any fun q => q.sub == .pulsePending) = decide (q.sub = .pulsePending) := by
    rw [h, Option.any_some, beq_eq_decide]
  rw [Case.withoutRelease, hpulse]
  cases hp : c.pending with
  | none => simp [Case.withdraw, hp]
  | some m =>
    by_cases hsub : q.sub = .pulsePending <;> by_cases howner : m.owner = .release <;>
      simp [Case.withdraw, hp, hsub, howner]

/-- A change of the logged crew that reports no tag of an enabled crew record. -/
theorem State.PanelTaken.closes_unresolved (h : s.PanelTaken l k next held r) (hb : s.Busy)
    (hres : ∀ t, r.logged ≠ (s.panel (panelAt l k)).dyn.logged →
      ((s.panel (panelAt l k)).dyn.logged = some t ∨ r.logged = some t) → s.resolveTag t = none)
    (hhold : s.Untied (panelAt l k) ∨ (r.hold = (s.panel (panelAt l k)).dyn.hold ∧
      r.pressNumber = (s.panel (panelAt l k)).dyn.pressNumber)) :
    exec (.answerWindowClose l held) s = .next ((s.setPanel (panelAt l k) ((s.panel (panelAt l k)).answered r)).setLine l
      { s.line l with currentSlot := some next, collided := false }) := by
  have hfirst : Runs 3 s [.panelLogged (panelAt l k) r.logged] (s.loggedAt (panelAt l k) r.logged) :=
    .panelLogged hb (fun hne => Runs.reports_unresolved (s := s.loggedAt (panelAt l k) r.logged) hb _
      (fun t ht => hres t (Ne.symm hne) (.inl ht)) _ (fun t ht => hres t (Ne.symm hne) (.inr ht))) fun _ => rfl
  have hcloses := h.closes hfirst (by omega) ⟨rfl, rfl, rfl⟩ (hhold.imp (fun hu => hu.of_cases rfl) id)
  exact hcloses

/-- A crew that leaves a panel to which no release is tied. -/
theorem State.PanelTaken.closes_left {tag : Nat} {j : CrewNo} (h : s.PanelTaken l k next held r) (hb : s.Busy)
    (hold : (s.panel (panelAt l k)).dyn.logged = some tag) (hnew : r.logged = none) (hj : s.resolveTag tag = some j)
    (huntied : s.Untied (panelAt l k)) :
    exec (.answerWindowClose l held) s = .next (((s.setPanel (panelAt l k) ((s.panel (panelAt l k)).answered r)).setLine l
      { s.line l with currentSlot := some next, collided := false }).setCrewDyn j { (s.crew j).dyn with
        logged := if (s.crew j).dyn.logged = some (panelAt l k) then none else (s.crew j).dyn.logged }) := by
  let p := panelAt l k
  have hleaves : (s.loggedAt p none).crewLeaves p tag = (s.loggedAt p none).setCrewDyn j { (s.crew j).dyn with
      logged := if (s.crew j).dyn.logged = some p then none else (s.crew j).dyn.logged } := State.crewLeaves_some hj
  have hfirst := Runs.panelLogged_left hb hold
    (Runs.crewLeft (s := s.loggedAt p none) hb p tag (huntied.of_cases (w := s.loggedAt p none) rfl))
  rw [hleaves, ← hnew] at hfirst
  have hcloses := h.closes hfirst (by omega) ⟨rfl, rfl, rfl⟩ (.inl (huntied.of_cases rfl))
  exact hcloses

/-- The releases tied to the panel are those of one case, and that case's release has ended. -/
theorem State.untied_of_ended {c : CaseNo} {a : Case} (hcase : ∀ e, w.caseAt e = if c = e then a else s.caseAt e)
    (ha : a.release = none)
    (hothers : ∀ e x, e ≠ c → s.isOpen e = true → (s.caseAt e).release = some x → x.panel ≠ p) : w.Untied p := by
  intro e x hopen hx
  rw [hcase] at hx
  rw [State.isOpen, hcase] at hopen
  by_cases hce : c = e
  · rw [if_pos hce, ha] at hx; cases hx
  · rw [if_neg hce] at hx hopen
    exact hothers e x (Ne.symm hce) hopen hx

/-- A crew that leaves a panel to which one release is tied, which it made: the release aborts CREW_LEFT. -/
theorem State.PanelTaken.closes_leftTied {tag : Nat} {j : CrewNo} {c : CaseNo} {q : Release} (h : s.PanelTaken l k next held r)
    (hready : s.Ready 1) (hold : (s.panel (panelAt l k)).dyn.logged = some tag) (hnew : r.logged = none)
    (hj : s.resolveTag tag = some j) (hopen : s.isOpen c = true) (hq : (s.caseAt c).release = some q)
    (hp : q.panel = panelAt l k) (hcrew : (s.caseAt c).crew = some j)
    (hothers : ∀ e x, e ≠ c → s.isOpen e = true → (s.caseAt e).release = some x → x.panel ≠ panelAt l k)
    (howed : (s.caseAt c).owed = false)
    (hwait : (s.caseAt c).procedure.status ≠ .running ∨ (s.caseAt c).procedure.wait ≠ .release) :
    exec (.answerWindowClose l held) s = .next (((((s.setPanel (panelAt l k)
        ((s.panel (panelAt l k)).answered r)).setLine l { s.line l with currentSlot := some next, collided := false }).setCrewDyn j
          { (s.crew j).dyn with logged := if (s.crew j).dyn.logged = some (panelAt l k) then none else (s.crew j).dyn.logged }
        ).setCase c (s.caseAt c).withoutRelease).withNotice c (s.caseAt c).withoutRelease .releaseAborted
          (.aborted .crewLeft (s.caseAt c).pulses)) := by
  let p := panelAt l k
  have hleaves : (s.loggedAt p none).crewLeaves p tag = (s.loggedAt p none).setCrewDyn j { (s.crew j).dyn with
      logged := if (s.crew j).dyn.logged = some p then none else (s.crew j).dyn.logged } := State.crewLeaves_some hj
  have htied := Runs.crewLeft_tied (s := (s.loggedAt p none).setCrewDyn j { (s.crew j).dyn with
      logged := if (s.crew j).dyn.logged = some p then none else (s.crew j).dyn.logged }) hready.busy hready.room hopen hq hp hcrew
    hothers howed hwait
  have hfirst := Runs.panelLogged_left hready.busy hold
    (Runs.crewLeft_resolved (s := s.loggedAt p none) hready.busy hj (by rw [hleaves]; exact htied))
  rw [← hnew] at hfirst
  have hcloses := h.closes hfirst (by omega) ⟨rfl, rfl, rfl⟩
    (.inl (State.untied_of_ended (fun e => State.caseAt_setCase_if _ _ _ _) rfl hothers))
  exact hcloses

/-! ### Logins (R88, R103) -/

/-- A crew that logs in, no open case holding a release: what the test for an arrival comes to. -/
theorem Runs.crewLogin {tag : Nat} {j : CrewNo} (hb : s.Busy) (hj : s.resolveTag tag = some j)
    (hnone : ∀ c, s.isOpen c = true → (s.caseAt c).release = none)
    (h : Runs n (s.setCrewDyn j { (s.crew j).dyn with logged := some p }) [.loginArrival p j] w) :
    Runs (16 + n + 1) s [.crewLogin p tag] w := by
  refine .of_step hb (w := Machine.crewLogin s p tag) rfl ?_
  unfold Machine.crewLogin
  simp only [hj]
  refine Runs.append (n := 16) ?_ h
  refine (Runs.skips (s := s.setCrewDyn j { (s.crew j).dyn with logged := some p }) hb fun i hi => ?_).mono ?_
  · have huntied : ∀ x : PanelIdx, i ∈ crewLeftJobs x j → perform _ i =
        (s.setCrewDyn j { (s.crew j).dyn with logged := some p }, []) := fun x hx => by
      obtain ⟨c, -, rfl⟩ := List.mem_map.mp hx
      exact perform_releaseCrewLeft_untied (s := s.setCrewDyn j { (s.crew j).dyn with logged := some p })
        fun q hopen hq => nomatch (hnone c hopen).symm.trans hq
    split at hi
    · split at hi
      · simp at hi
      · exact huntied _ hi
    · simp at hi
  · split
    · split <;> simp [crewLeftJobs]
    · simp

/-- Step 1 of an answer that logs a crew in, the tag logged before naming no enabled crew record. -/
theorem Runs.panelLogged_login {tag : Nat} {j : CrewNo} (hb : s.Busy) (hne : (s.panel p).dyn.logged ≠ some tag)
    (hj : s.resolveTag tag = some j) (hold : ∀ t, (s.panel p).dyn.logged = some t → s.resolveTag t = none)
    (hnone : ∀ c, s.isOpen c = true → (s.caseAt c).release = none)
    (h : Runs n ((s.loggedAt p (some tag)).setCrewDyn j { (s.crew j).dyn with logged := some p }) [.loginArrival p j] w) :
    Runs (n + 20) s [.panelLogged p (some tag)] w := by
  have hold' : Runs 2 (s.loggedAt p (some tag)) ((s.panel p).dyn.logged.map (Job.crewLeft p)).toList (s.loggedAt p (some tag)) := by
    have hreports := Runs.reports_unresolved (s := s.loggedAt p (some tag)) (p := p) hb _ hold none (by simp)
    simpa using hreports
  have hlogin := Runs.crewLogin (s := s.loggedAt p (some tag)) (tag := tag) (p := p) hb hj hnone h
  exact (Runs.panelLogged hb (fun _ => hold'.append hlogin) (fun hsame => absurd hsame hne)).mono (by omega)

/-- The crew's most urgent held case that is ASSIGNED and on the line (R103). -/
def State.arrivesAt (s : State) (l : LineId) (j : CrewNo) : Option CaseNo :=
  (s.heldOrder j).find? fun c => (s.caseAt c).dispatch == .assigned && lineOf (s.caseAt c).lift == l

theorem loginArrival_eq (s : State) (p : PanelIdx) (j : CrewNo) : loginArrival s p j =
    match s.arrivesAt (panelLine p) j with
    | some c => judgeArrival s j c fun t _ _ _ => t
    | none => (s, []) := rfl

/-- The crew's logged panel is no part of the choice. -/
theorem State.arrivesAt_congr {j : CrewNo} (hcases : w.cases = s.cases) (htime : w.time = s.time)
    (hheld : (w.crew j).dyn.held = (s.crew j).dyn.held) : w.arrivesAt l j = s.arrivesAt l j := by
  simp only [State.arrivesAt, State.heldOrder_congr hcases htime hheld, State.caseAt_congr hcases]

/-- A login that is an arrival too early: it counts as implausible (R103). -/
theorem judgeArrival_early {j : CrewNo} {c : CaseNo} (hroom : s.trunk.own.length < 32) (howed : (s.caseAt c).owed = false)
    (hmin : (s.caseAt c).window.minRunOut = false) : judgeArrival s j c (fun t _ _ _ => t) =
      ((s.setCrewDyn j { (s.crew j).dyn with implausible := min 15 ((s.crew j).dyn.implausible + 1) }).withNotice c
        (s.caseAt c) .implausible (.count (min 15 ((s.crew j).dyn.implausible + 1))), []) := by
  unfold judgeArrival
  simp only [hmin, satInc_eq_min]
  exact congrArg (·, []) (State.notify_room (s.setCrewDyn j _) c _ _ hroom howed)

/-- The record at which the crew has arrived. -/
def Case.arrivedAt (a : Case) : Case := { a with dispatch := .onSite, window := a.window.halted }

/-- A login that is an arrival: ON_SITE, with its notice, and the event CREW_ARRIVED (R73, R103). -/
theorem Runs.loginArrival_arrived {j : CrewNo} {c : CaseNo} (hb : s.Busy) (hroom : s.trunk.own.length < 32)
    (hat : s.arrivesAt (panelLine p) j = some c) (hopen : s.isOpen c = true) (howed : (s.caseAt c).owed = false)
    (hwait : (s.caseAt c).procedure.wait ≠ .event .crewArrived) (hmin : (s.caseAt c).window.minRunOut = true) :
    Runs 2 s [.loginArrival p j] (((s.setCase c (s.caseAt c).arrivedAt).withNotice c (s.caseAt c).arrivedAt .arrived
      .none).setCase c ((s.caseAt c).arrivedAt.met .crewArrived)) := by
  let q := (s.caseAt c).arrivedAt
  let t := (s.setCase c q).withNotice c q .arrived .none
  have harrive : perform s (.loginArrival p j) = (t, [.event c (s.caseAt c).serial .crewArrived]) := by
    change loginArrival s p j = _
    rw [loginArrival_eq, hat]
    simp only [judgeArrival, hmin, if_true]
    exact congrArg (·, _) (State.setCase_notify_room _ _ hroom howed)
  have hcase : t.caseAt c = q := State.caseAt_setCase s c q
  have hevent := perform_event_unawaited (s := t) (c := c) (serial := (s.caseAt c).serial) (e := .crewArrived)
    (by rw [State.isOpen, hcase]; exact hopen) (by rw [hcase]; rfl) (by decide) (by rw [hcase]; exact hwait)
  rw [hcase] at hevent
  exact .of_step hb harrive (.one hb hevent hb)

section

variable {tag : Nat} {j : CrewNo}

/-- The login, before the test for an arrival. -/
def State.loginAt (s : State) (p : PanelIdx) (tag : Nat) (j : CrewNo) : State :=
  (s.loggedAt p (some tag)).setCrewDyn j { (s.crew j).dyn with logged := some p }

/-- A PANEL answer logs in the crew of an enabled record, the tag logged before naming none; no open case holds a release. -/
structure State.LoginTaken (s : State) (l : LineId) (k : Fin 4) (next : Slot) (held : WindowHeld) (r : PanelReport) (tag : Nat)
    (j : CrewNo) : Prop where
  taken : s.PanelTaken l k next held r
  new : r.logged = some tag
  changed : (s.panel (panelAt l k)).dyn.logged ≠ some tag
  resolved : s.resolveTag tag = some j
  old : ∀ t, (s.panel (panelAt l k)).dyn.logged = some t → s.resolveTag t = none
  releases : ∀ c, s.isOpen c = true → (s.caseAt c).release = none

theorem State.LoginTaken.untied (h : s.LoginTaken l k next held r tag j) : s.Untied p := fun c q hopen hq => by
  rw [h.releases c hopen] at hq; cases hq

theorem State.loginAt_arrivesAt (s : State) (k : Fin 4) (tag : Nat) (j : CrewNo) :
    (s.loginAt (panelAt l k) tag j).arrivesAt (panelLine (panelAt l k)) j = s.arrivesAt l j := by
  rw [panelLine_panelAt]
  refine State.arrivesAt_congr rfl rfl ?_
  rw [State.loginAt, State.crew_setCrewDyn]

theorem State.LoginTaken.closes (h : s.LoginTaken l k next held r tag j) (hb : s.Busy)
    (harrival : Runs n (s.loginAt (panelAt l k) tag j) [.loginArrival (panelAt l k) j] w) (hn : n < 7000)
    (hin : s.LoggedIn (panelAt l k) (some tag) w) (huntied : w.Untied (panelAt l k)) :
    exec (.answerWindowClose l held) s =
      .next (State.setLine { w with panels := (s.setPanel (panelAt l k) ((s.panel (panelAt l k)).answered r)).panels } l
        { s.line l with currentSlot := some next, collided := false }) := by
  have hfirst := Runs.panelLogged_login hb h.changed h.resolved h.old h.releases harrival
  rw [← h.new] at hfirst hin
  exact h.taken.closes hfirst (by omega) hin (.inl huntied)

/-- A login that is no arrival: the crew holds no ASSIGNED case on the panel's line. -/
theorem State.LoginTaken.closes_away (h : s.LoginTaken l k next held r tag j) (hb : s.Busy) (hat : s.arrivesAt l j = none) :
    exec (.answerWindowClose l held) s = .next (((s.setPanel (panelAt l k) ((s.panel (panelAt l k)).answered r)).setLine l
      { s.line l with currentSlot := some next, collided := false }).setCrewDyn j
        { (s.crew j).dyn with logged := some (panelAt l k) }) := by
  have haway : perform (s.loginAt (panelAt l k) tag j) (.loginArrival (panelAt l k) j) = (s.loginAt (panelAt l k) tag j, []) := by
    change loginArrival _ _ _ = _
    rw [loginArrival_eq, State.loginAt_arrivesAt, hat]
  have hcloses := h.closes hb (.one hb haway hb) (by omega) ⟨rfl, rfl, rfl⟩ (h.untied.of_cases rfl)
  exact hcloses

/-- A login too early to be an arrival (R103). -/
theorem State.LoginTaken.closes_early {c : CaseNo} (h : s.LoginTaken l k next held r tag j) (hready : s.Ready 1)
    (hat : s.arrivesAt l j = some c) (howed : (s.caseAt c).owed = false) (hmin : (s.caseAt c).window.minRunOut = false) :
    exec (.answerWindowClose l held) s = .next ((((s.setPanel (panelAt l k)
      ((s.panel (panelAt l k)).answered r)).setLine l { s.line l with currentSlot := some next, collided := false }).setCrewDyn j
        { (s.crew j).dyn with
          logged := some (panelAt l k)
          implausible := min 15 ((s.crew j).dyn.implausible + 1) }).withNotice c (s.caseAt c) .implausible
            (.count (min 15 ((s.crew j).dyn.implausible + 1)))) := by
  let p := panelAt l k
  let n := min 15 ((s.crew j).dyn.implausible + 1)
  let u := (s.loggedAt p (some tag)).setCrewDyn j { (s.crew j).dyn with logged := some p, implausible := n }
  have hdyn : ((s.loginAt p tag j).crew j).dyn = { (s.crew j).dyn with logged := some p } := by
    rw [State.loginAt, State.crew_setCrewDyn]
  have hset : (s.loginAt p tag j).setCrewDyn j { ((s.loginAt p tag j).crew j).dyn with implausible := n } = u := by
    rw [hdyn]; simp [State.loginAt, State.setCrewDyn, u]
  have hjudge := judgeArrival_early (s := s.loginAt p tag j) (j := j) (c := c) hready.room howed hmin
  rw [show min 15 (((s.loginAt p tag j).crew j).dyn.implausible + 1) = n by rw [hdyn], hset] at hjudge
  have hearly : perform (s.loginAt p tag j) (.loginArrival p j) =
      (u.withNotice c (s.caseAt c) .implausible (.count n), []) := by
    change loginArrival _ _ _ = _
    rw [loginArrival_eq, State.loginAt_arrivesAt, hat]
    exact hjudge
  have hcloses := h.closes hready.busy (.one hready.busy hearly hready.busy) (by omega) ⟨rfl, rfl, rfl⟩ (h.untied.of_cases rfl)
  exact hcloses

/-- A login that is an arrival (R103). -/
theorem State.LoginTaken.closes_arrived {c : CaseNo} (h : s.LoginTaken l k next held r tag j) (hready : s.Ready 1)
    (hat : s.arrivesAt l j = some c) (hopen : s.isOpen c = true) (howed : (s.caseAt c).owed = false)
    (hwait : (s.caseAt c).procedure.wait ≠ .event .crewArrived) (hmin : (s.caseAt c).window.minRunOut = true) :
    exec (.answerWindowClose l held) s = .next ((((((s.setPanel (panelAt l k)
      ((s.panel (panelAt l k)).answered r)).setLine l { s.line l with currentSlot := some next, collided := false }).setCrewDyn j
        { (s.crew j).dyn with logged := some (panelAt l k) }).setCase c (s.caseAt c).arrivedAt).withNotice c
          (s.caseAt c).arrivedAt .arrived .none).setCase c ((s.caseAt c).arrivedAt.met .crewArrived)) := by
  have harrived := Runs.loginArrival_arrived (s := s.loginAt (panelAt l k) tag j) (p := panelAt l k) hready.busy hready.room
    ((State.loginAt_arrivesAt s k tag j).trans hat) hopen howed hwait hmin
  rw [show (s.loginAt (panelAt l k) tag j).caseAt c = s.caseAt c from rfl] at harrived
  let q := (s.caseAt c).arrivedAt
  have huntied : (s.setCase c (q.met .crewArrived)).Untied (panelAt l k) :=
    State.untied_of_ended (fun e => State.caseAt_setCase_if s c e _) (h.releases c hopen) fun e x _ => h.untied e x
  have hcases : (s.cases.set c.val q).set c.val (q.met .crewArrived) = s.cases.set c.val (q.met .crewArrived) := by
    rw [Vector.set_set]
  have hcloses := h.closes hready.busy harrived (by omega) ⟨rfl, rfl, rfl⟩ (huntied.of_cases hcases)
  exact hcloses

end

end

end Sys2Proof.Machine
end

section
/-! SUPPORT. The outcomes of windows (R7 to R11). -/

namespace Sys2Proof.Machine

/-- Settles O19: the kinds of outcome one after another. -/
theorem windowsHandOnTheirOutcome : Obligations.WindowsHandOnTheirOutcome := by
  refine ⟨fun s l k next hb hcycle hslot hcol hnext => ?_, fun s l k next held hb hcycle hslot hnext hhold hheld => ?_,
    fun s l k next held r hready hcycle hslot hnext ha => ?_, fun s l k next held r hready hcycle hslot hnext ha => ?_,
    fun s l slot held hb hcycle hslot hidle => ?_, fun s p old toggle tag n hold hne hlogged => ?_⟩
  · intro i hen htruth hnow hbelow
    exact closes_carNothing hb ⟨hcycle, hslot⟩ hcol hnext hen htruth hnow hbelow
  · exact closes_panelNothing hb ⟨hcycle, hslot⟩ hnext hhold hheld
  · intro i g d hen hcase htruth hcauses hmode
    exact closes_report hready ⟨hcycle, hslot⟩ hnext ha hen hcase htruth hcauses hmode
  · intro p d hen hrequest hinputs
    have htaken : s.PanelTaken l k next held r := ⟨⟨hcycle, hslot⟩, hnext, ha, hen, hrequest, by rwa [panelLine_panelAt]⟩
    refine ⟨fun hres hhold => htaken.closes_unresolved hready.busy hres hhold, fun tag j hold hnew hj => ?_,
      fun tag j hnew hold hj hres hnone _ => ?_⟩
    · refine ⟨fun huntied => htaken.closes_left hready.busy hold hnew hj huntied,
        fun c q hopen hq hp hcrew hothers howed hwait => ?_⟩
      have hcloses := htaken.closes_leftTied hready hold hnew hj hopen hq hp hcrew hothers howed hwait
      rw [Case.withoutRelease_eq hq] at hcloses
      exact hcloses
    · have hlogin : s.LoginTaken l k next held r tag j := ⟨htaken, hnew, hold, hj, hres, hnone⟩
      refine ⟨fun hat => hlogin.closes_away hready.busy hat, fun c hat hopen howed hwait => ⟨fun hmin => ?_, fun hmin => ?_⟩⟩
      · exact hlogin.closes_arrived hready hat hopen howed hwait hmin
      · exact hlogin.closes_early hready hat howed hmin
  · have hidle' := State.idle_cases hidle
    let a := judgeWindow slot (s.line l).collided held
    have hkeeps : (s.setLine l ((s.line l).judged a)).KeepsPolling l ↔ s.KeepsPolling l := State.keepsPolling_setLine rfl rfl
    refine ⟨fun next hnext => closes_idle hb ⟨hcycle, hslot⟩ rfl hidle' hnext, fun hlast => ?_⟩
    have hwaiting (hk : s.KeepsPolling l) := closes_stopped hb ⟨hcycle, hslot⟩ rfl hidle' hlast (stopLine_continuous (hkeeps.mpr hk))
    have hquiet (hk : ¬ s.KeepsPolling l) := closes_stopped hb ⟨hcycle, hslot⟩ rfl hidle' hlast (stopLine_quiet (mt hkeeps.mp hk))
    rw [State.line_setLine] at hwaiting hquiet
    exact ⟨fun n hn hk => (hwaiting hk).1 n hn, fun n hn hk => (hquiet hk).1 n hn, fun first slots hno hs =>
      ⟨fun hn hk => (hwaiting hk).2 first slots hn hno hs, fun hn hk => (hquiet hk).2 first slots hn hno hs⟩⟩
  · intro u made
    have hmade : ∀ q, made q = finish (crewRequest u (.panel p) tag (some q) n) := fun q =>
      congrArg finish (panelRequest_fresh hold hne hlogged q n)
    simp only [hmade]
    exact ⟨rfl, rfl, rfl, rfl, rfl, rfl, rfl, rfl, rfl, rfl⟩

end Sys2Proof.Machine
end

section
/-! SUPPORT. The outline of a state: the tables, the lifts' states and truths, and the rotation order, with what leaves it alone. -/

namespace Sys2Proof.Machine

/-! ### The outline of a state -/

/-- The seven tables, and the commands that wait (R23, R30, R59, R84, R91, R108, R164). -/
structure Tables where
  pending : List Instr
  lifts : LiftIdx → LiftConfig
  panels : PanelIdx → PanelConfig
  crews : CrewNo → CrewConfig
  classes : Vector ClassEntry 5
  travel : Vector Travel 16
  store : Vector StepRecord 256
  settings : Settings

def State.tables (s : State) : Tables where
  pending := s.pending
  lifts := fun i => (s.lift i).config
  panels := fun p => (s.panel p).config
  crews := fun k => (s.crew k).config
  classes := s.classes
  travel := s.travel
  store := s.store
  settings := s.settings

/-- What most jobs leave as it is: the tables, each lift's state and cause truth, and the rotation order. -/
structure Outline where
  tables : Tables
  lifts : LiftIdx → LiftState × CauseSet
  rotation : List LiftIdx

def State.outline (s : State) : Outline where
  tables := s.tables
  lifts := fun i => ((s.lift i).dyn.state, (s.lift i).dyn.truth)
  rotation := s.rotation

theorem State.lift_config_of_tables {s t : State} (h : t.tables = s.tables) (i : LiftIdx) :
    (t.lift i).config = (s.lift i).config := congrFun (congrArg Tables.lifts h) i
theorem State.panel_config_of_tables {s t : State} (h : t.tables = s.tables) (p : PanelIdx) :
    (t.panel p).config = (s.panel p).config := congrFun (congrArg Tables.panels h) p
theorem State.crew_config_of_tables {s t : State} (h : t.tables = s.tables) (k : CrewNo) :
    (t.crew k).config = (s.crew k).config := congrFun (congrArg Tables.crews h) k

/-- Cause truth is sound by the configuration, the state and the truth of a lift alone. -/
theorem Lift.TruthSound.congr {r q : Lift} (h : r.TruthSound) (hconfig : q.config = r.config)
    (hstate : q.dyn.state = r.dyn.state) (htruth : q.dyn.truth = r.dyn.truth) : q.TruthSound := by
  exact ⟨by rw [hstate, hconfig]; exact h.known, by rw [htruth]; exact h.manual,
    by rw [htruth, hconfig]; exact h.enabled, by rw [hstate, htruth]; exact h.off⟩

/-! ### Updates and offerings that keep the outline -/

section

variable (s : State)

@[simp] theorem State.setLine_outline (l : LineId) (r : Line) : (s.setLine l r).outline = s.outline := rfl
@[simp] theorem State.setCase_outline (c : CaseNo) (r : Case) : (s.setCase c r).outline = s.outline := rfl
@[simp] theorem State.setProcedure_outline (c : CaseNo) (p : Procedure) : (s.setProcedure c p).outline = s.outline := rfl
@[simp] theorem State.setRelease_outline (c : CaseNo) (q : Release) : (s.setRelease c q).outline = s.outline := rfl

@[simp] theorem State.setPanelDyn_outline (p : PanelIdx) (d : PanelDynamic) : (s.setPanelDyn p d).outline = s.outline := by
  have hpanels : ∀ q, ((s.setPanelDyn p d).panel q).config = (s.panel q).config := fun q => by
    rw [State.panel_setPanelDyn_if]
    split
    · next h => rw [h]
    · rfl
  simp only [State.outline, State.tables, hpanels]
  rfl

@[simp] theorem State.setCrewDyn_outline (k : CrewNo) (d : CrewDynamic) : (s.setCrewDyn k d).outline = s.outline := by
  have hcrews : ∀ j, ((s.setCrewDyn k d).crew j).config = (s.crew j).config := fun j => by
    rw [State.crew_setCrewDyn_if]
    split
    · next h => rw [h]
    · rfl
  simp only [State.outline, State.tables, hcrews]
  rfl

@[simp] theorem State.setDyn_tables (i : LiftIdx) (d : LiftDynamic) : (s.setDyn i d).tables = s.tables := by
  have hlifts : ∀ j, ((s.setDyn i d).lift j).config = (s.lift j).config := fun j => by
    rw [State.lift_setDyn_if]
    split
    · next h => rw [h]
    · rfl
  simp only [State.tables, hlifts]
  rfl

/-- A dynamic part with the lift's state and truth. -/
theorem State.setDyn_outline {i : LiftIdx} {d : LiftDynamic} (hstate : d.state = (s.lift i).dyn.state)
    (htruth : d.truth = (s.lift i).dyn.truth) : (s.setDyn i d).outline = s.outline := by
  have hlifts : ∀ j, ((s.setDyn i d).lift j).dyn.state = (s.lift j).dyn.state ∧
      ((s.setDyn i d).lift j).dyn.truth = (s.lift j).dyn.truth := fun j => by
    rw [State.lift_setDyn_if]
    split
    · next h => exact h ▸ ⟨hstate, htruth⟩
    · exact ⟨rfl, rfl⟩
  simp only [State.outline, State.setDyn_tables, fun j => (hlifts j).1, fun j => (hlifts j).2]
  rfl

@[simp] theorem State.addLatch_outline (i : LiftIdx) (causes : CauseSet) : (s.addLatch i causes).outline = s.outline :=
  s.setDyn_outline rfl rfl

@[simp] theorem State.offerAnswer_outline (o : Origin) (b : OwnBody) : (s.offerAnswer o b).outline = s.outline := by
  obtain ⟨t, ht⟩ := s.offerAnswer_trunk o b
  rw [ht]; rfl

@[simp] theorem State.answer_outline (o : Origin) (kind : Byte) (code : AnswerCode) (data : AnswerData) :
    (s.answer o kind code data).outline = s.outline := s.offerAnswer_outline _ _

@[simp] theorem State.offerLoose_outline (b : OwnBody) : (s.offerLoose b).outline = s.outline := by
  obtain ⟨t, ht⟩ := s.offerLoose_trunk b
  rw [ht]; rfl

@[simp] theorem State.offerSummary_outline (m : Summary) : (s.offerSummary m).outline = s.outline := by
  obtain ⟨t, ht⟩ := s.offerSummary_trunk m
  rw [ht]; rfl

@[simp] theorem State.offerCase_outline (c : CaseNo) (n : Notice) : (s.offerCase c n).1.outline = s.outline := by
  unfold State.offerCase
  split
  · rfl
  · split <;> rfl

@[simp] theorem State.notify_outline (c : CaseNo) (kind : NoticeKind) (arg : NoticeArg) :
    (s.notify c kind arg).outline = s.outline := s.offerCase_outline _ _
@[simp] theorem State.call_outline (c : CaseNo) : (s.call c).outline = s.outline := s.offerLoose_outline _
@[simp] theorem State.fullIf_outline (before : Bool) (i : LiftIdx) : (s.fullIf before i).outline = s.outline := by
  unfold State.fullIf
  split
  · exact s.offerLoose_outline _
  · rfl

@[simp] theorem State.respond_outline (route : Route) (tag : Nat) (code : AnswerCode) (named : Option (BitVec 16))
    (info : Option OfferInfo) : (s.respond route tag code named info).outline = s.outline := by
  cases route with
  | trunk o => exact s.offerAnswer_outline _ _
  | panel p => rfl

@[simp] theorem State.reply_outline (k : CrewNo) (route : Route) (code : AnswerCode) (named : Option (BitVec 16))
    (info : Option OfferInfo) (tag : Nat) : (s.reply k route code named info tag).outline = s.outline := by
  simp [State.reply]

end

/-! ### Work that keeps the outline -/

/-- A job that may be done: a report or a silence of an enabled lift, an entry into another state than DISABLED, or any other
job (R8, R19, R20). -/
def State.Performable (s : State) : Job → Prop
  | .takenReport i _ => (s.lift i).config.enabled = true
  | .silentSlot i => (s.lift i).config.enabled = true
  | .enterLift _ st => st ≠ .disabled
  | _ => True

theorem State.Performable.of_tables {s t : State} {j : Job} (h : t.tables = s.tables) (hj : t.Performable j) :
    s.Performable j := by
  cases j with
  | takenReport i r => exact (congrArg LiftConfig.enabled (State.lift_config_of_tables h i)).symm.trans hj
  | silentSlot i => exact (congrArg LiftConfig.enabled (State.lift_config_of_tables h i)).symm.trans hj
  | _ => exact hj

/-- Work on `s` that keeps the outline and hands on jobs that may be done. -/
structure State.Keeps (s : State) (w : Work) : Prop where
  outline : w.1.outline = s.outline
  jobs : ∀ j ∈ w.2, s.Performable j

namespace State.Keeps

variable {s t : State} {w : Work} {j : Job} {jobs : List Job}

theorem nil (h : t.outline = s.outline) : s.Keeps (t, []) := ⟨h, by simp⟩
theorem one (h : t.outline = s.outline) (hj : s.Performable j) : s.Keeps (t, [j]) := ⟨h, by simpa using hj⟩

/-- Work on a state of the same outline. -/
theorem of_outline (hw : t.Keeps w) (h : t.outline = s.outline) : s.Keeps w :=
  ⟨hw.outline.trans h, fun j hj => (hw.jobs j hj).of_tables (congrArg Outline.tables h)⟩

theorem fullIf (hw : s.Keeps w) (before : Bool) (i : LiftIdx) : s.Keeps (w.1.fullIf before i, w.2) :=
  ⟨(w.1.fullIf_outline before i).trans hw.outline, hw.jobs⟩

theorem with_jobs (hw : s.Keeps w) (h : ∀ j ∈ jobs, s.Performable j) : s.Keeps (w.1, jobs ++ w.2) :=
  ⟨hw.outline, by simpa [or_imp, forall_and] using ⟨h, hw.jobs⟩⟩

end State.Keeps

end Sys2Proof.Machine
end

section
/-! SUPPORT. The outline through the case manager, the procedure engine and the release controller (chapters 4, 6, 7). -/

namespace Sys2Proof.Machine

variable (s : State)

/-! ### The case manager (chapter 4) -/

@[simp] theorem State.seated_outline (c : CaseNo) (i : LiftIdx) (causes : CauseSet) :
    (s.seated c i causes).outline = s.outline :=
  (s.setCase c (s.openingRecord i causes)).setDyn_outline (d := { (s.lift i).dyn with openCase := some c, latch := .empty })
    rfl rfl

theorem openCase_keeps (c : CaseNo) (i : LiftIdx) (causes : CauseSet) : s.Keeps (openCase s c i causes) :=
  .one (by simp) trivial

theorem joinCauses_keeps (c : CaseNo) (causes : CauseSet) : s.Keeps (joinCauses s c causes) := by
  unfold joinCauses
  dsimp only
  split
  · exact .nil rfl
  · exact .one (by simp) trivial

theorem raise_keeps (i : LiftIdx) (causes : CauseSet) : s.Keeps (raise s i causes) := by
  unfold raise
  split
  · exact joinCauses_keeps s _ _
  · split
    · exact openCase_keeps s _ _ _
    · exact .nil (by simp)

/-- The pruning of every lift's latch (R66). -/
theorem State.prunedLatches_outline : State.outline { s with lifts := s.lifts.map Lift.prunedLatch } = s.outline := by
  have hlift : ∀ i, State.lift { s with lifts := s.lifts.map Lift.prunedLatch } i = (s.lift i).prunedLatch := fun i => by
    simp [State.lift]
  simp only [State.outline, State.tables, hlift]
  rfl

theorem arbitrate_keeps : s.Keeps (arbitrate s) := by
  unfold arbitrate
  split
  · exact .nil rfl
  · dsimp only
    split
    · exact (openCase_keeps _ _ _ _).of_outline s.prunedLatches_outline
    · exact .nil s.prunedLatches_outline

theorem truthTold_keeps (i : LiftIdx) : s.Keeps (truthTold s i) := by
  obtain ⟨hstate, hjobs⟩ := truthTold_cases s i
  refine ⟨?_, ?_⟩
  · rcases hstate with h | h <;> rw [h]
    exact s.setDyn_outline rfl rfl
  · rcases hjobs with h | ⟨c, _, h⟩ <;> rw [h]
    · exact List.forall_mem_nil _
    · exact List.forall_mem_singleton.mpr trivial

theorem occupancyChange_outline (c : CaseNo) : (occupancyChange s c).outline = s.outline := by
  unfold occupancyChange
  dsimp only
  split <;> rfl

theorem escalate_keeps (c : CaseNo) : s.Keeps (escalate s c) := .one (by simp) trivial

theorem clearCase_keeps (c : CaseNo) (source : ClearedSource) : s.Keeps (clearCase s c source) := by
  unfold clearCase
  dsimp only
  split
  · exact .one rfl trivial
  · exact .one rfl trivial
  · exact .nil (by simp)
  · exact .nil (by simp)
  · exact .nil rfl

@[simp] theorem Crew.without_config (k : Crew) (c : CaseNo) (serial : BitVec 16) :
    (k.without c serial).config = k.config := by
  unfold Crew.without
  dsimp only
  split
  · split <;> rfl
  · rfl

/-- An update of all crews that leaves their configurations (R76, R145). -/
theorem State.crews_outline {f : Crew → Crew} (h : ∀ k, (f k).config = k.config) :
    State.outline { s with crews := s.crews.map f } = s.outline := by
  have hcrew : ∀ k, State.crew { s with crews := s.crews.map f } k = f (s.crew k) := fun k => by simp [State.crew]
  simp only [State.outline, State.tables, hcrew, h]
  rfl

theorem State.lamp_outline (b : Bool) : State.outline { s with lamp := b } = s.outline := rfl

@[simp] theorem State.shut_outline (c : CaseNo) (reason : CloseReason) : (s.shut c reason).outline = s.outline := by
  unfold State.shut
  dsimp only
  rw [State.addLatch_outline, State.lamp_outline, State.setDyn_outline, State.setCase_outline]
  · exact s.crews_outline fun k => k.without_config c _
  · rfl
  · rfl

theorem closeCase_keeps (c : CaseNo) (reason : CloseReason) : s.Keeps (closeCase s c reason) := by
  unfold closeCase
  dsimp only
  split
  · split <;> exact ((arbitrate_keeps _).of_outline (by simp)).fullIf _ _
  · exact .nil rfl

/-! ### Procedures (chapter 6) -/

theorem completeWait_keeps (c : CaseNo) : s.Keeps (completeWait s c) := .one rfl trivial
theorem failWait_keeps (c : CaseNo) : s.Keeps (failWait s c) := .one rfl trivial

@[simp] theorem handover_outline (c : CaseNo) (reason : HandoverReason) : (handover s c reason).outline = s.outline := by
  unfold handover
  dsimp only
  split
  · simp
  · rfl

theorem handoverTest_outline (c : CaseNo) : (handoverTest s c).outline = s.outline := by
  unfold handoverTest
  dsimp only
  split
  · simp
  · rfl

theorem procedureEvent_keeps (c : CaseNo) (e : NamedEvent) : s.Keeps (procedureEvent s c e) := by
  unfold procedureEvent
  split
  · exact completeWait_keeps s c
  · exact .nil rfl

theorem caseEvent_keeps (c : CaseNo) (e : NamedEvent) : s.Keeps (caseEvent s c e) := by
  unfold caseEvent
  dsimp only
  split
  · split
    · exact (clearCase_keeps _ c .evacuated).of_outline rfl
    · have hcleared := clearCase_keeps (s.setCase c { s.caseAt c with
        seen := (s.caseAt c).seen.insert e, escalation := eventTimer (s.caseAt c) e }) c .evacuated
      exact (((procedureEvent_keeps _ c e).of_outline hcleared.outline).with_jobs hcleared.jobs).of_outline rfl
  · exact (procedureEvent_keeps _ c e).of_outline rfl

/-! ### Releases (chapter 7) -/

@[simp] theorem endNotice_outline (c : CaseNo) (e : ReleaseEnd) : (endNotice s c e).outline = s.outline := by
  cases e <;> exact s.notify_outline _ _ _

@[simp] theorem dropRelease_outline (c : CaseNo) (e : ReleaseEnd) : (dropRelease s c e).outline = s.outline :=
  endNotice_outline _ _ _

theorem endRelease_keeps (c : CaseNo) (e : ReleaseEnd) : s.Keeps (endRelease s c e) := by
  have hdrop : (dropRelease s c e).outline = s.outline := dropRelease_outline s c e
  unfold endRelease
  dsimp only
  split
  · cases e with
    | done p => exact (completeWait_keeps _ c).of_outline hdrop
    | aborted reason => exact (failWait_keeps _ c).of_outline hdrop
  · exact .nil hdrop

theorem holdAt_outline (c : CaseNo) (q : Release) (was hold : Bool) (press : Nat) :
    (holdAt s c q was hold press).outline = s.outline := by
  unfold holdAt
  dsimp only
  split
  · split <;> rfl
  · split
    · rfl
    · split <;> rfl
  · split
    · rfl
    · split <;> rfl
  · split <;> rfl

theorem holdChange_outline (c : CaseNo) (p : PanelIdx) (was hold : Bool) (press : Nat) :
    (holdChange s c p was hold press).outline = s.outline := by
  unfold holdChange
  split
  · split
    · exact holdAt_outline s _ _ _ _ _
    · rfl
  · rfl

theorem settle_keeps (c : CaseNo) (q : Release) (n : CarRecord) : s.Keeps (settle s c q n) := by
  unfold settle
  dsimp only
  split
  · exact endRelease_keeps s c _
  · exact .nil rfl

theorem reportBySub_keeps (c : CaseNo) (q : Release) (n : CarRecord) (moves : Bool) :
    s.Keeps (reportBySub s c q n moves) := by
  unfold reportBySub
  dsimp only
  split
  · exact .nil rfl
  · split
    · exact .one rfl trivial
    · exact .nil rfl
  · split <;> exact .nil rfl
  · split
    · exact settle_keeps s c q n
    · exact .nil rfl

theorem releaseReport_keeps (c : CaseNo) (moves : Bool) : s.Keeps (releaseReport s c moves) := by
  unfold releaseReport
  split
  · split
    · exact endRelease_keeps s c _
    · split
      · exact endRelease_keeps s c _
      · exact reportBySub_keeps s c _ _ _
  · exact .nil rfl
  · exact .nil rfl

theorem pulseDelivered_outline (c : CaseNo) (sequence : Nat) : (pulseDelivered s c sequence).outline = s.outline := by
  unfold pulseDelivered
  dsimp only
  split
  · split
    · simp
    · rfl
  · rfl

theorem releaseCrewLeft_keeps (c : CaseNo) (p : PanelIdx) (k : CrewNo) : s.Keeps (releaseCrewLeft s c p k) := by
  unfold releaseCrewLeft
  split
  · split
    · exact endRelease_keeps s c _
    · exact .nil rfl
  · exact .nil rfl

theorem releaseReset_keeps (c : CaseNo) (l : LineId) : s.Keeps (releaseReset s c l) := by
  unfold releaseReset
  split
  · exact endRelease_keeps s c _
  · exact .nil rfl

/-! ### The procedure engine (chapter 6) -/

theorem commandStep_keeps (c : CaseNo) (limit : Nat) (cmd : CarCommand) : s.Keeps (commandStep s c limit cmd) :=
  .one rfl trivial

theorem releaseStep_keeps (c : CaseNo) (begun : Nat) (sr : StepRecord) : s.Keeps (releaseStep s c begun sr) := by
  unfold releaseStep
  split
  · exact .nil rfl
  · exact .one (by simp) trivial

theorem act_keeps (c : CaseNo) (begun : Nat) (sr : StepRecord) (a : Action) : s.Keeps (act s c begun sr a) := by
  unfold act
  dsimp only
  split
  case h_1 => exact commandStep_keeps s _ _ _
  case h_2 =>
    split
    · exact commandStep_keeps s _ _ _
    · exact .one rfl trivial
  case h_3 => exact .one (by simp) trivial
  case h_4 => exact .one rfl trivial
  case h_5 =>
    split
    · exact .one rfl trivial
    · exact .nil rfl
  case h_6 => split <;> exact .one rfl trivial
  case h_7 => exact .one rfl trivial
  case h_8 => split <;> exact .one rfl trivial
  case h_9 => exact .one rfl trivial
  case h_10 => exact releaseStep_keeps s _ _ _
  case h_11 => exact .one rfl trivial
  case h_12 => exact .nil (by simp)

theorem goTo_keeps (c : CaseNo) (begun target : Nat) (common : Bool) : s.Keeps (goTo s c begun target common) := by
  unfold goTo
  dsimp only
  split
  · split
    · exact .nil (by simp)
    · split
      · exact .nil (by simp)
      · split
        · exact .nil (by simp)
        · exact (act_keeps _ _ _ _ _).of_outline rfl
  · exact .nil rfl

theorem commandDelivered_keeps (c : CaseNo) (p : PendingCommand) : s.Keeps (commandDelivered s c p) := by
  unfold commandDelivered
  split
  · split
    · exact completeWait_keeps s c
    · exact .nil rfl
  · split
    · exact .nil (pulseDelivered_outline s _ _)
    all_goals exact .nil rfl

theorem commandLost_keeps (c : CaseNo) (owner : CommandOwner) : s.Keeps (commandLost s c owner) := by
  unfold commandLost
  split
  · split
    · exact failWait_keeps s c
    · exact .nil rfl
  · exact .nil rfl

theorem stepExpired_keeps (c : CaseNo) : s.Keeps (stepExpired s c) := by
  unfold stepExpired
  dsimp only
  split
  · exact .nil rfl
  · exact failWait_keeps s c
  · exact (failWait_keeps _ c).of_outline rfl
  · split
    · exact (failWait_keeps _ c).of_outline (dropRelease_outline s c _)
    · exact failWait_keeps s c

end Sys2Proof.Machine
end

section
/-! SUPPORT. The outline through the arbiter, the panels, the lines and the trunk port (chapters 1, 5, 9). -/

namespace Sys2Proof.Machine

variable (s : State)

/-! ### Panels and crews (chapters 1 and 5) -/

theorem judgeArrival_keeps (k : CrewNo) (c : CaseNo) {reply : Reply}
    (hreply : ∀ t code named info, (reply t code named info).outline = t.outline) :
    s.Keeps (judgeArrival s k c reply) := by
  unfold judgeArrival
  dsimp only
  split
  · exact .one (by simp [hreply]) trivial
  · exact .nil (by simp [hreply])

theorem loginArrival_keeps (p : PanelIdx) (k : CrewNo) : s.Keeps (loginArrival s p k) := by
  unfold loginArrival
  dsimp only
  split
  · exact judgeArrival_keeps s k _ fun _ _ _ _ => rfl
  · exact .nil rfl

theorem crewLeftJobs_performable (p : PanelIdx) (k : CrewNo) : ∀ j ∈ crewLeftJobs p k, s.Performable j :=
  List.forall_mem_map.mpr fun _ _ => trivial

theorem crewLogin_keeps (p : PanelIdx) (tag : Nat) : s.Keeps (crewLogin s p tag) := by
  unfold crewLogin
  dsimp only
  split
  · next k _ =>
    refine State.Keeps.with_jobs (.one (j := .loginArrival p k) (s.setCrewDyn_outline k _) trivial) ?_
    split
    · split
      · exact List.forall_mem_nil _
      · exact crewLeftJobs_performable s _ _
    · exact List.forall_mem_nil _
  · exact .nil rfl

theorem crewLeft_keeps (p : PanelIdx) (tag : Nat) : s.Keeps (crewLeft s p tag) := by
  unfold crewLeft
  dsimp only
  split
  · next k _ =>
    refine ⟨?_, crewLeftJobs_performable s p k⟩
    split
    · exact s.setCrewDyn_outline _ _
    · rfl
  · exact .nil rfl

theorem panelLogged_keeps (p : PanelIdx) (logged : Option Nat) : s.Keeps (panelLogged s p logged) := by
  unfold panelLogged
  dsimp only
  split
  · exact .nil rfl
  · refine ⟨s.setPanelDyn_outline _ _, List.forall_mem_append.mpr ⟨?_, ?_⟩⟩
    · split
      · exact List.forall_mem_singleton.mpr trivial
      · exact List.forall_mem_nil _
    · split
      · exact List.forall_mem_singleton.mpr trivial
      · exact List.forall_mem_nil _

theorem holdJobs_performable (p : PanelIdx) (was hold : Bool) (press : Nat) :
    ∀ j ∈ holdJobs p was hold press, s.Performable j :=
  List.forall_mem_map.mpr fun _ _ => trivial

theorem panelHold_keeps (p : PanelIdx) (hold : Bool) (press : Nat) : s.Keeps (panelHold s p hold press) := by
  unfold panelHold
  refine ⟨s.setPanelDyn_outline _ _, ?_⟩
  dsimp only
  split
  · exact List.forall_mem_nil _
  · exact holdJobs_performable s _ _ _ _

theorem panelSilent_keeps (p : PanelIdx) : s.Keeps (panelSilent s p) := by
  unfold panelSilent
  refine ⟨s.setPanelDyn_outline _ _, ?_⟩
  dsimp only
  split
  · exact holdJobs_performable s _ _ _ _
  · exact List.forall_mem_nil _

theorem sharedJobs_performable (l : LineId) (p : Fin 16 → Bool) : ∀ j ∈ sharedJobs l p, s.Performable j :=
  List.forall_mem_map.mpr fun _ _ => trivial

theorem panelInputs_keeps (p : PanelIdx) (inputs : BitVec 4) : s.Keeps (panelInputs s p inputs) :=
  ⟨s.setPanelDyn_outline _ _, sharedJobs_performable s _ _⟩

theorem clearPanel_keeps (p : PanelIdx) : s.Keeps (clearPanel s p) :=
  ⟨s.setPanelDyn_outline _ _, sharedJobs_performable s _ _⟩

/-! ### START and STOP (chapter 1) -/

theorem startLine_keeps (l : LineId) (wake : Option WakeSource) : s.Keeps (startLine s l wake) := by
  have hstop : ∀ j ∈ (if (s.slotSet l).isEmpty then [Job.stop l] else []), s.Performable j := by
    split
    · exact List.forall_mem_singleton.mpr trivial
    · exact List.forall_mem_nil _
  unfold startLine
  dsimp only
  split
  · exact ⟨rfl, List.forall_mem_cons.mpr ⟨trivial, hstop⟩⟩
  · exact ⟨rfl, hstop⟩

theorem stopLine_keeps (l : LineId) : s.Keeps (stopLine s l) := by
  have hstart : ∀ b : Bool, ∀ j ∈ (if b then [] else [Job.start l none]), s.Performable j := fun b => by
    cases b
    · exact List.forall_mem_singleton.mpr trivial
    · exact List.forall_mem_nil _
  unfold stopLine
  dsimp only
  split
  · exact ⟨rfl, hstart _⟩
  · exact ⟨rfl, hstart _⟩

theorem lineWork_keeps (l : LineId) : s.Keeps (lineWork s l) := by
  rcases lineWork_cases s l with ⟨_, h⟩ | ⟨_, h⟩ <;> rw [h]
  · exact .one rfl trivial
  · exact .nil rfl

theorem restartLine_keeps (l : LineId) : s.Keeps (restartLine s l) := .one rfl trivial

theorem advance_keeps (l : LineId) (slot : Slot) : s.Keeps (advance s l slot) := by
  unfold advance
  dsimp only
  split
  · split
    · exact .nil rfl
    · exact .one rfl trivial
  · exact .nil rfl

/-! ### Summaries and transmitters (chapters 3 and 9) -/

theorem summaryAfterReport_outline (i : LiftIdx) (before : LiftState) (previous : Option CarRecord) :
    (summaryAfterReport s i before previous).outline = s.outline := by
  unfold summaryAfterReport
  dsimp only
  split
  · exact s.offerSummary_outline _
  · split
    · exact s.offerSummary_outline _
    · rfl
  · rfl

theorem summaryAfterChange_outline (i : LiftIdx) : (summaryAfterChange s i).outline = s.outline := by
  rw [(summaryAfterChange_rest s i).1]; rfl

theorem serveOwed_keeps : s.Keeps (serveOwed s) := by
  unfold serveOwed
  split
  · exact .nil rfl
  · split
    · exact .nil rfl
    · exact .one rfl trivial
    · exact .nil rfl

theorem kickNear_keeps : s.Keeps (kickNear s) := by
  have hsend : ∀ f rest turn, s.Keeps (sendOwn s f rest turn) := fun _ _ _ => (serveOwed_keeps _).of_outline rfl
  unfold kickNear
  dsimp only
  split
  · split
    · exact .nil rfl
    · exact .nil rfl
    · exact hsend _ _ _
    · split
      · exact hsend _ _ _
      · split
        · exact .nil rfl
        · exact hsend _ _ _
  · exact .nil rfl

theorem kickFar_outline : (kickFar s).outline = s.outline := by
  unfold kickFar
  dsimp only
  split
  · split <;> rfl
  · rfl

theorem kick_keeps : s.Keeps (kick s) := (kickNear_keeps _).of_outline (kickFar_outline s)

end Sys2Proof.Machine
end

section
/-! SUPPORT. What every job of a handling keeps: the tables, sound cause truth (R26, R46), a whole rotation order (R92). -/

namespace Sys2Proof.Machine

/-! ### What a handling keeps -/

/-- The tables and the waiting commands of `t` are those of `s`, and sound cause truth and a whole rotation order are carried over. -/
structure State.Carries (s t : State) : Prop where
  tables : t.tables = s.tables
  truth : ∀ i, (s.lift i).TruthSound → (t.lift i).TruthSound
  rotation : s.RotationWhole → t.RotationWhole

namespace State.Carries

variable {s t u : State}

theorem of_outline (h : t.outline = s.outline) : s.Carries t where
  tables := congrArg Outline.tables h
  truth i hi := hi.congr (lift_config_of_tables (congrArg Outline.tables h) i)
    (congrArg Prod.fst (congrFun (congrArg Outline.lifts h) i)) (congrArg Prod.snd (congrFun (congrArg Outline.lifts h) i))
  rotation h' := by
    unfold RotationWhole
    rw [show t.rotation = s.rotation from congrArg Outline.rotation h]
    exact h'

theorem refl (s : State) : s.Carries s := of_outline rfl

theorem trans (hst : s.Carries t) (htu : t.Carries u) : s.Carries u :=
  ⟨htu.tables.trans hst.tables, fun i => htu.truth i ∘ hst.truth i, htu.rotation ∘ hst.rotation⟩

/-- A lift takes another dynamic part that is sound. -/
theorem setDyn {i : LiftIdx} {d : LiftDynamic} (h : (s.lift i).TruthSound → Lift.TruthSound ⟨(s.lift i).config, d⟩) :
    s.Carries (s.setDyn i d) where
  tables := s.setDyn_tables i d
  truth j hj := by
    rw [lift_setDyn_if]
    split
    · next hij => subst hij; exact h hj
    · exact hj
  rotation := id

end State.Carries

/-- Work on `s` that carries it over and hands on jobs that may be done. -/
structure State.Handles (s : State) (w : Work) : Prop where
  carries : s.Carries w.1
  jobs : ∀ j ∈ w.2, s.Performable j

theorem State.Keeps.handles {s : State} {w : Work} (h : s.Keeps w) : s.Handles w := ⟨.of_outline h.outline, h.jobs⟩

namespace State.Handles

variable {s t : State} {w : Work} {jobs : List Job}

theorem nil (h : s.Carries t) : s.Handles (t, []) := ⟨h, by simp⟩

/-- Work on a state that carries `s` over. -/
theorem of_carries (hw : t.Handles w) (h : s.Carries t) : s.Handles w :=
  ⟨h.trans hw.carries, fun j hj => (hw.jobs j hj).of_tables h.tables⟩

theorem with_jobs (hw : s.Handles w) (h : ∀ j ∈ jobs, s.Performable j) : s.Handles (w.1, jobs ++ w.2) :=
  ⟨hw.carries, List.forall_mem_append.mpr ⟨h, hw.jobs⟩⟩

end State.Handles

/-! ### Cause truth (R46, R47) -/

section

variable (s : State) (i : LiftIdx)

/-- The truth computed whole is sound: an enabled cause other than MANUAL, and none in DISABLED and OFFLINE (R26, R46). -/
theorem State.truthOf_manual : (s.truthOf i).manual = false := by
  unfold State.truthOf
  dsimp only
  split
  · rfl
  · exact Bool.and_false _

theorem State.truthOf_enabled (c : Cause) (h : (s.truthOf i).has c = true) : ((s.lift i).config.cause c).enabled = true := by
  unfold State.truthOf at h
  dsimp only at h
  split at h
  · cases c <;> exact absurd h Bool.false_ne_true
  · cases c <;> exact (Bool.and_eq_true_iff.mp h).1

theorem State.truthOf_off (h : (s.lift i).dyn.state = .disabled ∨ (s.lift i).dyn.state = .offline) :
    s.truthOf i = .empty := by
  unfold State.truthOf
  dsimp only
  rw [if_pos (by simpa using h)]

theorem storeTruth_carries : s.Carries (storeTruth s i) :=
  .setDyn fun h => ⟨h.known, s.truthOf_manual i, s.truthOf_enabled i, s.truthOf_off i⟩

theorem toldIf_performable (old new : CauseSet) : ∀ j ∈ toldIf i old new, s.Performable j := by
  unfold toldIf
  split
  · exact List.forall_mem_nil _
  · exact List.forall_mem_singleton.mpr trivial

theorem changeJobs_performable (before after : LiftState) : ∀ j ∈ changeJobs i before after, s.Performable j := by
  unfold changeJobs
  split
  · exact List.forall_mem_nil _
  · exact List.forall_mem_singleton.mpr trivial

theorem raiseIf_performable (raised : CauseSet) : ∀ j ∈ raiseIf i raised, s.Performable j := by
  unfold raiseIf
  split
  · exact List.forall_mem_nil _
  · exact List.forall_mem_singleton.mpr trivial

theorem sharedEval_handles : s.Handles (sharedEval s i) := by
  unfold sharedEval
  dsimp only
  split
  · exact .nil (.refl s)
  · exact ⟨storeTruth_carries s i,
      List.forall_mem_append.mpr ⟨toldIf_performable s i _ _, raiseIf_performable s i _⟩⟩

/-! ### Slot outcomes (R44, R45, R54) -/

theorem liftStateOf_on (mode : CarMode) (moves zone : Bool) (stopCount debounce : Nat) :
    liftStateOf mode moves zone stopCount debounce ≠ .disabled ∧ liftStateOf mode moves zone stopCount debounce ≠ .offline := by
  unfold liftStateOf
  split_ifs <;> decide

/-- A lift that stays out of DISABLED and OFFLINE with the truth it has. -/
theorem Lift.TruthSound.inState {r : Lift} {d : LiftDynamic} (h : r.TruthSound) (hen : r.config.enabled = true)
    (hon : d.state ≠ .disabled ∧ d.state ≠ .offline) (htruth : d.truth = r.dyn.truth) : Lift.TruthSound ⟨r.config, d⟩ where
  known := by simp [hon.1, hen]
  manual := by rw [htruth]; exact h.manual
  enabled := by rw [htruth]; exact h.enabled
  off h' := (h'.elim hon.1 hon.2).elim

theorem handOver_performable (c : CaseNo) (serial : BitVec 16) (moves : Bool) (before after : LiftState)
    (previous : Option CarRecord) (now : CarRecord) (presses : Nat) :
    ∀ j ∈ handOver c serial moves before after previous now presses, s.Performable j := by
  unfold handOver
  refine List.forall_mem_append.mpr ⟨List.forall_mem_append.mpr ⟨List.forall_mem_cons.mpr ⟨trivial, ?_⟩, ?_⟩, ?_⟩
  · exact List.forall_mem_map.mpr fun _ _ => trivial
  · split
    · exact List.forall_mem_singleton.mpr trivial
    · exact List.forall_mem_nil _
  · split
    · exact List.forall_mem_nil _
    · exact List.forall_mem_singleton.mpr trivial

theorem toldAtReport_performable (r : Lift) (new : CauseSet) : ∀ j ∈ toldAtReport i r new, s.Performable j := by
  unfold toldAtReport
  split
  · exact List.forall_mem_nil _
  · exact List.forall_mem_singleton.mpr trivial

theorem takenReport_handles (r : CarReport) (hen : (s.lift i).config.enabled = true) : s.Handles (takenReport s i r) := by
  unfold takenReport
  dsimp only
  refine ⟨?_, ?_⟩
  · refine State.Carries.trans (.setDyn fun h => ?_) (storeTruth_carries _ i)
    exact h.inState hen (liftStateOf_on _ _ _ _ _) rfl
  · refine List.forall_mem_append.mpr ⟨List.forall_mem_append.mpr ⟨List.forall_mem_append.mpr ⟨?_, ?_⟩, ?_⟩, ?_⟩
    · exact toldAtReport_performable s i _ _
    · split
      · exact handOver_performable s _ _ _ _ _ _ _ _
      · exact List.forall_mem_nil _
    · exact raiseIf_performable s i _
    · exact List.forall_mem_singleton.mpr trivial

theorem silentSlot_handles (hen : (s.lift i).config.enabled = true) : s.Handles (silentSlot s i) := by
  unfold silentSlot
  dsimp only
  refine ⟨?_, ?_⟩
  · refine State.Carries.trans (.setDyn fun h => ?_) (storeTruth_carries _ i)
    split
    · exact h.inState hen ⟨nofun, nofun⟩ rfl
    · exact h.congr rfl rfl rfl
  · refine List.forall_mem_append.mpr ⟨List.forall_mem_append.mpr ⟨?_, ?_⟩, ?_⟩
    · exact toldIf_performable s i _ _
    · exact raiseIf_performable s i _
    · exact changeJobs_performable s i _ _

/-! ### Entries from outside (R28) -/

/-- A lift record with the dynamic part of an entry from outside (R28). -/
theorem Lift.truthSound_entered {g : LiftConfig} {st : LiftState} (h : st = .disabled ↔ g.enabled = false) :
    Lift.TruthSound ⟨g, .entered st⟩ where
  known := h
  manual := rfl
  enabled c hc := by cases c <;> exact absurd hc Bool.false_ne_true
  off _ := rfl

theorem enterState_jobs (st : LiftState) : ∀ j ∈ (enterState s i st).2, s.Performable j :=
  List.forall_mem_append.mpr ⟨toldIf_performable s i _ _, changeJobs_performable s i _ _⟩

theorem enterLift_handles {st : LiftState} (hst : st ≠ .disabled) : s.Handles (enterLift s i st) := by
  unfold enterLift
  split
  · next hen => exact ⟨.setDyn fun _ => Lift.truthSound_entered (by simp [hst, hen]), enterState_jobs s i st⟩
  · exact .nil (.refl s)

theorem resetLift_handles : s.Handles (resetLift s i) := by
  unfold resetLift
  dsimp only
  split
  · next hen => exact ⟨.setDyn fun h => h.inState hen (by simp) rfl, changeJobs_performable s i _ _⟩
  · exact .nil (.refl s)

end

/-! ### Crew requests (chapter 5) -/

section

variable (s : State)

/-- A lift moves to the bottom of the rotation order (R92). -/
theorem State.toBottom_carries (i : LiftIdx) : s.Carries (s.toBottom i) where
  tables := rfl
  truth _ := id
  rotation h := by
    have hmem : i ∈ s.rotation := h.mem_iff.mpr (List.mem_finRange i)
    exact ((List.perm_append_singleton i _).trans (List.perm_cons_erase hmem).symm).trans h

variable (k : CrewNo) {reply : Reply} (hreply : ∀ t code named info, (reply t code named info).outline = t.outline)

include hreply

theorem noOfferReply_keeps : s.Keeps (noOfferReply s k reply) := by
  unfold noOfferReply
  split <;> exact .nil (hreply _ _ _ _)

theorem dutyOffRequest_keeps : s.Keeps (dutyOffRequest s k reply) := by
  unfold dutyOffRequest
  dsimp only
  split <;> exact .nil (by simp [hreply])

theorem jobRequest_keeps : s.Keeps (jobRequest s k reply) := by
  unfold jobRequest
  split
  · exact .nil (hreply _ _ _ _)
  · split
    · exact .nil (by simp [hreply, State.makeOffer])
    · exact .nil (hreply _ _ _ _)

omit hreply in
theorem State.assign_outline (c : CaseNo) : (s.assign k c).outline = s.outline := State.setCrewDyn_outline _ _ _

omit hreply in
@[simp] theorem becomeLate_outline (c : CaseNo) : (becomeLate s c).outline = s.outline := State.notify_outline _ _ _ _

theorem acceptOffer_handles (c : CaseNo) : s.Handles (acceptOffer s k c reply) := by
  have hbottom : s.Carries (if (s.clearOffer k).settings.tieMode = .rotate
      then (s.clearOffer k).toBottom ((s.clearOffer k).caseAt c).lift else s.clearOffer k) := by
    have hclear : s.Carries (s.clearOffer k) := .of_outline (s.setCrewDyn_outline _ _)
    split
    · exact hclear.trans (State.toBottom_carries _ _)
    · exact hclear
  unfold acceptOffer
  dsimp only
  generalize (if (s.clearOffer k).settings.tieMode = .rotate
      then (s.clearOffer k).toBottom ((s.clearOffer k).caseAt c).lift else s.clearOffer k) = u at hbottom ⊢
  refine State.Handles.of_carries ?_ hbottom
  split
  · exact ((closeCase_keeps _ c .acknowledged).of_outline (hreply _ _ _ _)).handles
  · refine State.Keeps.handles (.nil ?_)
    split <;> simp [hreply, State.assign_outline]

theorem acceptRequest_handles (serial : Option (BitVec 16)) : s.Handles (acceptRequest s k serial reply) := by
  unfold acceptRequest
  split
  · split
    · exact acceptOffer_handles s k hreply _
    · exact (State.Keeps.nil (hreply _ _ _ _)).handles
  · exact (noOfferReply_keeps s k hreply).handles

omit hreply in
@[simp] theorem State.declineOffer_outline (c : CaseNo) : (s.declineOffer k c).outline = s.outline :=
  s.setCrewDyn_outline _ _

omit hreply in
@[simp] theorem givenUp_outline (c : CaseNo) (kind : NoticeKind) : (givenUp s k c kind).outline = s.outline := by
  simp [givenUp]

theorem declineRequest_keeps (serial : Option (BitVec 16)) : s.Keeps (declineRequest s k serial reply) := by
  unfold declineRequest
  split
  · split
    · exact .nil (by simp [hreply])
    · exact .nil (hreply _ _ _ _)
  · exact noOfferReply_keeps s k hreply

theorem arrivedRequest_keeps (serial : Option (BitVec 16)) : s.Keeps (arrivedRequest s k serial reply) := by
  have hrefused : ∀ code, s.Keeps (reply s code none none, []) := fun code => .nil (hreply _ _ _ _)
  unfold arrivedRequest
  dsimp only
  split
  · split
    · split
      · exact judgeArrival_keeps s k _ hreply
      · exact hrefused _
    · exact hrefused _
  · split
    · exact hrefused _
    · split
      · exact judgeArrival_keeps s k _ hreply
      · exact hrefused _

theorem voiceRequest_keeps (serial : Option (BitVec 16)) : s.Keeps (voiceRequest s k serial reply) := by
  unfold voiceRequest
  split
  · exact .one (hreply _ _ _ _) trivial
  · exact .nil (hreply _ _ _ _)

theorem standDownRequest_keeps (serial : Option (BitVec 16)) : s.Keeps (standDownRequest s k serial reply) := by
  unfold standDownRequest
  split
  · exact .one (hreply _ _ _ _) trivial
  · exact .nil (hreply _ _ _ _)

theorem requestKind_handles (request : CrewRequest) (serial : Option (BitVec 16)) :
    s.Handles (requestKind s k request serial reply) := by
  cases request with
  | dutyOn => exact (State.Keeps.nil (by simp [hreply])).handles
  | dutyOff => exact (dutyOffRequest_keeps s k hreply).handles
  | sweepOn => exact (State.Keeps.nil (by simp [hreply])).handles
  | sweepOff => exact (State.Keeps.nil (by simp [hreply])).handles
  | job => exact (jobRequest_keeps s k hreply).handles
  | accept => exact acceptRequest_handles s k hreply serial
  | decline => exact (declineRequest_keeps s k hreply serial).handles
  | arrived => exact (arrivedRequest_keeps s k hreply serial).handles
  | voice => exact (voiceRequest_keeps s k hreply serial).handles
  | standDown => exact (standDownRequest_keeps s k hreply serial).handles

omit hreply in
theorem crewRequest_handles (route : Route) (tag : Nat) (request : Option CrewRequest) (serial : Option (BitVec 16)) :
    s.Handles (crewRequest s route tag request serial) := by
  have hroute : ∀ j ∈ routeJobs route, s.Performable j := by
    cases route with
    | trunk o => exact List.forall_mem_nil _
    | panel p => exact List.forall_mem_singleton.mpr trivial
  unfold crewRequest
  split
  · exact ⟨.of_outline (s.respond_outline _ _ _ _ _), hroute⟩
  · dsimp only
    split
    · exact ⟨.of_outline (s.reply_outline _ _ _ _ _ _), hroute⟩
    · split
      · exact ⟨.of_outline (s.reply_outline _ _ _ _ _ _), hroute⟩
      · exact (requestKind_handles s _ (fun t _ _ _ => t.reply_outline _ _ _ _ _ _) _ serial).with_jobs hroute

omit hreply in
theorem panelRequest_handles (p : PanelIdx) (toggle : Bool) (request : Option CrewRequest) (serial : Option (BitVec 16)) :
    s.Handles (panelRequest s p toggle request serial) := by
  have hpanel : s.Carries (s.setPanelDyn p { (s.panel p).dyn with toggle := some toggle }) :=
    .of_outline (s.setPanelDyn_outline _ _)
  unfold panelRequest
  dsimp only
  split
  · split
    · exact .nil hpanel
    · exact (crewRequest_handles _ _ _ _ _).of_carries hpanel
  · exact .nil hpanel

end

/-! ### Handlings -/

/-- A job for a case that is still the one it was made for (log 17). -/
theorem State.Keeps.ite {s : State} {b : Bool} {w : Work} (h : s.Keeps w) : s.Keeps (if b then w else (s, [])) := by
  cases b
  · exact .nil rfl
  · exact h

/-- Every job that may be done carries the state over, and hands on jobs that may be done. -/
theorem perform_handles (s : State) {j : Job} (h : s.Performable j) : s.Handles (perform s j) := by
  cases j with
  | start l wake => exact (startLine_keeps s l wake).handles
  | stop l => exact (stopLine_keeps s l).handles
  | lineWork l => exact (lineWork_keeps s l).handles
  | advance l slot => exact (advance_keeps s l slot).handles
  | delivered c serial p => exact (commandDelivered_keeps s c p).ite.handles
  | lost c serial owner => exact (commandLost_keeps s c owner).ite.handles
  | takenReport i r => exact takenReport_handles s i r h
  | silentSlot i => exact silentSlot_handles s i h
  | truthTold i => exact (truthTold_keeps s i).handles
  | raise i causes => exact (raise_keeps s i causes).handles
  | releaseReport c serial moves => exact (releaseReport_keeps s c moves).ite.handles
  | event c serial e => exact (caseEvent_keeps s c e).ite.handles
  | occupancy c serial => exact (State.Keeps.nil (occupancyChange_outline s c)).ite.handles
  | presses c serial n => exact (State.Keeps.nil (s := s) (t := addPresses s c n) rfl).ite.handles
  | summaryReport i before previous => exact (State.Keeps.nil (summaryAfterReport_outline s i before previous)).handles
  | summaryChange i => exact (State.Keeps.nil (summaryAfterChange_outline s i)).handles
  | go c begun target common => exact (goTo_keeps s c begun target common).handles
  | handoverTest c => exact (State.Keeps.nil (handoverTest_outline s c)).handles
  | clearing c => exact (clearCase_keeps s c .procedure).ite.handles
  | close c reason => exact (closeCase_keeps s c reason).handles
  | arbitrate => exact (arbitrate_keeps s).handles
  | panelLogged p logged => exact (panelLogged_keeps s p logged).handles
  | panelRequest p toggle request serial => exact panelRequest_handles s p toggle request serial
  | panelHold p hold press => exact (panelHold_keeps s p hold press).handles
  | panelInputs p inputs => exact (panelInputs_keeps s p inputs).handles
  | panelSilent p => exact (panelSilent_keeps s p).handles
  | clearPanel p => exact (clearPanel_keeps s p).handles
  | crewLeft p tag => exact (crewLeft_keeps s p tag).handles
  | crewLogin p tag => exact (crewLogin_keeps s p tag).handles
  | loginArrival p k => exact (loginArrival_keeps s p k).handles
  | releaseCrewLeft c p k => exact (releaseCrewLeft_keeps s c p k).handles
  | holdChange c p was hold press => exact (State.Keeps.nil (holdChange_outline s c p was hold press)).handles
  | sharedEval i => exact sharedEval_handles s i
  | releaseReset c l => exact (releaseReset_keeps s c l).handles
  | resetLift i => exact resetLift_handles s i
  | enterLift i st => exact enterLift_handles s i h
  | restartLine l => exact (restartLine_keeps s l).handles

/-- A handling carries over what its work carries over. -/
theorem State.Handles.of_finish {s t : State} {w : Work} (hw : s.Handles w) (h : finish w = .next t) : s.Carries t := by
  refine runJobs_keeps_with s.Carries State.Performable (fun u hu => ?_) (fun u j hu hj => ?_) _ _ _ _ hw.carries
    (fun j hj => (hw.jobs j hj).of_tables hw.carries.tables.symm) h
  · have hkick := (kick_keeps u).handles
    exact ⟨hu.trans hkick.carries, fun j hj => (hkick.jobs j hj).of_tables hkick.carries.tables.symm,
      fun j hj => hj.of_tables hkick.carries.tables.symm⟩
  · have hjob := perform_handles u hj
    exact ⟨hu.trans hjob.carries, fun i hi => (hjob.jobs i hi).of_tables hjob.carries.tables.symm,
      fun i hi => hi.of_tables hjob.carries.tables.symm⟩

end Sys2Proof.Machine
end

section
/-! SUPPORT. What the requests write (chapter 10), and what every command carries over. -/

namespace Sys2Proof.Machine

/-! ### The writes (R163) -/

/-- What an accepted request may have written before its handling goes on: nothing, or a record of its own table (a lift's
forwarding mode by SET_FORWARD). A lift stored has an identity, and a crew a tag, that no other enabled record holds (R25, R85). -/
inductive State.Writes (s : State) : MgmtRequest → State → Prop
  | nothing (r : MgmtRequest) : s.Writes r s
  | lift {index : Nat} {w : LiftWrite} {i : LiftIdx} {g : LiftConfig} {d : LiftDynamic}
      (apart : ∀ j, j ≠ i → (s.lift j).config.enabled = true → (s.lift j).config.identity ≠ g.identity)
      (sound : (s.lift i).TruthSound → Lift.TruthSound ⟨g, d⟩) : s.Writes (.writeLift index w) (s.setLift i ⟨g, d⟩)
  | forwarding {index mode : Nat} (i : LiftIdx) (m : Forwarding) : s.Writes (.setForward index mode)
      (s.setLift i { s.lift i with config := { (s.lift i).config with forwarding := m } })
  | panel {index : Nat} {w : PanelWrite} (p : PanelIdx) (r : Panel) : s.Writes (.writePanel index w) (s.setPanel p r)
  | crew {index : Nat} {w : CrewWrite} {k : CrewNo} {r : Crew}
      (apart : ∀ j, j ≠ k → (s.crew j).config.enabled = true → (s.crew j).config.tag ≠ r.config.tag) :
      s.Writes (.writeCrew index w) (s.setCrew k r)
  | classes {index : Nat} {w : ClassWrite} (x : Vector ClassEntry 5) :
      s.Writes (.writeClass index w) { s with classes := x }
  | travel {index lo hi : Nat} (x : Vector Travel 16) : s.Writes (.writeTravel index lo hi) { s with travel := x }
  | store {index : Nat} {w : StepWrite} (x : Vector StepRecord 256) : s.Writes (.writeStep index w) { s with store := x }
  | settings {index : Nat} {w : SettingsWrite} (x : Settings) :
      s.Writes (.writeSettings index w) { s with settings := x }

section

variable (s : State)

theorem stored_trunk (o : Origin) (clamped : Bool) (echo : AnswerData) : ∃ t, stored s o clamped echo = { s with trunk := t } := by
  unfold stored
  split <;> exact s.answer_trunk _ _ _ _

@[simp] theorem stored_outline (o : Origin) (clamped : Bool) (echo : AnswerData) :
    (stored s o clamped echo).outline = s.outline := by
  obtain ⟨t, ht⟩ := stored_trunk s o clamped echo
  rw [ht]; rfl

theorem answered_keeps (o : Origin) (kind : Byte) (code : AnswerCode) : s.Keeps (answered s o kind code) :=
  .nil (s.answer_outline _ _ _ _)

/-! ### Lift writes (R36) -/

theorem State.setLift_setDyn (i : LiftIdx) (r : Lift) (d : LiftDynamic) :
    (s.setLift i r).setDyn i d = s.setLift i ⟨r.config, d⟩ := by
  simp [State.setDyn]

theorem CauseSet.inter_has (a b : CauseSet) (c : Cause) : (a.inter b).has c = (a.has c && b.has c) := by
  cases c <;> rfl

theorem LiftConfig.enabledCauses_has (g : LiftConfig) (c : Cause) : g.enabledCauses.has c = (g.cause c).enabled := by
  cases c <;> rfl

/-- A lift that stays enabled and loses the causes now disabled (R36). -/
theorem Lift.TruthSound.restricted {r : Lift} (h : r.TruthSound) (hen : r.config.enabled = true) {g : LiftConfig}
    (hg : g.enabled = true) {d : LiftDynamic} (hstate : d.state = r.dyn.state)
    (htruth : d.truth = r.dyn.truth.inter g.enabledCauses) : Lift.TruthSound ⟨g, d⟩ where
  known := by rw [hstate, h.known, hen, hg]
  manual := by
    rw [htruth]
    exact Bool.and_eq_false_iff.mpr (.inl h.manual)
  enabled c hc := by
    rw [htruth, CauseSet.inter_has, LiftConfig.enabledCauses_has] at hc
    exact (Bool.and_eq_true_iff.mp hc).2
  off hoff := by
    rw [hstate] at hoff
    rw [htruth, h.off hoff]
    rfl

/-- An accepted lift write stores the configuration with a dynamic part that is sound with it (R36). -/
theorem applyLift_cases (i : LiftIdx) (g : LiftConfig) : ∃ d, (applyLift s i g).1 = s.setLift i ⟨g, d⟩ ∧
    ((s.lift i).TruthSound → Lift.TruthSound ⟨g, d⟩) ∧ ∀ (t : State), ∀ j ∈ (applyLift s i g).2, t.Performable j := by
  have hwork : ∀ (t : State) (l : LineId) (b : Bool), ∀ j ∈ (if b then [] else [Job.lineWork l]), t.Performable j :=
    fun t l b => by
      cases b
      · exact List.forall_mem_singleton.mpr trivial
      · exact List.forall_mem_nil _
  have henter : ∀ st, (enterState (s.setLift i { s.lift i with config := g }) i st).1 = s.setLift i ⟨g, .entered st⟩ :=
    fun st => s.setLift_setDyn i _ _
  have htold : ∀ (t : State) (st : LiftState),
      ∀ j ∈ (enterState (s.setLift i { s.lift i with config := g }) i st).2, t.Performable j := fun t st =>
    List.forall_mem_append.mpr ⟨toldIf_performable t i _ _, changeJobs_performable t i _ _⟩
  unfold applyLift
  dsimp only
  split
  · next hold hnew => exact ⟨(s.lift i).dyn, rfl, fun h => ⟨by rw [hnew]; simpa [hold] using h.known, h.manual,
      fun c hc => absurd hc (by rw [h.off (.inl (h.known.mpr hold))]; cases c <;> exact Bool.false_ne_true), h.off⟩,
      fun _ => List.forall_mem_nil _⟩
  · next hold hnew =>
    refine ⟨_, henter _, fun _ => Lift.truthSound_entered ?_, fun t => List.forall_mem_append.mpr ⟨htold t _, ?_⟩⟩
    · split <;> simp [hnew]
    · split
      · exact List.forall_mem_nil _
      · exact List.forall_mem_singleton.mpr trivial
  · next hold hnew => exact ⟨_, henter _, fun _ => Lift.truthSound_entered (by simp [hnew]), fun t => htold t _⟩
  · next hold hnew => exact ⟨_, s.setLift_setDyn i _ _, fun h => h.restricted hold hnew rfl rfl,
      fun t => toldIf_performable t i _ _⟩

theorem State.identityTaken_eq_false {s : State} {i : LiftIdx} {identity : Nat} : s.identityTaken i identity = false ↔
    ∀ j, j ≠ i → (s.lift j).config.enabled = true → (s.lift j).config.identity ≠ identity := by
  simp [State.identityTaken]

theorem LiftWrite.config_identity {w : LiftWrite} {g : LiftConfig} (h : w.config = some g) : g.identity = w.identity := by
  unfold LiftWrite.config at h
  split at h
  · split at h
    · exact (Option.some.inj h) ▸ rfl
    · exact absurd h nofun
  · exact absurd h nofun

/-- Work that writes at most what the request may write, and then carries it over. -/
def State.Does (r : MgmtRequest) (w : Work) : Prop := ∃ u, s.Writes r u ∧ u.Handles w

variable {s}

theorem State.Handles.does {w : Work} (h : s.Handles w) (r : MgmtRequest) : s.Does r w := ⟨s, .nothing r, h⟩
theorem State.Keeps.does {w : Work} (h : s.Keeps w) (r : MgmtRequest) : s.Does r w := h.handles.does r

theorem writeLiftRequest_does (o : Origin) (index : Nat) (w : LiftWrite) :
    s.Does (.writeLift index w) (writeLiftRequest s o index w) := by
  have hrefused : ∀ code, s.Does (.writeLift index w) (answered s o kindWrite code) :=
    fun code => (answered_keeps s o _ code).does _
  unfold writeLiftRequest
  split
  · exact hrefused _
  · split
    · exact hrefused _
    · next i _ =>
      split
      · exact hrefused _
      · split
        · exact hrefused _
        · next g hg =>
          split
          · exact hrefused _
          · next hfree =>
            rw [Bool.not_eq_true, State.identityTaken_eq_false, ← LiftWrite.config_identity hg] at hfree
            obtain ⟨t, ht⟩ := stored_trunk s o (w.clamps g) (.liftEcho g)
            rw [ht]
            obtain ⟨d, hstate, hsound, hjobs⟩ := applyLift_cases { s with trunk := t } i g
            exact ⟨s.setLift i ⟨g, d⟩, .lift hfree hsound, .of_outline (by rw [hstate]; rfl), hjobs _⟩

/-! ### Panel and crew writes (R37, R86) -/

theorem crewsLeaveJobs_performable (t u : State) (ps : List PanelIdx) : ∀ j ∈ crewsLeaveJobs t ps, u.Performable j := by
  intro j hj
  obtain ⟨p, _, hj⟩ := List.mem_flatMap.mp hj
  split at hj
  · rw [List.mem_singleton.mp hj]
    trivial
  · exact absurd hj List.not_mem_nil

theorem applyPanel_cases (s : State) (p : PanelIdx) (g : PanelConfig) : ∃ r, (applyPanel s p g).1 = s.setPanel p r ∧
    ∀ (t : State), ∀ j ∈ (applyPanel s p g).2, t.Performable j := by
  unfold applyPanel
  dsimp only
  split
  · exact ⟨_, rfl, fun _ => List.forall_mem_nil _⟩
  · refine ⟨_, rfl, fun t => List.forall_mem_cons.mpr ⟨trivial, ?_⟩⟩
    split
    · exact List.forall_mem_nil _
    · exact List.forall_mem_singleton.mpr trivial
  · exact ⟨_, rfl, fun t => List.forall_mem_append.mpr ⟨crewsLeaveJobs_performable _ _ _, sharedJobs_performable t _ _⟩⟩
  · exact ⟨_, rfl, fun t => sharedJobs_performable t _ _⟩

theorem writePanelRequest_does (o : Origin) (index : Nat) (w : PanelWrite) :
    s.Does (.writePanel index w) (writePanelRequest s o index w) := by
  have hrefused : ∀ code, s.Does (.writePanel index w) (answered s o kindWrite code) :=
    fun code => (answered_keeps s o _ code).does _
  unfold writePanelRequest
  split
  · exact hrefused _
  · next p _ =>
    split
    · exact hrefused _
    · split
      · exact hrefused _
      · next g _ =>
        obtain ⟨t, ht⟩ := s.answer_trunk o kindWrite .ok .none
        rw [ht]
        obtain ⟨r, hstate, hjobs⟩ := applyPanel_cases { s with trunk := t } p g
        exact ⟨s.setPanel p r, .panel p r, .of_outline (by rw [hstate]; rfl), hjobs _⟩

theorem State.tagTaken_eq_false {k : CrewNo} {tag : Nat} : s.tagTaken k tag = false ↔
    ∀ j, j ≠ k → (s.crew j).config.enabled = true → (s.crew j).config.tag ≠ tag := by
  simp [State.tagTaken]

theorem CrewWrite.config_tag {w : CrewWrite} {g : CrewConfig} (h : w.config = some g) : g.tag = w.tag := by
  unfold CrewWrite.config at h
  split at h
  · split at h
    · exact (Option.some.inj h) ▸ rfl
    · exact absurd h nofun
  · exact absurd h nofun

theorem writeCrewRequest_does (o : Origin) (index : Nat) (w : CrewWrite) :
    s.Does (.writeCrew index w) (writeCrewRequest s o index w) := by
  have hrefused : ∀ code, s.Does (.writeCrew index w) (answered s o kindWrite code) :=
    fun code => (answered_keeps s o _ code).does _
  unfold writeCrewRequest
  split
  · exact hrefused _
  · split
    · exact hrefused _
    · next k _ =>
      split
      · exact hrefused _
      · split
        · exact hrefused _
        · next g hg =>
          split
          · exact hrefused _
          · next hfree =>
            rw [Bool.not_eq_true, State.tagTaken_eq_false, ← CrewWrite.config_tag hg] at hfree
            obtain ⟨t, ht⟩ := stored_trunk s o (g.post.val != w.post) (.crewEcho g)
            rw [ht]
            exact ⟨s.setCrew k _, .crew (r := ⟨g, _⟩) hfree, .nil (.of_outline rfl)⟩

/-! ### The other tables (R60, R91, R109, R164, R27) -/

theorem writeClassRequest_does (o : Origin) (index : Nat) (w : ClassWrite) :
    s.Does (.writeClass index w) (writeClassRequest s o index w) := by
  have hrefused : ∀ code, s.Does (.writeClass index w) (answered s o kindWrite code) :=
    fun code => (answered_keeps s o _ code).does _
  unfold writeClassRequest
  split
  · exact hrefused _
  · split
    · exact hrefused _
    · split
      · exact hrefused _
      · exact ⟨_, .classes _, (State.Keeps.nil (stored_outline _ _ _ _)).handles⟩

theorem writeTravelRequest_does (o : Origin) (index lo hi : Nat) :
    s.Does (.writeTravel index lo hi) (writeTravelRequest s o index lo hi) := by
  unfold writeTravelRequest
  split
  · exact (answered_keeps s o _ _).does _
  · exact ⟨_, .travel _, (State.Keeps.nil (stored_outline _ _ _ _)).handles⟩

theorem writeStepRequest_does (o : Origin) (index : Nat) (w : StepWrite) :
    s.Does (.writeStep index w) (writeStepRequest s o index w) := by
  unfold writeStepRequest
  split
  · exact (answered_keeps s o _ _).does _
  · split
    · exact (answered_keeps s o _ _).does _
    · exact ⟨_, .store _, (State.Keeps.nil (State.answer_outline _ _ _ _ _)).handles⟩

theorem writeSettingsRequest_does (o : Origin) (index : Nat) (w : SettingsWrite) :
    s.Does (.writeSettings index w) (writeSettingsRequest s o index w) := by
  unfold writeSettingsRequest
  split
  · exact (answered_keeps s o _ _).does _
  · split
    · exact (answered_keeps s o _ _).does _
    · exact ⟨_, .settings _, .of_outline (stored_outline _ _ _ _), List.forall_mem_map.mpr fun _ _ => trivial⟩

theorem setForwardRequest_does (o : Origin) (index mode : Nat) :
    s.Does (.setForward index mode) (setForwardRequest s o index mode) := by
  unfold setForwardRequest
  split
  · exact (answered_keeps s o _ _).does _
  · exact (answered_keeps s o _ _).does _
  · next m i _ _ => exact ⟨_, .forwarding i m, (answered_keeps _ o _ _).handles⟩

/-! ### Requests on lines and cases, and the warm restart (R165 to R171) -/

theorem readRequest_keeps (o : Origin) (table index : Nat) : s.Keeps (readRequest s o table index) := by
  unfold readRequest
  split
  · exact answered_keeps s o _ _
  · split
    · exact .nil (s.answer_outline _ _ _ _)
    · exact answered_keeps s o _ _

theorem enterLifts_performable (t : State) (l : LineId) {st : LiftState} (h : st ≠ .disabled) :
    ∀ j ∈ (liftsOf l).map (.enterLift · st), t.Performable j :=
  List.forall_mem_map.mpr fun _ _ => h

theorem lineEnableRequest_keeps (o : Origin) (line : Nat) : s.Keeps (lineEnableRequest s o line) := by
  unfold lineEnableRequest
  split
  · exact answered_keeps s o _ _
  · refine ⟨s.answer_outline _ _ _ _, ?_⟩
    dsimp only
    split
    · exact List.forall_mem_cons.mpr ⟨trivial, List.forall_mem_append.mpr
        ⟨enterLifts_performable s _ (by decide), List.forall_mem_map.mpr fun _ _ => trivial⟩⟩
    · exact List.forall_mem_nil _

theorem lineDisableRequest_keeps (o : Origin) (line : Nat) : s.Keeps (lineDisableRequest s o line) := by
  unfold lineDisableRequest
  split
  · exact answered_keeps s o _ _
  · split
    · exact answered_keeps s o _ _
    · split
      · exact answered_keeps s o _ _
      · exact ⟨s.answer_outline _ _ _ _, List.forall_mem_append.mpr ⟨List.forall_mem_append.mpr
          ⟨enterLifts_performable s _ (by decide), crewsLeaveJobs_performable _ _ _⟩,
          List.forall_mem_map.mpr fun _ _ => trivial⟩⟩

theorem lineResetRequest_keeps (o : Origin) (line : Nat) : s.Keeps (lineResetRequest s o line) := by
  unfold lineResetRequest
  split
  · exact answered_keeps s o _ _
  · split
    · exact answered_keeps s o _ _
    · exact ⟨s.answer_outline _ _ _ _, List.forall_mem_append.mpr ⟨List.forall_mem_append.mpr ⟨List.forall_mem_append.mpr
        ⟨List.forall_mem_map.mpr fun _ _ => trivial, List.forall_mem_map.mpr fun _ _ => trivial⟩,
        List.forall_mem_map.mpr fun _ _ => trivial⟩, List.forall_mem_singleton.mpr trivial⟩⟩

theorem setBottomRequest_handles (o : Origin) (index : Nat) : s.Handles (setBottomRequest s o index) := by
  unfold setBottomRequest
  split
  · exact (answered_keeps s o _ _).handles
  · next i _ => exact (answered_keeps _ o _ _).handles.of_carries (s.toBottom_carries i)

theorem surveyRequest_keeps (o : Origin) (crew : Nat) : s.Keeps (surveyRequest s o crew) := by
  unfold surveyRequest
  split
  · exact answered_keeps s o _ _
  · exact .nil (s.answer_outline _ _ _ _)

theorem caseOpenRequest_keeps (o : Origin) (identity : Nat) : s.Keeps (caseOpenRequest s o identity) := by
  unfold caseOpenRequest
  split
  · exact answered_keeps s o _ _
  · split
    · exact answered_keeps s o _ _
    · exact (raise_keeps _ _ _).of_outline (s.answer_outline _ _ _ _)

theorem caseCloseRequest_keeps (o : Origin) (serial : BitVec 16) : s.Keeps (caseCloseRequest s o serial) := by
  unfold caseCloseRequest
  split
  · exact answered_keeps s o _ _
  · exact (closeCase_keeps _ _ _).of_outline (s.answer_outline _ _ _ _)

theorem readCaseRequest_keeps (o : Origin) (record : Nat) : s.Keeps (readCaseRequest s o record) := by
  unfold readCaseRequest
  split
  · exact answered_keeps s o _ _
  · exact .nil (s.answer_outline _ _ _ _)

/-- A warm restart keeps the tables, and every lift enters a state of R29 with no truth (R171). -/
theorem State.restarted_carries (s : State) : s.Carries s.restarted := by
  have hlift : ∀ i, s.restarted.lift i = ⟨(s.lift i).config, .entered (s.restartState i)⟩ := fun i => getElem_tab _ _ _
  have hpanel : ∀ p, (s.restarted.panel p).config = (s.panel p).config := fun p => by
    simp [State.panel, State.restarted]
  have hcrew : ∀ k, (s.restarted.crew k).config = (s.crew k).config := fun k => by
    simp [State.crew, State.restarted, Crew.restarted]
  refine ⟨?_, fun i _ => ?_, id⟩
  · simp only [State.tables, hlift, hpanel, hcrew]
    rfl
  · rw [hlift]
    refine Lift.truthSound_entered ?_
    unfold State.restartState
    cases (s.lift i).config.enabled
    · simp
    · simp only [Bool.not_true, Bool.false_eq_true, if_false]
      split <;> simp

theorem warmRestartRequest_handles (o : Origin) (force : Nat) : s.Handles (warmRestartRequest s o force) := by
  have hrestart : s.restarted.Keeps (restart s o) :=
    ⟨by simp [restart], List.forall_mem_map.mpr fun _ _ => trivial⟩
  unfold warmRestartRequest
  split
  · exact (answered_keeps s o _ _).handles
  · split
    · exact (answered_keeps s o _ _).handles
    · exact hrestart.handles.of_carries s.restarted_carries

/-- A request that decodes writes at most its own table, and carries the rest over. -/
theorem manage_does (s : State) (o : Origin) (r : MgmtRequest) : s.Does r (manage s o r) := by
  cases r with
  | read table index => exact (readRequest_keeps o table index).does _
  | writeLift index w => exact writeLiftRequest_does o index w
  | writePanel index w => exact writePanelRequest_does o index w
  | writeCrew index w => exact writeCrewRequest_does o index w
  | writeClass index w => exact writeClassRequest_does o index w
  | writeTravel index lo hi => exact writeTravelRequest_does o index lo hi
  | writeStep index w => exact writeStepRequest_does o index w
  | writeSettings index w => exact writeSettingsRequest_does o index w
  | setForward index mode => exact setForwardRequest_does o index mode
  | lineEnable line => exact (lineEnableRequest_keeps o line).does _
  | lineDisable line => exact (lineDisableRequest_keeps o line).does _
  | lineReset line => exact (lineResetRequest_keeps o line).does _
  | setBottom index => exact (setBottomRequest_handles o index).does _
  | survey crew => exact (surveyRequest_keeps o crew).does _
  | caseOpen identity => exact (caseOpenRequest_keeps o identity).does _
  | caseClose serial => exact (caseCloseRequest_keeps o serial).does _
  | readCase record => exact (readCaseRequest_keeps o record).does _
  | readCounters => exact (State.Keeps.nil (s.answer_outline _ _ _ _)).does _
  | warmRestart force => exact (warmRestartRequest_handles o force).does _

end

/-! ### Frames (R148, R156) -/

section

variable (s : State)

@[simp] theorem answerControl_outline (o : Origin) (code : AnswerCode) : (answerControl s o code).outline = s.outline :=
  State.answer_outline _ _ _ _ _

theorem controlRequest_keeps (o : Origin) (identity : Nat) (cmd : CarCommand) : s.Keeps (controlRequest s o identity cmd) := by
  unfold controlRequest
  dsimp only
  split
  · exact .one (answerControl_outline s o _) trivial
  · exact .nil (answerControl_outline s o _)

theorem controlFrame_keeps (o : Origin) (body : List Byte) : s.Keeps (controlFrame s o body) := by
  unfold controlFrame
  split
  · exact controlRequest_keeps s o _ _
  · exact .nil (answerControl_outline s o _)

theorem State.drawFree_outline : s.drawFree.2.outline = s.outline := rfl

theorem crewFrame_handles (o : Origin) (body : List Byte) : s.Handles (crewFrame s o body) := by
  unfold crewFrame
  split
  · exact crewRequest_handles s _ _ _ _
  · exact ((State.Keeps.nil (State.offerAnswer_outline _ _ _)).of_outline s.drawFree_outline).handles

theorem offerForward_outline (bytes : List Byte) : (offerForward s bytes).outline = s.outline := by
  unfold offerForward
  dsimp only
  split <;> rfl

/-- A frame received on NEAR carries the state over, or brings a request (R148). -/
theorem nearFrame_cases (bytes : List Byte) : s.Handles (nearFrame s bytes) ∨
    ∃ v o r, s.Carries v ∧ nearFrame s bytes = manage v o r := by
  have htake : ∀ (v : State) (f : TrunkFrame), s.Carries v → s.Handles (takeFrame v f) ∨
      ∃ u o r, s.Carries u ∧ takeFrame v f = manage u o r := fun v f hv => by
    unfold takeFrame
    dsimp only
    split
    · unfold mgmtFrame
      split
      · next r _ => exact .inr ⟨v, _, r, hv, rfl⟩
      · split
        · exact .inl ((answered_keeps v _ _ _).handles.of_carries hv)
        · exact .inl (((answered_keeps _ _ _ _).of_outline v.drawFree_outline).handles.of_carries hv)
    · exact .inl ((controlFrame_keeps v _ _).handles.of_carries hv)
    · exact .inl ((crewFrame_handles v _ _).of_carries hv)
    · exact .inl ((State.Keeps.nil (s := v) (t := countNearKind v) rfl).handles.of_carries hv)
  unfold nearFrame
  split
  · split
    · exact .inl (State.Keeps.nil (s := s) (t := countNearCheck s) rfl).handles
    · split
      · exact htake _ _ (.refl s)
      · split
        · exact htake _ _ (.of_outline (offerForward_outline s bytes))
        · exact .inl (State.Keeps.nil (offerForward_outline s bytes)).handles
  · exact .inl (State.Keeps.nil rfl).handles

theorem farFrame_outline (bytes : List Byte) : (farFrame s bytes).outline = s.outline := by
  unfold farFrame
  split
  · split
    · rfl
    · unfold offerRelay
      dsimp only
      split <;> rfl
  · rfl

theorem setFar_outline (up : Bool) : (setFar s up).outline = s.outline := by
  unfold setFar
  split
  · rfl
  · split <;> rfl

/-! ### Windows and ticks (R7, R142) -/

theorem closeWindow_handles (l : LineId) (slot : Slot) (a : SlotAnswer) : s.Handles (closeWindow s l slot a) := by
  have hcar : ∀ i, ∀ j ∈ carJobs s i a, s.Performable j := fun i => by
    unfold carJobs
    split
    · split
      · next hen => exact List.forall_mem_singleton.mpr hen
      · exact List.forall_mem_nil _
    · exact List.forall_mem_nil _
    · split
      · next hen => exact List.forall_mem_singleton.mpr hen
      · exact List.forall_mem_nil _
  have hpanel : ∀ p, ∀ j ∈ panelSlotJobs s p a, s.Performable j := fun p => by
    unfold panelSlotJobs
    split
    · exact List.forall_mem_nil _
    · split
      · simp [panelJobs, State.Performable]
      · exact List.forall_mem_nil _
    · split
      · exact List.forall_mem_singleton.mpr trivial
      · exact List.forall_mem_nil _
  unfold closeWindow slotJobs
  refine ⟨.of_outline ?_, List.forall_mem_append.mpr ⟨?_, List.forall_mem_singleton.mpr trivial⟩⟩
  · dsimp only
    split <;> rfl
  · split
    · exact hcar _
    · exact hpanel _

theorem State.tick_outline : s.tick.outline = s.outline := s.crews_outline fun _ => rfl

theorem State.carry_outline : s.carry.outline = s.outline := by
  unfold State.carry
  split
  · exact s.tick_outline
  · rfl

theorem State.clockPeriod_outline : s.clockPeriod.outline = s.outline := by
  unfold State.clockPeriod
  split
  · exact s.carry_outline
  · rfl

theorem collide_outline (l : LineId) : (collide s l).outline = s.outline := by
  unfold collide
  dsimp only
  split <;> rfl

end

/-! ### Every command -/

/-- The command that brings a request (R160). -/
def MgmtRequest.command (o : Origin) : MgmtRequest → Instr
  | .read table index => .read o table index
  | .writeLift index w => .writeLift o index w
  | .writePanel index w => .writePanel o index w
  | .writeCrew index w => .writeCrew o index w
  | .writeClass index w => .writeClass o index w
  | .writeTravel index lo hi => .writeTravel o index lo hi
  | .writeStep index w => .writeStep o index w
  | .writeSettings index w => .writeSectorSettings o index w
  | .setForward index mode => .setForward o index mode
  | .lineEnable line => .lineEnable o line
  | .lineDisable line => .lineDisable o line
  | .lineReset line => .lineReset o line
  | .setBottom index => .setBottom o index
  | .survey crew => .survey o crew
  | .caseOpen identity => .caseOpen o identity
  | .caseClose serial => .caseClose o serial
  | .readCase record => .readCase o record
  | .readCounters => .readCounters o
  | .warmRestart force => .warmRestart o force

theorem exec_command (s : State) (o : Origin) (r : MgmtRequest) : exec (r.command o) s = finish (manage s o r) := by
  cases r <;> rfl

/-- What a command but a power-on reset comes to: it carries the state over, or it brings a request, by its own command or in a NEAR
frame, which writes at most what is its own. -/
inductive State.Executes (s t : State) : Instr → Prop
  | carried {c : Instr} (h : s.Carries t) : s.Executes t c
  | written {c : Instr} {v u : State} {o : Origin} {r : MgmtRequest} (hasked : c = r.command o ∨ ∃ b, c = .nearFrameReceived b)
      (hbefore : s.Carries v) (hwrites : v.Writes r u) (hafter : u.Carries t) : s.Executes t c

section

variable {s t : State}

theorem State.Handles.executes {w : Work} (hw : s.Handles w) {c : Instr} (h : finish w = .next t) : s.Executes t c :=
  .carried (hw.of_finish h)

theorem State.Keeps.executes {w : Work} (hw : s.Keeps w) {c : Instr} (h : finish w = .next t) : s.Executes t c :=
  hw.handles.executes h

theorem State.Executes.next {u : State} {c : Instr}
    (h : (Host.Outcome.next u : Host.Outcome State Fault Refusal) = .next t) (hu : u.outline = s.outline) : s.Executes t c := by
  obtain rfl := Host.Outcome.next.inj h
  exact .carried (.of_outline hu)

theorem executes_of_manage {v : State} {o : Origin} {r : MgmtRequest} {c : Instr} (hv : s.Carries v)
    (hc : c = r.command o ∨ ∃ b, c = .nearFrameReceived b) (h : finish (manage v o r) = .next t) : s.Executes t c := by
  obtain ⟨u, hwrites, hw⟩ := manage_does v o r
  exact .written hc hv hwrites (hw.of_finish h)

theorem executes_command {o : Origin} {r : MgmtRequest} (h : exec (r.command o) s = .next t) : s.Executes t (r.command o) :=
  executes_of_manage (.refl s) (.inl rfl) (exec_command s o r ▸ h)

/-- An expiry that acts only where its timer is due (R145, log 1). -/
theorem State.Handles.executes_ite {b : Prop} [Decidable b] {w : Work} (hw : s.Handles w) {c : Instr}
    (h : (if b then finish w else .next s) = .next t) : s.Executes t c := by
  split at h
  · exact hw.executes h
  · exact .next h rfl

theorem exec_executes {c : Instr} (h : exec c s = .next t) (hc : c ≠ .powerOnReset) : s.Executes t c := by
  cases c with
  | powerOnReset => exact absurd rfl hc
  | strapChange address => exact .next h rfl
  | tickEnd =>
    refine .next h ?_
    split
    · rfl
    · exact s.tick_outline
  | intervalTimerExpiry l =>
    refine State.Handles.executes_ite (s := s) (State.Keeps.handles ⟨?_, ?_⟩) h
    · rfl
    dsimp only
    split
    · exact List.forall_mem_singleton.mpr trivial
    · exact List.forall_mem_nil _
  | ceilingTimerExpiry l =>
    refine State.Handles.executes_ite (s := s) (State.Keeps.handles ⟨?_, ?_⟩) h
    · rfl
    dsimp only
    split
    · exact List.forall_mem_singleton.mpr trivial
    · exact List.forall_mem_nil _
  | escalationTimerExpiry c => exact (escalate_keeps s c).handles.executes_ite h
  | offerTimerExpiry k =>
    change execOfferTimerExpiry k s = _ at h
    unfold execOfferTimerExpiry at h
    split at h
    · exact (State.Keeps.nil (by simp [offerExpired])).handles.executes_ite h
    · exact .next h rfl
  | minTimerExpiry c =>
    change execMinTimerExpiry c s = _ at h
    unfold execMinTimerExpiry at h
    dsimp only at h
    split at h <;> exact .next h rfl
  | maxTimerExpiry c =>
    refine State.Handles.executes_ite (State.Keeps.nil (s := s) ?_).handles h
    split
    · exact becomeLate_outline _ c
    · rfl
  | stepTimerExpiry c => exact (stepExpired_keeps s c).handles.executes_ite h
  | settleTimerExpiry c =>
    change execSettleTimerExpiry c s = _ at h
    unfold execSettleTimerExpiry at h
    split at h
    · exact (endRelease_keeps s c _).handles.executes_ite h
    · exact .next h rfl
  | answerWindowClose l held =>
    change execAnswerWindowClose l held s = _ at h
    unfold execAnswerWindowClose at h
    dsimp only at h
    split at h
    · exact (closeWindow_handles s l _ _).executes h
    · exact .next h rfl
  | wake l burst =>
    change execWake l burst s = _ at h
    unfold execWake at h
    split at h
    · exact (State.Keeps.one (j := .start l _) rfl trivial).executes h
    · exact .next h (collide_outline s l)
  | wakeBurstInCycle l => exact .next h (collide_outline s l)
  | nearFrameReceived bytes =>
    change finish (nearFrame s bytes) = _ at h
    rcases nearFrame_cases s bytes with hw | ⟨v, o, r, hv, hr⟩
    · exact hw.executes h
    · rw [hr] at h
      exact executes_of_manage hv (.inr ⟨bytes, rfl⟩) h
  | farFrameReceived bytes => exact (State.Keeps.nil (farFrame_outline s bytes)).executes h
  | linkStateChange side up =>
    cases side with
    | near => exact (State.Keeps.nil (s := s) (t := setNear s up) rfl).executes h
    | far => exact (State.Keeps.nil (setFar_outline s up)).executes h
  | nearTransmitComplete =>
    exact (State.Keeps.nil (s := s) (t := { s with trunk := { s.trunk with nearTx := none } }) rfl).executes h
  | farTransmitComplete =>
    exact (State.Keeps.nil (s := s) (t := { s with trunk := { s.trunk with farTx := none } }) rfl).executes h
  | read o table index => exact executes_command (r := .read table index) h
  | writeLift o index w => exact executes_command (r := .writeLift index w) h
  | writePanel o index w => exact executes_command (r := .writePanel index w) h
  | writeCrew o index w => exact executes_command (r := .writeCrew index w) h
  | writeClass o index w => exact executes_command (r := .writeClass index w) h
  | writeTravel o index lo hi => exact executes_command (r := .writeTravel index lo hi) h
  | writeStep o index w => exact executes_command (r := .writeStep index w) h
  | writeSectorSettings o index w => exact executes_command (r := .writeSettings index w) h
  | setForward o index mode => exact executes_command (r := .setForward index mode) h
  | lineEnable o line => exact executes_command (r := .lineEnable line) h
  | lineDisable o line => exact executes_command (r := .lineDisable line) h
  | lineReset o line => exact executes_command (r := .lineReset line) h
  | setBottom o index => exact executes_command (r := .setBottom index) h
  | survey o crew => exact executes_command (r := .survey crew) h
  | caseOpen o identity => exact executes_command (r := .caseOpen identity) h
  | caseClose o serial => exact executes_command (r := .caseClose serial) h
  | readCase o record => exact executes_command (r := .readCase record) h
  | readCounters o => exact executes_command (r := .readCounters) h
  | warmRestart o force => exact executes_command (r := .warmRestart force) h
  | controlInhibit o identity => exact (controlRequest_keeps s o identity .inhibit).executes h
  | controlRestore o identity => exact (controlRequest_keeps s o identity .restore).executes h
  | controlAnnounce o identity message => exact (controlRequest_keeps s o identity (.announce message)).executes h
  | controlService o identity code => exact (controlRequest_keeps s o identity (.service code)).executes h
  | dutyOn r tag => exact (crewRequest_handles s r tag (some .dutyOn) none).executes h
  | dutyOff r tag => exact (crewRequest_handles s r tag (some .dutyOff) none).executes h
  | sweepOn r tag => exact (crewRequest_handles s r tag (some .sweepOn) none).executes h
  | sweepOff r tag => exact (crewRequest_handles s r tag (some .sweepOff) none).executes h
  | job r tag => exact (crewRequest_handles s r tag (some .job) none).executes h
  | accept r tag serial => exact (crewRequest_handles s r tag (some .accept) serial).executes h
  | decline r tag serial => exact (crewRequest_handles s r tag (some .decline) serial).executes h
  | arrived r tag serial => exact (crewRequest_handles s r tag (some .arrived) serial).executes h
  | voice r tag serial => exact (crewRequest_handles s r tag (some .voice) serial).executes h
  | standDown r tag serial => exact (crewRequest_handles s r tag (some .standDown) serial).executes h
  | firstStageCarry => exact .next h s.carry_outline

end

end Sys2Proof.Machine
end

section
/-! SUPPORT. What every step keeps of the registry: cause truth, names apart, the rotation order, the tables (R23, R25, R26, R46, R85, R92). -/

namespace Sys2Proof.Machine

variable {s t u : State}

/-! ### Names apart (R25, R85) -/

theorem State.IdentitiesApart.of_tables (h : s.IdentitiesApart) (ht : t.tables = s.tables) : t.IdentitiesApart := by
  have hlift := State.lift_config_of_tables ht
  intro i j
  rw [hlift, hlift]
  exact h i j

theorem State.TagsApart.of_tables (h : s.TagsApart) (ht : t.tables = s.tables) : t.TagsApart := by
  have hcrew := State.crew_config_of_tables ht
  intro j k
  rw [hcrew, hcrew]
  exact h j k

/-- A lift stored with an identity that no other enabled lift has. -/
theorem State.IdentitiesApart.setLift {i : LiftIdx} {r : Lift} (h : s.IdentitiesApart)
    (hr : r.config.enabled = true → ∀ j, j ≠ i → (s.lift j).config.enabled = true →
      (s.lift j).config.identity ≠ r.config.identity) : (s.setLift i r).IdentitiesApart := by
  intro j k
  rw [lift_setLift_if, lift_setLift_if]
  by_cases hj : i = j <;> by_cases hk : i = k
  · exact fun _ _ _ => hj.symm.trans hk
  · rw [if_pos hj, if_neg hk]
    exact fun hen hen' heq => absurd heq.symm (hr hen k (Ne.symm hk) hen')
  · rw [if_neg hj, if_pos hk]
    exact fun hen hen' heq => absurd heq (hr hen' j (Ne.symm hj) hen)
  · rw [if_neg hj, if_neg hk]
    exact h j k

/-- A crew stored with a tag that no other enabled crew has. -/
theorem State.TagsApart.setCrew {k : CrewNo} {r : Crew} (h : s.TagsApart)
    (hr : ∀ j, j ≠ k → (s.crew j).config.enabled = true → (s.crew j).config.tag ≠ r.config.tag) :
    (s.setCrew k r).TagsApart := by
  intro i j
  rw [crew_setCrew_if, crew_setCrew_if]
  by_cases hi : k = i <;> by_cases hj : k = j
  · exact fun _ _ _ => hi.symm.trans hj
  · rw [if_pos hi, if_neg hj]
    exact fun _ hen heq => absurd heq.symm (hr j (Ne.symm hj) hen)
  · rw [if_neg hi, if_pos hj]
    exact fun hen _ heq => absurd heq (hr i (Ne.symm hi) hen)
  · rw [if_neg hi, if_neg hj]
    exact h i j

/-! ### What the writes keep -/

theorem State.Writes.identitiesApart {r : MgmtRequest} (hw : s.Writes r u) (h : s.IdentitiesApart) : u.IdentitiesApart := by
  cases hw with
  | lift apart _ => exact h.setLift fun _ => apart
  | forwarding i m => exact h.setLift fun hen j hj hen' heq => hj (h j i hen' hen heq)
  | _ => exact h

theorem State.Writes.tagsApart {r : MgmtRequest} (hw : s.Writes r u) (h : s.TagsApart) : u.TagsApart := by
  cases hw with
  | crew apart => exact h.setCrew apart
  | _ => exact h

theorem State.Writes.rotation {r : MgmtRequest} (hw : s.Writes r u) : u.rotation = s.rotation := by
  cases hw <;> rfl

theorem State.TruthSound.setLift {i : LiftIdx} {r : Lift} (h : s.TruthSound) (hr : r.TruthSound) :
    (s.setLift i r).TruthSound := by
  intro j
  rw [lift_setLift_if]
  split
  · exact hr
  · exact h j

theorem State.Writes.truthSound {r : MgmtRequest} (hw : s.Writes r u) (h : s.TruthSound) : u.TruthSound := by
  cases hw with
  | lift _ sound => exact h.setLift (sound (h _))
  | forwarding i m =>
    obtain ⟨hknown, hmanual, henabled, hoff⟩ := h i
    exact h.setLift ⟨hknown, hmanual, fun c hc => by cases c <;> exact henabled _ hc, hoff⟩
  | _ => exact h

/-- A request writes no table but its own (R163). -/
theorem State.Writes.tables {r : MgmtRequest} (hw : s.Writes r u) :
    u.pending = s.pending ∧
    ((∀ i w, r ≠ .writeLift i w) → (∀ i m, r ≠ .setForward i m) → u.tables.lifts = s.tables.lifts) ∧
    ((∀ i w, r ≠ .writePanel i w) → u.tables.panels = s.tables.panels) ∧
    ((∀ i w, r ≠ .writeCrew i w) → u.tables.crews = s.tables.crews) ∧
    ((∀ i w, r ≠ .writeClass i w) → u.classes = s.classes) ∧
    ((∀ i a b, r ≠ .writeTravel i a b) → u.travel = s.travel) ∧
    ((∀ i w, r ≠ .writeStep i w) → u.store = s.store) ∧
    ((∀ i w, r ≠ .writeSettings i w) → u.settings = s.settings) := by
  cases hw with
  | nothing => exact ⟨rfl, fun _ _ => rfl, fun _ => rfl, fun _ => rfl, fun _ => rfl, fun _ => rfl, fun _ => rfl, fun _ => rfl⟩
  | lift => exact ⟨rfl, fun h _ => absurd rfl (h _ _), fun _ => rfl, fun _ => rfl, fun _ => rfl, fun _ => rfl, fun _ => rfl,
      fun _ => rfl⟩
  | forwarding => exact ⟨rfl, fun _ h => absurd rfl (h _ _), fun _ => rfl, fun _ => rfl, fun _ => rfl, fun _ => rfl,
      fun _ => rfl, fun _ => rfl⟩
  | panel => exact ⟨rfl, fun _ _ => rfl, fun h => absurd rfl (h _ _), fun _ => rfl, fun _ => rfl, fun _ => rfl, fun _ => rfl,
      fun _ => rfl⟩
  | crew => exact ⟨rfl, fun _ _ => rfl, fun _ => rfl, fun h => absurd rfl (h _ _), fun _ => rfl, fun _ => rfl, fun _ => rfl,
      fun _ => rfl⟩
  | classes => exact ⟨rfl, fun _ _ => rfl, fun _ => rfl, fun _ => rfl, fun h => absurd rfl (h _ _), fun _ => rfl, fun _ => rfl,
      fun _ => rfl⟩
  | travel => exact ⟨rfl, fun _ _ => rfl, fun _ => rfl, fun _ => rfl, fun _ => rfl, fun h => absurd rfl (h _ _ _), fun _ => rfl,
      fun _ => rfl⟩
  | store => exact ⟨rfl, fun _ _ => rfl, fun _ => rfl, fun _ => rfl, fun _ => rfl, fun _ => rfl, fun h => absurd rfl (h _ _),
      fun _ => rfl⟩
  | settings => exact ⟨rfl, fun _ _ => rfl, fun _ => rfl, fun _ => rfl, fun _ => rfl, fun _ => rfl, fun _ => rfl,
      fun h => absurd rfl (h _ _)⟩

/-! ### Every step -/

/-- What a power-on reset sets up, carrying over keeps and the writes keep, every step keeps, where it does not speak of the waiting
commands. -/
theorem step_keeps_of_writes {P : State → Prop} (hpending : ∀ s q, P s → P { s with pending := q })
    (hreset : ∀ s : State, P (.powerOn s.straps s.trunk.nearUp s.trunk.farUp s.freeDraws s.pending))
    (hcarries : ∀ s t, s.Carries t → P s → P t) (hwrites : ∀ s r u, s.Writes r u → P s → P u) :
    ∀ s t, P s → step s = .next t → P t := by
  intro s t hs h
  unfold step at h
  split at h
  · obtain rfl := Host.Outcome.next.inj h
    exact hcarries _ _ (.of_outline s.clockPeriod_outline) hs
  · next c rest _ =>
    have hrest : P { s with pending := rest } := hpending s rest hs
    by_cases hc : c = .powerOnReset
    · subst hc
      obtain rfl := Host.Outcome.next.inj h
      exact hreset _
    · cases exec_executes h hc with
      | carried hcarried => exact hcarries _ _ hcarried hrest
      | written _ hbefore hwrite hafter => exact hcarries _ _ hafter (hwrites _ _ _ hwrite (hcarries _ _ hbefore hrest))

section

variable (straps : BitVec 12) (nearUp farUp : Bool) (draws : Nat) (q : List Instr)

theorem State.powerOn_lift (i : LiftIdx) : (State.powerOn straps nearUp farUp draws q).lift i = ⟨.reset i, .entered .disabled⟩ :=
  getElem_tab _ _ _
theorem State.powerOn_crew (k : CrewNo) : (State.powerOn straps nearUp farUp draws q).crew k = .reset k := getElem_tab _ _ _

end

/-- Settles O9: sound truth is carried over lift by lift by every job, and every lift write stores a dynamic part that is sound with
the configuration. -/
theorem stepsKeepCauseTruthSound : Obligations.StepsKeepCauseTruthSound :=
  step_keeps_of_writes (P := State.TruthSound) (fun _ _ h => h)
    (fun _ i => by rw [State.powerOn_lift]; exact Lift.truthSound_entered (iff_of_true rfl rfl))
    (fun _ _ hcarries h i => hcarries.truth i (h i)) (fun _ _ _ hwrites h => hwrites.truthSound h)

/-- Settles O6: names are judged by the tables alone, which change by their writes, each tested against the other enabled records;
the rotation order changes by moves to the bottom. -/
theorem stepsKeepNamesApartAndTheRotationWhole : Obligations.StepsKeepNamesApartAndTheRotationWhole := by
  refine ⟨⟨?_, ?_⟩, ?_⟩
  · exact step_keeps_of_writes (P := State.IdentitiesApart) (fun _ _ h => h)
      (fun _ i j h => by rw [State.powerOn_lift] at h; exact absurd h Bool.false_ne_true)
      (fun _ _ hcarries h => h.of_tables hcarries.tables) (fun _ _ _ hwrites h => hwrites.identitiesApart h)
  · exact step_keeps_of_writes (P := State.TagsApart) (fun _ _ h => h)
      (fun _ j k h => by rw [State.powerOn_crew] at h; exact absurd h Bool.false_ne_true)
      (fun _ _ hcarries h => h.of_tables hcarries.tables) (fun _ _ _ hwrites h => hwrites.tagsApart h)
  · exact step_keeps_of_writes (P := State.RotationWhole) (fun _ _ h => h) (fun _ => .refl _) (fun _ _ hcarries => hcarries.rotation)
      (fun _ _ _ hwrites h => by unfold State.RotationWhole; rw [hwrites.rotation]; exact h)

/-- Settles O11: a handling carries the tables over but for what its request writes. -/
theorem tablesChangeOnlyByTheirWrites : Obligations.TablesChangeOnlyByTheirWrites := by
  refine ⟨fun c s t h => ?_, fun c s t h hreset hframe => ?_⟩
  · by_cases hc : c = .powerOnReset
    · subst hc
      obtain rfl := Host.Outcome.next.inj h
      rfl
    · cases exec_executes h hc with
      | carried hcarries => exact congrArg Tables.pending hcarries.tables
      | written _ hbefore hwrites hafter =>
        exact (congrArg Tables.pending hafter.tables).trans
          (hwrites.tables.1.trans (congrArg Tables.pending hbefore.tables))
  · cases exec_executes h hreset with
    | carried hcarries =>
      have htables := hcarries.tables
      exact ⟨fun _ _ => State.lift_config_of_tables htables, fun _ => State.panel_config_of_tables htables,
        fun _ => State.crew_config_of_tables htables, fun _ => congrArg Tables.classes htables,
        fun _ => congrArg Tables.travel htables, fun _ => congrArg Tables.store htables,
        fun _ => congrArg Tables.settings htables⟩
    | @written v u o r hasked hbefore hwrites hafter =>
      obtain rfl := hasked.resolve_right fun ⟨b, hb⟩ => hframe b hb
      obtain ⟨_, hlifts, hpanels, hcrews, hclasses, htravel, hstore, hsettings⟩ := hwrites.tables
      have hchain : ∀ {α : Type} (f : Tables → α), f u.tables = f v.tables → f t.tables = f s.tables := fun f h =>
        (congrArg f hafter.tables).trans (h.trans (congrArg f hbefore.tables))
      refine ⟨fun h h' => ?_, fun h => ?_, fun h => ?_, fun h => ?_, fun h => ?_, fun h => ?_, fun h => ?_⟩
      · exact congrFun (hchain Tables.lifts (hlifts (fun i w hr => h o i w (by rw [hr]; rfl))
          fun i m hr => h' o i m (by rw [hr]; rfl)))
      · exact congrFun (hchain Tables.panels (hpanels fun i w hr => h o i w (by rw [hr]; rfl)))
      · exact congrFun (hchain Tables.crews (hcrews fun i w hr => h o i w (by rw [hr]; rfl)))
      · exact hchain Tables.classes (hclasses fun i w hr => h o i w (by rw [hr]; rfl))
      · exact hchain Tables.travel (htravel fun i a b hr => h o i a b (by rw [hr]; rfl))
      · exact hchain Tables.store (hstore fun i w hr => h o i w (by rw [hr]; rfl))
      · exact hchain Tables.settings (hsettings fun i w hr => h o i w (by rw [hr]; rfl))

end Sys2Proof.Machine
end

section
/-! SUPPORT. SET_FORWARD, SET_BOTTOM and accepted lift writes (R27, R34, R36, R92). -/

namespace Sys2Proof.Machine

/-! ### Requests that are answered at once (R160) -/

/-- A request answered with a code alone, with room. -/
theorem finish_answered {s : State} (h : s.Ready 1) (o : Origin) (kind : Byte) (code : AnswerCode) :
    finish (answered s o kind code) = .next (s.withAnswer o kind code .none) := by
  have hroom : s.trunk.own.length < 32 := h.room
  rw [answered, State.answer_room _ _ _ _ _ hroom]
  exact finish_busy h.busy

/-- Taking a lift out of the rotation order leaves the others in their places (R92). -/
theorem State.RotationWhole.erase {s : State} (h : s.RotationWhole) (i : LiftIdx) :
    ∃ above below, s.rotation = above ++ i :: below ∧ s.rotation.erase i = above ++ below := by
  have hmem : i ∈ s.rotation := h.mem_iff.mpr (List.mem_finRange i)
  obtain ⟨above, below, hnotin, hsplit, herase⟩ := List.exists_erase_eq hmem
  exact ⟨above, below, hsplit, herase⟩

/-- Settles O34: each request is answered at once, SET_BOTTOM on the order with the lift erased and put at the end. -/
theorem forwardingAndRotationRequests : Obligations.ForwardingAndRotationRequests := by
  intro s o i hready
  refine ⟨fun m => ?_, fun hwhole => ?_⟩
  · change finish (setForwardRequest s o i.val m) = _
    rw [setForwardRequest, toIdx_val]
    have hstored (mode : Forwarding) : (s.setLift i { s.lift i with config :=
        { (s.lift i).config with forwarding := mode } }).Ready 1 := ⟨hready.busy, hready.room⟩
    match m with
    | 0 => exact finish_answered (hstored .all) o _ _
    | 1 => exact finish_answered (hstored .changes) o _ _
    | 2 => exact finish_answered (hstored .none) o _ _
    | n + 3 => exact finish_answered hready o _ _
  · obtain ⟨above, below, hsplit, herase⟩ := hwhole.erase i
    refine ⟨above, below, hsplit, ?_⟩
    change finish (setBottomRequest s o i.val) = _
    rw [setBottomRequest, toIdx_val]
    have hbottom : (s.toBottom i).Ready 1 := ⟨hready.busy, hready.room⟩
    rw [← herase]
    exact finish_answered hbottom o _ _

/-! ### What an accepted lift write stores (R33, R34) -/

/-- The setting that a cause's byte gives: bit 0 enabled, bit 1 trigger (R26, R173). -/
def CauseSetting.ofByte (b : Nat) : CauseSetting := ⟨b % 2 == 1, if b < 2 then .edge else .level⟩

theorem decodeCauseByte_eq {b : Nat} (h : b ≤ 3) : decodeCauseByte b = some (.ofByte b) := by
  match b, h with
  | 0, _ => rfl
  | 1, _ => rfl
  | 2, _ => rfl
  | 3, _ => rfl

theorem decodeYesNo_eq {b : Nat} (h : b ≤ 1) : decodeYesNo b = some (b == 1) := by
  match b, h with
  | 0, _ => rfl
  | 1, _ => rfl

theorem decodeForwarding_eq {b : Nat} (h : b ≤ 2) :
    decodeForwarding b = some (if b = 0 then .all else if b = 1 then .changes else .none) := by
  match b, h with
  | 0, _ => rfl
  | 1, _ => rfl
  | 2, _ => rfl

theorem ascending_iff : ∀ hs : List Nat, ascending hs = true ↔ hs.Pairwise (· < ·)
  | [] => by simp [ascending]
  | [_] => by simp [ascending]
  | a :: b :: rest => by
    rw [ascending, Bool.and_eq_true, ascending_iff (b :: rest), ← List.isChain_iff_pairwise, ← List.isChain_iff_pairwise,
      List.isChain_cons_cons, decide_eq_true_eq]

/-- The landing list is without fault (R33). -/
structure LandingsSound (hs : List Nat) : Prop where
  least : 2 ≤ hs.length
  most : hs.length ≤ 24
  ascending : hs.Pairwise (· < ·)
  bounded : ∀ h ∈ hs, h ≤ 1048575

theorem LandingsSound.ok {hs : List Nat} (h : LandingsSound hs) : landingsOk hs = true := by
  simp [landingsOk, h.least, h.most, (ascending_iff hs).mpr h.ascending]
  exact h.bounded

end Sys2Proof.Machine

namespace Sys2Proof

open Machine

/-- A lift record that decodes and has no structural fault of its own (R33, R173). -/
structure LiftWrite.Sound (w : LiftWrite) : Prop where
  enabled : w.enabled ≤ 1
  identity : w.identity < 65535
  landings : LandingsSound w.landings
  stall : w.stall ≤ 3
  alarm : w.alarm ≤ 3
  shared : 2 ≤ w.shared ∧ w.shared ≤ 3
  silent : w.silent ≤ 3
  manual : w.manual ≤ 1
  forwarding : w.forwarding ≤ 2

/-- The configuration that a lift record without fault stores, its nine numeric fields clamped (R34). -/
def LiftWrite.stored (w : LiftWrite) : LiftConfig where
  enabled := w.enabled == 1
  identity := w.identity
  landings := w.landings
  doorZone := clampTo 25 300 w.doorZone
  creep := clampTo 1 20 w.creep
  debounce := clampTo 1 15 w.debounce
  silence := clampTo 1 15 w.silence
  balance := clampTo 30 60 w.balance
  step := clampTo 50 2000 w.step
  reach := clampTo 500 60000 w.reach
  cap := clampTo 1 63 w.cap
  stall := .ofByte w.stall
  alarm := .ofByte w.alarm
  shared := .ofByte w.shared
  silent := .ofByte w.silent
  manual := .ofByte w.manual
  page := ⟨min 15 w.page, by omega⟩
  forwarding := if w.forwarding = 0 then .all else if w.forwarding = 1 then .changes else .none

namespace LiftWrite.Sound

variable {w : LiftWrite} (h : w.Sound)

include h

theorem manual_decodes : decodeCauseByte w.manual = some (.ofByte w.manual) := decodeCauseByte_eq (by have := h.manual; omega)

theorem decodes : w.decodes = true := by
  simp only [LiftWrite.decodes, decodeCauseByte_eq h.stall, decodeCauseByte_eq h.alarm, decodeCauseByte_eq h.shared.2,
    decodeCauseByte_eq h.silent, h.manual_decodes]
  rfl

theorem config_eq : w.config = some w.stored := by
  have hshared : (CauseSetting.ofByte w.shared).trigger = .level := if_neg (by have := h.shared; omega)
  have hmanual : (CauseSetting.ofByte w.manual).trigger = .edge := if_pos (by have := h.manual; omega)
  simp only [LiftWrite.config, decodeYesNo_eq h.enabled, decodeForwarding_eq h.forwarding, decodeCauseByte_eq h.stall,
    decodeCauseByte_eq h.alarm, decodeCauseByte_eq h.shared.2, decodeCauseByte_eq h.silent, h.manual_decodes]
  rw [if_pos (by simp [h.landings.ok, h.identity, hshared, hmanual])]
  rfl

end LiftWrite.Sound

/-- A record is answered OK exactly where no numeric field was clamped (R34). -/
theorem LiftWrite.clamps_eq_false {w : LiftWrite} {g : LiftConfig} : w.clamps g = false ↔
    g.doorZone = w.doorZone ∧ g.creep = w.creep ∧ g.debounce = w.debounce ∧ g.silence = w.silence ∧
      g.balance = w.balance ∧ g.step = w.step ∧ g.reach = w.reach ∧ g.cap = w.cap ∧ g.page.val = w.page := by
  simp [LiftWrite.clamps, and_assoc]

end Sys2Proof

namespace Sys2Proof.Machine

/-! ### What an accepted lift write does (R36) -/

section

variable {s : State} {i : LiftIdx}

/-- The answer of an accepted write, with room (R163). -/
theorem stored_room (o : Origin) (clamped : Bool) (echo : AnswerData) (h : s.trunk.own.length < 32) :
    stored s o clamped echo = if clamped = false then s.withAnswer o 2#8 .ok .none else s.withAnswer o 2#8 .clamped echo := by
  cases clamped <;> exact State.answer_room _ _ _ _ _ h

/-- An accepted lift write goes on from its answer (R32). -/
theorem writeLiftRequest_accepted {o : Origin} {w : LiftWrite} (hw : w.Sound) (hcase : (s.lift i).dyn.openCase = none)
    (hfree : ∀ j, j ≠ i → (s.lift j).config.enabled = true → (s.lift j).config.identity ≠ w.identity) :
    writeLiftRequest s o i.val w = applyLift (stored s o (w.clamps w.stored) (.liftEcho w.stored)) i w.stored := by
  simp only [writeLiftRequest, hw.decodes, toIdx_val, hcase, hw.config_eq, State.identityTaken_eq_false.mpr hfree]
  rfl

/-- The state once the lift has entered `st` with the configuration `g`: a summary tells of a changed state, unless the mode is
NONE (R28, R52). -/
def State.liftEntered (s : State) (i : LiftIdx) (g : LiftConfig) (st : LiftState) : State :=
  let u := s.setLift i ⟨g, .entered st⟩
  if (s.lift i).dyn.state = st ∨ g.forwarding = .none then u
  else u.withBroadcast (.summary ⟨g.identity, s.time.stamp, st, none⟩)

theorem Runs.enterState (hb : s.Busy) (hroom : s.trunk.own.length < 32) (g : LiftConfig) (st : LiftState) :
    Runs 2 (s.setLift i ⟨g, .entered st⟩) (Machine.enterState (s.setLift i { s.lift i with config := g }) i st).2
      (s.liftEntered i g st) := by
  let v := s.setLift i { s.lift i with config := g }
  let u := s.setLift i ⟨g, .entered st⟩
  have hu : v.setDyn i (.entered st) = u := s.setLift_setDyn i _ _
  have hlift : v.lift i = { s.lift i with config := g } := State.lift_setLift _ _ _
  have htold : Runs 1 u (toldIf i (v.lift i).dyn.truth .empty) u := by
    unfold toldIf
    split
    · exact .nil hb
    · exact .one hb (hu ▸ truthTold_entered v i st) hb
  have hend : (if (v.lift i).dyn.state = st then u else summaryAfterChange u i) = s.liftEntered i g st := by
    rw [hlift, summaryAfterChange_room u i hroom, State.liftEntered]
    have hui : u.lift i = ⟨g, .entered st⟩ := State.lift_setLift _ _ _
    by_cases hst : (s.lift i).dyn.state = st
    · rw [if_pos hst, if_pos (.inl hst)]
    · by_cases hnone : g.forwarding = .none
      · simp only [hst, hui, hnone, if_true, if_false, or_true]
        rfl
      · simp only [hst, hui, hnone, if_false, or_self, State.withBroadcasts_cons, State.summaryOf, State.identityOf]
        rfl
  have hruns := htold.append (.changeJobs (s := u) hb i (v.lift i).dyn.state st)
  rw [hend] at hruns
  exact hruns

theorem State.liftEntered_rest (g : LiftConfig) (st : LiftState) :
    (s.liftEntered i g st).lines = s.lines ∧ (s.liftEntered i g st).cases = s.cases ∧ ((s.liftEntered i g st).Busy ↔ s.Busy) := by
  unfold State.liftEntered
  dsimp only
  split <;> exact ⟨rfl, rfl, Iff.rfl⟩

theorem State.NothingToSend.congr {t : State} {l : LineId} (h : s.NothingToSend l) (hlines : t.lines = s.lines)
    (hcases : t.cases = s.cases) : t.NothingToSend l := by
  refine ⟨fun c hopen hl => ?_, fun k => ?_, ?_⟩
  · rw [State.isOpen, State.caseAt_congr hcases] at hopen
    rw [State.caseAt_congr hcases] at hl ⊢
    exact h.cases c hopen hl
  · rw [State.line_congr hlines]; exact h.answers k
  · rw [State.line_congr hlines]; exact h.routine

/-- Work that a line in another state than QUIET_IDLE does not wait for (R13). -/
theorem Runs.lineWork_skip {l : LineId} (hb : s.Busy) (h : (s.line l).state ≠ .quietIdle) : Runs 1 s [.lineWork l] s :=
  .one hb (if_neg h) hb

/-- Work that ends the QUIET_IDLE of a line with nothing to send (R13). -/
theorem Runs.lineWork_starts {l : LineId} {first : Slot} {slots : List Slot} (hb : s.Busy)
    (h : (s.line l).state = .quietIdle) (hno : s.NothingToSend l) (hs : s.slotSet l = first :: slots) :
    Runs 2 s [.lineWork l] (s.setLine l (s.polling l none first slots)) :=
  .step hb (a := [.start l none]) (if_pos h) (Runs.start none hb hno hs)

theorem finish_applyLift_disabled {g : LiftConfig} (hb : s.Busy) (hold : (s.lift i).config.enabled = false)
    (hnew : g.enabled = false) : finish (applyLift s i g) = .next (s.setLift i ⟨g, (s.lift i).dyn⟩) := by
  have hstored : (s.setLift i ⟨g, (s.lift i).dyn⟩).Busy := hb
  simp only [applyLift, hold, hnew]
  exact finish_busy hstored

theorem applyLift_enabling {g : LiftConfig} {st : LiftState}
    (hst : (if (s.line (lineOf i)).state = .off then LiftState.offline else .unseen) = st)
    (hold : (s.lift i).config.enabled = false) (hnew : g.enabled = true) :
    applyLift s i g = (s.setLift i ⟨g, .entered st⟩,
      (enterState (s.setLift i { s.lift i with config := g }) i st).2 ++
        (if (s.line (lineOf i)).state = .off then [] else [.lineWork (lineOf i)])) := by
  subst hst
  simp only [applyLift, hold, hnew]
  exact Prod.ext (s.setLift_setDyn i _ _) rfl

theorem finish_applyLift_offline {g : LiftConfig} (hb : s.Busy) (hroom : s.trunk.own.length < 32)
    (hold : (s.lift i).config.enabled = false) (hnew : g.enabled = true) (hoff : (s.line (lineOf i)).state = .off) :
    finish (applyLift s i g) = .next (s.liftEntered i g .offline) := by
  rw [applyLift_enabling (if_pos hoff) hold hnew, if_pos hoff, List.append_nil]
  exact (Runs.enterState hb hroom g .offline).finish_eq (by omega)

/-- An enabling write on a line that is not OFF hands on to what its work that needs the line comes to (R13, R36). -/
theorem finish_applyLift_unseen {g : LiftConfig} {t : State} (hb : s.Busy) (hroom : s.trunk.own.length < 32)
    (hold : (s.lift i).config.enabled = false) (hnew : g.enabled = true) (hon : (s.line (lineOf i)).state ≠ .off)
    (hwork : Runs 2 (s.liftEntered i g .unseen) [.lineWork (lineOf i)] t) : finish (applyLift s i g) = .next t := by
  rw [applyLift_enabling (if_neg hon) hold hnew, if_neg hon]
  exact ((Runs.enterState hb hroom g .unseen).append hwork).finish_eq (by omega)

theorem finish_applyLift_disabling {g : LiftConfig} (hb : s.Busy) (hroom : s.trunk.own.length < 32)
    (hold : (s.lift i).config.enabled = true) (hnew : g.enabled = false) :
    finish (applyLift s i g) = .next (s.liftEntered i g .disabled) := by
  have happly : applyLift s i g = (s.setLift i ⟨g, .entered .disabled⟩,
      (enterState (s.setLift i { s.lift i with config := g }) i .disabled).2) := by
    simp only [applyLift, hold, hnew]
    exact Prod.ext (s.setLift_setDyn i _ _) rfl
  rw [happly]
  exact (Runs.enterState hb hroom g .disabled).finish_eq (by omega)

/-- The dynamic part of a lift that loses the causes now disabled from its truth and its latch (R36). -/
def LiftDynamic.restricted (d : LiftDynamic) (on : CauseSet) : LiftDynamic :=
  { d with truth := d.truth.inter on, latch := d.latch.inter on }

theorem applyLift_enabled {g : LiftConfig} (hold : (s.lift i).config.enabled = true) (hnew : g.enabled = true) :
    applyLift s i g = (s.setLift i ⟨g, (s.lift i).dyn.restricted g.enabledCauses⟩,
      toldIf i (s.lift i).dyn.truth ((s.lift i).dyn.truth.inter g.enabledCauses)) := by
  simp only [applyLift, hold, hnew]
  exact Prod.ext (s.setLift_setDyn i _ _) rfl

/-- The case manager, told of the truth of a lift without a case, tests its latch alone (R67). -/
theorem truthTold_noCase {r : Lift} (hr : s.lift i = r) (hcase : r.dyn.openCase = none) : truthTold s i =
    (if r.allLevelFalse r.dyn.latch then s.setDyn i { r.dyn with latch := .empty } else s, []) := by
  simp only [truthTold, hr, hcase]

/-- Every cause of a latch of enabled causes is LEVEL and now false, with what a LINE_RESET has kept held until the first report. -/
theorem Lift.allLevelFalse_restricted (g : LiftConfig) (d : LiftDynamic) :
    let e := d.restricted g.enabledCauses
    (Lift.mk g e).allLevelFalse e.latch = [Cause.stall, .alarm, .shared, .silent, .manual].all fun x =>
      !e.latch.has x || ((g.cause x).trigger == .level && !e.truth.has x && (d.lastReport.isSome || !d.keptTruth.has x)) := by
  intro e
  have hheld : ∀ x, e.heldTruth.has x = (!d.lastReport.isSome && d.keptTruth.has x) := fun x => by
    change CauseSet.has (if d.lastReport.isSome then .empty else d.keptTruth) x = _
    cases d.lastReport.isSome
    · simp
    · cases x <;> rfl
  have hlatch : ∀ x, e.latch.has x = (d.latch.has x && (g.cause x).enabled) := fun x => by
    rw [← LiftConfig.enabledCauses_has]; exact CauseSet.inter_has _ _ _
  rw [Lift.allLevelFalse, CauseSet.toList, List.all_filter]
  refine congrArg (List.all causeOrder) (funext fun x => ?_)
  simp only [Lift.levelFalse, Lift.standingTruth_has, hheld, hlatch]
  cases d.latch.has x <;> cases (g.cause x).enabled <;> simp [Bool.and_assoc]

/-- A lift without a case that stays enabled loses the causes now disabled, and its latch where it has so fallen (R36, R67). -/
theorem finish_applyLift_enabled {g : LiftConfig} (hb : s.Busy) (hcase : (s.lift i).dyn.openCase = none)
    (hold : (s.lift i).config.enabled = true) (hnew : g.enabled = true) :
    let d := (s.lift i).dyn
    let e := d.restricted g.enabledCauses
    let latch := if e.truth ≠ d.truth ∧ (Lift.mk g e).allLevelFalse e.latch = true then .empty else e.latch
    finish (applyLift s i g) = .next (s.setLift i ⟨g, { e with latch := latch }⟩) := by
  intro d e latch
  let u := s.setLift i ⟨g, e⟩
  have hu : u.Busy := hb
  have htold : truthTold u i = (if (Lift.mk g e).allLevelFalse e.latch then u.setDyn i { e with latch := .empty } else u, []) :=
    truthTold_noCase (r := ⟨g, e⟩) (State.lift_setLift _ _ _) hcase
  rw [applyLift_enabled hold hnew, toldIf]
  split
  · next hsame =>
    have hlatch : latch = e.latch := if_neg fun h => h.1 hsame.symm
    rw [hlatch]
    exact finish_busy hu
  · next hdiff =>
    have hne : e.truth ≠ d.truth := fun h => hdiff h.symm
    refine (finish_one (j := .truthTold i) hu (by split <;> exact hb) htold).trans ?_
    simp only [latch, hne, ne_eq, not_false_eq_true, true_and]
    split
    · rw [State.setLift_setDyn]
    · rfl

end

/-- Settles O30: the record stored is the one clamped, and each case of the enabled field has its own law. -/
theorem acceptedLiftWritesActByTheEnabledField : Obligations.AcceptedLiftWritesActByTheEnabledField := by
  intro s o i w g hready hcase hstall halarm hshared2 hshared3 hsilent hmanual henabled hforwarding hidentity hfree hleast hmost
    hascending hbounded cause gen gid gland gdz gcreep gdeb gsil gbal gstep greach gcap gpage gstall galarm gshared gsilent gmanual
    gfwd d a entered
  have hw : w.Sound := ⟨henabled, hidentity, ⟨hleast, hmost, hascending, hbounded⟩, hstall, halarm, ⟨hshared2, hshared3⟩, hsilent,
    hmanual, hforwarding⟩
  obtain rfl : g = w.stored := by
    have hpage : g.page = w.stored.page := Fin.ext gpage
    obtain ⟨⟩ := g
    dsimp only at gen gid gland gdz gcreep gdeb gsil gbal gstep greach gcap hpage gstall galarm gshared gsilent gmanual gfwd
    subst gen gid gland gdz gcreep gdeb gsil gbal gstep greach gcap hpage gstall galarm gshared gsilent gmanual gfwd
    rfl
  have hroom : s.trunk.own.length + 2 ≤ 32 := hready.room
  have hexec : exec (.writeLift o i.val w) s = finish (applyLift a i w.stored) := by
    change finish (writeLiftRequest s o i.val w) = _
    rw [writeLiftRequest_accepted hw hcase hfree, stored_room _ _ _ (by omega)]
    simp only [LiftWrite.clamps_eq_false]
    rfl
  obtain ⟨f, hf⟩ : ∃ f, a = s.withOwn f := by
    simp only [a]
    split <;> exact ⟨_, rfl⟩
  rw [hexec]
  clear_value a
  subst hf
  have hb : (s.withOwn f).Busy := hready.busy
  have haroom : (s.withOwn f).trunk.own.length < 32 := by rw [State.withOwn_length]; omega
  obtain ⟨hlines, hcases, hentered⟩ := State.liftEntered_rest (s := s.withOwn f) (i := i) w.stored .unseen
  have hstate := congrArg Line.state (State.line_congr hlines (lineOf i))
  refine ⟨fun hold hnew => ?_, fun hold hnew hoff => ?_, fun hold hnew hon hidle => ?_,
    fun hold hnew hidle hno first slots hs => ?_, fun hold hnew => ?_, fun hold hnew => ?_⟩
  · exact finish_applyLift_disabled hb hold hnew
  · exact finish_applyLift_offline hb haroom hold hnew hoff
  · refine finish_applyLift_unseen hb haroom hold hnew hon ((Runs.lineWork_skip (hentered.mpr hb) ?_).mono (by omega))
    exact fun h => hidle (hstate.symm.trans h)
  · refine finish_applyLift_unseen hb haroom hold hnew (fun h => nomatch hidle.symm.trans h)
      (Runs.lineWork_starts (hentered.mpr hb) (hstate.trans hidle) (hno.congr hlines hcases) hs)
  · exact finish_applyLift_disabling hb haroom hold hnew
  · have hfinish := finish_applyLift_enabled (s := s.withOwn f) (i := i) hb hcase hold hnew
    dsimp only at hfinish
    rw [Lift.allLevelFalse_restricted] at hfinish
    exact hfinish

end Sys2Proof.Machine
end

section
/-! SUPPORT. Evaluations of SHARED that reach nobody but the lifts (R48), and panel writes (R37). -/

namespace Sys2Proof.Machine

/-! ### Truth brought up to date (R46, R48) -/

/-- A state that differs from another in its lifts alone, and has the same lifts. -/
theorem State.eq_of_lifts {s t : State} (hrest : t = { s with lifts := t.lifts }) (h : ∀ i, t.lift i = s.lift i) : t = s := by
  have hlifts : t.lifts = s.lifts := Vector.ext fun i hi => h ⟨i, hi⟩
  rw [hrest, hlifts]

/-- The truth computed whole does not read the truth stored. -/
theorem State.truthOf_congr {s t : State} {i : LiftIdx} {x : CauseSet} (hpanels : t.panels = s.panels)
    (hlift : t.lift i = { s.lift i with dyn := { (s.lift i).dyn with truth := x } }) : t.truthOf i = s.truthOf i := by
  simp only [State.truthOf, State.sharedActive, hlift, State.panel_congr hpanels]
  rfl

section

variable {s : State} {l : LineId} {i : LiftIdx}

theorem State.withTruths_lift (p : Fin 16 → Bool) (i : LiftIdx) : (s.withTruths l p).lift i =
    if s.evaluated l p i then { s.lift i with dyn := { (s.lift i).dyn with truth := s.truthOf i } } else s.lift i :=
  getElem_tab _ _ _

/-- A lift after an evaluation: its truth alone may have moved. -/
theorem State.withTruths_lift_truth (p : Fin 16 → Bool) (i : LiftIdx) : (s.withTruths l p).lift i =
    { s.lift i with dyn := { (s.lift i).dyn with truth := if s.evaluated l p i then s.truthOf i else (s.lift i).dyn.truth } } := by
  rw [State.withTruths_lift]
  split <;> rfl

theorem State.truthOf_withTruths (p : Fin 16 → Bool) (i : LiftIdx) : (s.withTruths l p).truthOf i = s.truthOf i :=
  State.truthOf_congr rfl (State.withTruths_lift_truth p i)

theorem State.evaluated_withTruths (p q : Fin 16 → Bool) (i : LiftIdx) :
    (s.withTruths l p).evaluated l q i = s.evaluated l q i := by
  simp only [State.evaluated, State.withTruths_lift_truth]

theorem State.evaluated_iff {p : Fin 16 → Bool} : s.evaluated l p i = true ↔ lineOf i = l ∧ p (carSlotOf i) = true ∧
    (s.lift i).dyn.state ≠ .disabled ∧ (s.lift i).dyn.state ≠ .offline := by
  simp [State.evaluated, and_assoc]

/-- Evaluations one after another are those of the slots of either (R48). -/
theorem State.withTruths_withTruths (p q : Fin 16 → Bool) :
    (s.withTruths l p).withTruths l q = s.withTruths l fun k => p k || q k := by
  refine State.eq_of_lifts rfl fun i => ?_
  rw [State.withTruths_lift, State.withTruths_lift, State.evaluated_withTruths, State.truthOf_withTruths, State.withTruths_lift]
  have hor : s.evaluated l (fun k => p k || q k) i = (s.evaluated l p i || s.evaluated l q i) := by
    simp only [State.evaluated]
    cases p (carSlotOf i) <;> cases q (carSlotOf i) <;> simp
  rw [hor]
  cases s.evaluated l p i <;> cases s.evaluated l q i <;> rfl

theorem State.withTruths_false {p : Fin 16 → Bool} (h : ∀ i, s.evaluated l p i = false) : s.withTruths l p = s :=
  State.eq_of_lifts rfl fun i => by rw [State.withTruths_lift, h i]; rfl

/-- What raises nothing in becoming true raises nothing in staying true. -/
theorem raisedCauses_again {g : LiftConfig} {old new : CauseSet} (h : raisedCauses g old new = .empty) :
    raisedCauses g new new = .empty := by
  have hnone : ∀ x, (raisedCauses g new new).has x = false := fun x => by
    have hx : (raisedCauses g old new).has x = false := by rw [h]; cases x <;> rfl
    have hhas : ∀ old, (raisedCauses g old new).has x = ((g.cause x).enabled && new.has x && (match (g.cause x).trigger with
        | .edge => !old.has x
        | .level => true)) := fun old => by cases x <;> rfl
    rw [hhas] at hx ⊢
    generalize (g.cause x).trigger = trigger at hx ⊢
    cases trigger with
    | edge => cases new.has x <;> simp
    | level => exact hx
  calc raisedCauses g new new
      = CauseSet.filter (raisedCauses g new new).has := rfl
    _ = .empty := congrArg CauseSet.filter (funext hnone)

/-- A lift whose evaluation reaches nobody else is so after other evaluations, and after its own (R48). -/
theorem State.QuietTruth.withTruths (h : s.QuietTruth i) (p : Fin 16 → Bool) : (s.withTruths l p).QuietTruth i := by
  obtain ⟨hraised, hcase, hlatch⟩ := h
  refine ⟨?_, ?_, ?_⟩
  · rw [State.truthOf_withTruths, State.withTruths_lift_truth]
    dsimp only
    split
    · exact raisedCauses_again hraised
    · exact hraised
  · rw [State.withTruths_lift_truth]; exact hcase
  · rw [State.withTruths_lift_truth]; exact hlatch

/-! ### Evaluations that reach nobody but the lifts (R48) -/

/-- The evaluation of one lift of the line brings its truth up to date. -/
theorem storeTruth_eq_withTruths {k : Fin 16} (hon : (s.lift (liftAt l k)).dyn.state ≠ .disabled ∧
      (s.lift (liftAt l k)).dyn.state ≠ .offline) : storeTruth s (liftAt l k) = s.withTruths l fun slot => slot == k := by
  refine State.eq_of_lifts rfl fun i => ?_
  rw [State.withTruths_lift, storeTruth, State.lift_setDyn_if]
  by_cases hi : liftAt l k = i
  · subst hi
    rw [if_pos rfl, if_pos (State.evaluated_iff.mpr ⟨lineOf_liftAt l k, by simp, hon⟩)]
  · rw [if_neg hi, if_neg]
    intro heval
    obtain ⟨hline, hslot, _⟩ := State.evaluated_iff.mp heval
    exact hi (by rw [← hline, ← eq_of_beq hslot, liftAt_lineOf])

/-- A lift without a case and without a latch has nothing that the case manager could end. -/
theorem truthTold_quiet (hcase : (s.lift i).dyn.openCase = none) (hlatch : (s.lift i).dyn.latch = .empty) :
    truthTold s i = (s, []) := by
  have hset : s.setDyn i { (s.lift i).dyn with latch := .empty } = s := State.setLift_eq_self (by rw [← hlatch])
  rw [truthTold_noCase rfl hcase, hset, ite_self]

theorem Runs.sharedEval {k : Fin 16} (hb : s.Busy)
    (h : s.evaluated l (fun slot => slot == k) (liftAt l k) = true → s.QuietTruth (liftAt l k)) :
    Runs 2 s [.sharedEval (liftAt l k)] (s.withTruths l fun slot => slot == k) := by
  by_cases heval : s.evaluated l (fun slot => slot == k) (liftAt l k) = true
  · obtain ⟨hraised, hcase, hlatch⟩ := h heval
    obtain ⟨_, _, hon⟩ := State.evaluated_iff.mp heval
    have hstored := storeTruth_eq_withTruths hon
    have hperform : perform s (.sharedEval (liftAt l k)) = (storeTruth s (liftAt l k),
        toldIf (liftAt l k) (s.lift (liftAt l k)).dyn.truth (s.truthOf (liftAt l k))) := by
      simp [perform, Machine.sharedEval, hon, hraised, raiseIf, CauseSet.isEmpty]
    rw [← hstored]
    refine .step hb hperform ?_
    rw [List.append_nil]
    unfold toldIf
    split
    · exact .nil hb
    · refine .one hb (truthTold_quiet ?_ ?_) hb
      · rw [storeTruth, State.lift_setDyn]; exact hcase
      · rw [storeTruth, State.lift_setDyn]; exact hlatch
  · have hoff : (s.lift (liftAt l k)).dyn.state = .disabled ∨ (s.lift (liftAt l k)).dyn.state = .offline := by
      by_contra hon
      exact heval (State.evaluated_iff.mpr ⟨lineOf_liftAt l k, by simp, not_or.mp hon⟩)
    have hnone : ∀ i, s.evaluated l (fun slot => slot == k) i = false := fun i => by
      rw [← Bool.not_eq_true]
      intro hi
      obtain ⟨hline, hslot, hon⟩ := State.evaluated_iff.mp hi
      rw [show i = liftAt l k by rw [← hline, ← eq_of_beq hslot, liftAt_lineOf]] at hon
      exact hoff.elim hon.1 hon.2
    rw [State.withTruths_false hnone]
    exact (Runs.one hb (perform_sharedEval_off hoff) hb).mono (by omega)

theorem Runs.sharedEvals (xs : List (Fin 16)) : ∀ {s : State}, s.Busy →
    (∀ k ∈ xs, s.evaluated l (fun slot => slot == k) (liftAt l k) = true → s.QuietTruth (liftAt l k)) →
    Runs (2 * xs.length) s (xs.map fun k => .sharedEval (liftAt l k)) (s.withTruths l fun slot => xs.contains slot) := by
  induction xs with
  | nil =>
    intro s hb _
    rw [State.withTruths_false fun i => by simp [State.evaluated]]
    exact .nil hb
  | cons k xs ih =>
    intro s hb h
    have hfirst := Runs.sharedEval hb (h k (by simp))
    have hrest := ih (s := s.withTruths l fun slot => slot == k) hb fun j hj heval => by
      rw [State.evaluated_withTruths] at heval
      exact (h j (by simp [hj]) heval).withTruths _
    rw [State.withTruths_withTruths] at hrest
    simp only [List.contains_cons]
    exact (hfirst.append hrest).mono (by rw [List.length_cons]; omega)

/-- The evaluations of the slots that meet `p`, none of which reaches anybody but its lift (R48). -/
theorem Runs.sharedJobs (hb : s.Busy) (p : Fin 16 → Bool)
    (h : ∀ k, s.evaluated l p (liftAt l k) = true → s.QuietTruth (liftAt l k)) :
    Runs 32 s (sharedJobs l p) (s.withTruths l p) := by
  let xs := (List.finRange 16).filter p
  have hmem : (fun slot => xs.contains slot) = p := funext fun slot => by
    rw [Bool.eq_iff_iff, List.contains_iff_mem]
    simp [xs]
  have hlength : xs.length ≤ 16 := (List.length_filter_le _ _).trans (by simp)
  have hruns := Runs.sharedEvals (l := l) xs hb fun k hk heval => by
    obtain ⟨hline, _, hon⟩ := State.evaluated_iff.mp heval
    exact h k (State.evaluated_iff.mpr ⟨hline, by simpa [xs] using hk, hon⟩)
  rw [hmem] at hruns
  exact hruns.mono (by omega)

end

/-! ### Panel writes (R37) -/

section

variable {s : State} {p : PanelIdx} {g : PanelConfig}

theorem State.releaseOn_eq_true {l : LineId} : s.releaseOn l = true ↔
    ∃ c, s.isOpen c = true ∧ lineOf (s.caseAt c).lift = l ∧ (s.caseAt c).release ≠ none := by
  simp [State.releaseOn, and_assoc, Option.isSome_iff_ne_none]

theorem State.releaseOn_eq_false {l : LineId} : s.releaseOn l = false ↔
    ∀ c, s.isOpen c = true → lineOf (s.caseAt c).lift = l → (s.caseAt c).release = none := by
  simp [State.releaseOn]

theorem finish_applyPanel_disabled (hb : s.Busy) (hold : (s.panel p).config.enabled = false) (hnew : g.enabled = false) :
    finish (applyPanel s p g) = .next (s.setPanel p ⟨g, (s.panel p).dyn⟩) := by
  have hstored : (s.setPanel p ⟨g, (s.panel p).dyn⟩).Busy := hb
  simp only [applyPanel, hold, hnew]
  exact finish_busy hstored

/-- The panel is stored and cleared, and its line has its work, where it is not OFF (R31, R37). -/
theorem finish_applyPanel_enabling (hb : s.Busy) (hold : (s.panel p).config.enabled = false) (hnew : g.enabled = true)
    (hinputs : (s.panel p).dyn.inputs = 0#4) {t : State}
    (hwork : Runs 2 (s.setPanel p ⟨g, .cleared⟩)
      (if (s.line (panelLine p)).state = .off then [] else [.lineWork (panelLine p)]) t) :
    finish (applyPanel s p g) = .next t := by
  let u := s.setPanel p ⟨g, (s.panel p).dyn⟩
  have hu : u.panel p = ⟨g, (s.panel p).dyn⟩ := State.panel_setPanel _ _ _
  have hclear : Runs 17 u [.clearPanel p] (s.setPanel p ⟨g, .cleared⟩) := by
    have hruns := Runs.clearPanel (s := u) hb (p := p) (.inl (by rw [hu]; exact hinputs))
    have hcleared : u.clearedAt p = s.setPanel p ⟨g, .cleared⟩ := by
      rw [State.clearedAt, State.setPanelDyn, hu]
      exact State.setPanel_setPanel _ _ _ _
    rwa [hcleared] at hruns
  simp only [applyPanel, hold, hnew]
  exact (hclear.append hwork).finish_eq (by omega)

/-- What the crew logged at a panel comes to as the panel is disabled, and then the evaluations of its active inputs (R37). -/
theorem finish_applyPanel_disabling (hold : (s.panel p).config.enabled = true) (hnew : g.enabled = false) {t : State}
    (hleave : Runs 17 (s.setPanel p ⟨g, .cleared⟩) (crewsLeaveJobs s [p]) t) {active : Fin 16 → Bool}
    (hactive : active = fun slot => (List.finRange 4).any fun k =>
      (s.panel p).dyn.inputs.getLsbD k.val && (s.panel p).config.map[k.val].getLsbD slot.val)
    (hquiet : ∀ k, t.evaluated (panelLine p) active (liftAt (panelLine p) k) = true →
      t.QuietTruth (liftAt (panelLine p) k)) :
    finish (applyPanel s p g) = .next (t.withTruths (panelLine p) active) := by
  have hjobs : inputChangeJobs p (s.panel p).config.map (s.panel p).dyn.inputs 0#4 = sharedJobs (panelLine p) active := by
    simp only [inputChangeJobs, hactive, BitVec.getLsbD_zero, Bool.bne_false]
  simp only [applyPanel, hold, hnew, hjobs]
  exact (hleave.append (Runs.sharedJobs hleave.busy_end active hquiet)).finish_eq (by omega)

theorem finish_applyPanel_enabled (hb : s.Busy) (hold : (s.panel p).config.enabled = true) (hnew : g.enabled = true)
    {either : Fin 16 → Bool} (heither : either = fun slot => mapNames (s.panel p).config.map slot || mapNames g.map slot)
    (hquiet : ∀ k, (s.setPanel p ⟨g, (s.panel p).dyn⟩).evaluated (panelLine p) either (liftAt (panelLine p) k) = true →
      (s.setPanel p ⟨g, (s.panel p).dyn⟩).QuietTruth (liftAt (panelLine p) k)) :
    finish (applyPanel s p g) = .next ((s.setPanel p ⟨g, (s.panel p).dyn⟩).withTruths (panelLine p) either) := by
  subst heither
  simp only [applyPanel, hold, hnew]
  exact (Runs.sharedJobs (s := s.setPanel p ⟨g, (s.panel p).dyn⟩) hb _ hquiet).finish_eq (by omega)

/-- A tag that names no enabled crew, or no tag, leaves the panel to no effect (R88). -/
theorem Runs.panelLeft_unresolved {u : State} (hb : u.Busy)
    (h : ∀ tag, (s.panel p).dyn.logged = some tag → u.resolveTag tag = none) : Runs 17 u (crewsLeaveJobs s [p]) u := by
  rw [crewsLeaveJobs, List.flatMap_singleton]
  split
  · next tag htag => exact (Runs.one hb (perform_crewLeft_unresolved (h tag htag)) hb).mono (by omega)
  · exact .nil hb

/-- The crew logged at the panel leaves it, no release being tied to the panel (R88, R137). -/
theorem Runs.panelLeft {u : State} {tag : Nat} {j : CrewNo} (hb : u.Busy) (htag : (s.panel p).dyn.logged = some tag)
    (hj : u.resolveTag tag = some j) (h : ∀ c q, u.isOpen c = true → (u.caseAt c).release = some q → q.panel ≠ p) :
    Runs 17 u (crewsLeaveJobs s [p]) (u.setCrewDyn j { (u.crew j).dyn with
      logged := if (u.crew j).dyn.logged = some p then none else (u.crew j).dyn.logged }) := by
  rw [crewsLeaveJobs, List.flatMap_singleton, htag, ← State.crewLeaves_some hj]
  exact Runs.crewLeft hb p tag h

end

end Sys2Proof.Machine

namespace Sys2Proof

open Machine

/-- The configuration that a panel record stores (R37). -/
def PanelWrite.stored (w : PanelWrite) : PanelConfig :=
  ⟨w.enabled == 1, #v[BitVec.ofNat 16 w.map0, BitVec.ofNat 16 w.map1, BitVec.ofNat 16 w.map2, BitVec.ofNat 16 w.map3]⟩

theorem PanelWrite.config_eq {w : PanelWrite} (henabled : w.enabled ≤ 1) (h0 : w.map0 < 65536) (h1 : w.map1 < 65536)
    (h2 : w.map2 < 65536) (h3 : w.map3 < 65536) : w.config = some w.stored := by
  rw [PanelWrite.config, decodeYesNo_eq henabled]
  exact if_pos (by simp [h0, h1, h2, h3])

theorem PanelWrite.config_none {w : PanelWrite} (h : 1 < w.enabled ∨ 65536 ≤ w.map0 ∨ 65536 ≤ w.map1 ∨ 65536 ≤ w.map2 ∨
    65536 ≤ w.map3) : w.config = none := by
  unfold PanelWrite.config
  split
  · next enabled hdecodes =>
    have henabled : ¬ 1 < w.enabled := fun hlt => by
      obtain ⟨n, hn⟩ := Nat.exists_eq_add_of_lt hlt
      rw [show w.enabled = n + 2 by omega] at hdecodes
      exact absurd hdecodes nofun
    exact if_neg (by simp; omega)
  · rfl

end Sys2Proof

namespace Sys2Proof.Machine

/-- Settles O31: a write refused is answered at once, and each case of the enabled field has its own law. -/
theorem panelWritesAreLockedOrStored : Obligations.PanelWritesAreLockedOrStored := by
  intro s o p w hready l
  have hexec : exec (.writePanel o p.val w) s = finish (writePanelRequest s o p.val w) := rfl
  rw [writePanelRequest, toIdx_val] at hexec
  dsimp only at hexec
  refine ⟨fun hlocked => ?_, fun hfree => ⟨fun hfault => ?_, fun henabled h0 h1 h2 h3 => ?_⟩⟩
  · rw [hexec, if_pos (State.releaseOn_eq_true.mpr hlocked)]
    exact finish_answered hready o _ _
  · rw [hexec, State.releaseOn_eq_false.mpr hfree, PanelWrite.config_none hfault]
    exact finish_answered hready o _ _
  have hroom : s.trunk.own.length < 32 := hready.room
  rw [State.releaseOn_eq_false.mpr hfree, PanelWrite.config_eq henabled h0 h1 h2 h3, State.answer_room _ _ _ _ _ hroom] at hexec
  intro g a old writes cleared named
  have hwrites : ∀ t, finish (applyPanel a p g) = .next t → writes t := fun t h => hexec.trans h
  have hb : a.Busy := hready.busy
  have hg : ∀ n, w.enabled = n → g.enabled = (n == 1) := fun n hn => congrArg (· == 1) hn
  refine ⟨fun hold hnew => ?_, fun hold hnew hinputs => ⟨fun hidle => ?_, fun hidle hno first slots hs => ?_⟩,
    fun hold hnew => ?_, fun hold hnew => ?_⟩
  · exact hwrites _ (finish_applyPanel_disabled hb hold (hg 0 hnew))
  · refine hwrites _ (finish_applyPanel_enabling hb hold (hg 1 hnew) hinputs ?_)
    split
    · exact .nil hb
    · exact (Runs.lineWork_skip (s := cleared) hb hidle).mono (by omega)
  · refine hwrites _ (finish_applyPanel_enabling hb hold (hg 1 hnew) hinputs ?_)
    have hon : (a.line (panelLine p)).state ≠ .off := fun hoff => nomatch hidle.symm.trans hoff
    rw [if_neg hon]
    exact Runs.lineWork_starts (s := cleared) hb hidle (hno.congr rfl rfl) hs
  · intro active hquiet
    refine ⟨fun hleft => ?_, fun tag j htag hj huntied => ?_⟩
    · exact hwrites _ (finish_applyPanel_disabling (s := a) hold (hg 0 hnew)
        (Runs.panelLeft_unresolved (s := a) (u := cleared) hb hleft) rfl hquiet)
    · exact hwrites _ (finish_applyPanel_disabling (s := a) hold (hg 0 hnew)
        (Runs.panelLeft (s := a) (u := cleared) hb htag hj huntied) rfl fun k heval => ⟨(hquiet k heval).raised, (hquiet k heval).noCase, (hquiet k heval).noLatch⟩)
  · intro kept either hquiet
    exact hwrites _ (finish_applyPanel_enabled hb hold (hg 1 hnew) rfl hquiet)

end Sys2Proof.Machine
end

section
/-! SUPPORT. Cause sets by their members, the truth of each cause, and what an evaluation raises (R46, R49). -/

namespace Sys2Proof.Machine

/-! ### Cause sets by their members -/

/-- Two sets with the same members are one. -/
theorem CauseSet.ext_has {a b : CauseSet} (h : ∀ x, a.has x = b.has x) : a = b :=
  calc a = .filter a.has := rfl
    _ = .filter b.has := congrArg CauseSet.filter (funext h)
    _ = b := rfl

@[simp] theorem CauseSet.filter_has (p : Cause → Bool) (x : Cause) : (CauseSet.filter p).has x = p x := by cases x <;> rfl
@[simp] theorem CauseSet.empty_has (x : Cause) : CauseSet.empty.has x = false := by cases x <;> rfl
@[simp] theorem CauseSet.union_has (a b : CauseSet) (x : Cause) : (a.union b).has x = (a.has x || b.has x) :=
  CauseSet.filter_has _ x
@[simp] theorem CauseSet.diff_has (a b : CauseSet) (x : Cause) : (a.diff b).has x = (a.has x && !b.has x) :=
  CauseSet.filter_has _ x

theorem CauseSet.eq_empty_iff {a : CauseSet} : a = .empty ↔ ∀ x, a.has x = false :=
  ⟨fun h x => h ▸ empty_has x, fun h => ext_has fun x => (h x).trans (empty_has x).symm⟩

@[simp] theorem CauseSet.isEmpty_iff {a : CauseSet} : a.isEmpty = true ↔ a = .empty := by simp [isEmpty]

/-! ### Cause truth (R46) -/

section

variable {s : State} {i : LiftIdx}

/-- The condition under which a cause of a lift in another state than DISABLED and OFFLINE is true, where it is enabled. -/
def State.causeHolds (s : State) (i : LiftIdx) : Cause → Prop
  | .stall => ((s.lift i).dyn.lastReport ≠ none ∧ (s.lift i).dyn.state = .stalled) ∨
      ((s.lift i).dyn.lastReport = none ∧ (s.lift i).dyn.keptTruth.stall = true)
  | .alarm => (∃ n, (s.lift i).dyn.lastReport = some n ∧ n.alarm = true) ∨
      ((s.lift i).dyn.lastReport = none ∧ (s.lift i).dyn.keptTruth.alarm = true)
  | .shared => ∃ place k : Fin 4, (s.panel (panelAt (lineOf i) place)).config.enabled = true ∧
      (s.panel (panelAt (lineOf i) place)).dyn.inputs.getLsbD k.val = true ∧
      (s.panel (panelAt (lineOf i) place)).config.map[k.val].getLsbD (carSlotOf i).val = true
  | .silent => (s.lift i).dyn.state = .silent
  | .manual => False

theorem State.sharedActive_iff (s : State) (l : LineId) (slot : Fin 16) : s.sharedActive l slot = true ↔
    ∃ place k : Fin 4, (s.panel (panelAt l place)).config.enabled = true ∧
      (s.panel (panelAt l place)).dyn.inputs.getLsbD k.val = true ∧
      (s.panel (panelAt l place)).config.map[k.val].getLsbD slot.val = true := by
  simp only [State.sharedActive, List.any_eq_true, List.mem_finRange, true_and, Bool.and_eq_true, exists_and_left]

/-- A cause is true where the lift is known, the cause enabled and its condition met (R46). -/
theorem State.truthOf_has (s : State) (i : LiftIdx) (x : Cause) : (s.truthOf i).has x = true ↔
    ((s.lift i).dyn.state ≠ .disabled ∧ (s.lift i).dyn.state ≠ .offline) ∧ ((s.lift i).config.cause x).enabled = true ∧
      s.causeHolds i x := by
  by_cases hoff : (s.lift i).dyn.state = .disabled ∨ (s.lift i).dyn.state = .offline
  · have hempty : s.truthOf i = .empty := if_pos (by simpa using hoff)
    rw [hempty, CauseSet.empty_has]
    exact iff_of_false Bool.false_ne_true fun h => hoff.elim h.1.1 h.1.2
  · rw [State.truthOf, if_neg (by simpa using hoff), CauseSet.filter_has, Bool.and_eq_true, iff_true_intro (not_or.mp hoff),
      true_and]
    refine and_congr_right fun _ => ?_
    cases x with
    | stall =>
      cases hreport : (s.lift i).dyn.lastReport <;> simp [State.causeHolds, LiftDynamic.heldTruth, hreport]
    | alarm =>
      cases hreport : (s.lift i).dyn.lastReport <;> simp [State.causeHolds, LiftDynamic.heldTruth, Lift.reports, hreport]
    | shared => exact s.sharedActive_iff _ _
    | silent => exact beq_iff_eq
    | manual => exact iff_of_false Bool.false_ne_true id

/-- What stands is enabled and true, or kept by a LINE_RESET while there is no last report (log 34). -/
theorem Lift.standingTruth_iff (r : Lift) (x : Cause) : r.standingTruth.has x = true ↔
    (r.config.cause x).enabled = true ∧
      (r.dyn.truth.has x = true ∨ (r.dyn.lastReport = none ∧ r.dyn.keptTruth.has x = true)) := by
  rw [Lift.standingTruth_has]
  cases hreport : r.dyn.lastReport with
  | none => simp [LiftDynamic.heldTruth_of_none hreport]
  | some n => simp [LiftDynamic.heldTruth_of_report hreport]

/-! ### What is raised (R49) -/

theorem raisedCauses_has (g : LiftConfig) (old new : CauseSet) (x : Cause) : (raisedCauses g old new).has x = true ↔
    (g.cause x).enabled = true ∧ new.has x = true ∧ ((g.cause x).trigger = .level ∨ old.has x = false) := by
  rw [raisedCauses, CauseSet.filter_has, Bool.and_eq_true, Bool.and_eq_true, and_assoc]
  cases (g.cause x).trigger <;> simp

@[simp] theorem raiseIf_eq (i : LiftIdx) (raised : CauseSet) :
    raiseIf i raised = if raised = .empty then [] else [.raise i raised] := by
  simp only [raiseIf, CauseSet.isEmpty_iff]

/-! ### Evaluations of one lift (R28, R45, R48) -/

theorem storeTruth_lift (s : State) (i : LiftIdx) :
    (storeTruth s i).lift i = ⟨(s.lift i).config, { (s.lift i).dyn with truth := s.truthOf i }⟩ := State.lift_setDyn _ _ _

/-- A lift takes part in an evaluation of SHARED in every state but DISABLED and OFFLINE (R48). -/
theorem sharedEval_on (hdis : (s.lift i).dyn.state ≠ .disabled) (hoff : (s.lift i).dyn.state ≠ .offline) : sharedEval s i =
    (storeTruth s i, toldIf i (s.lift i).dyn.truth (s.truthOf i) ++
      raiseIf i (raisedCauses (s.lift i).config (s.lift i).dyn.truth (s.truthOf i))) :=
  if_neg (by simp [hdis, hoff])

theorem sharedEval_off (h : (s.lift i).dyn.state = .disabled ∨ (s.lift i).dyn.state = .offline) :
    sharedEval s i = (s, []) := perform_sharedEval_off h

/-- The lift of a silent slot, before its truth is computed: the count goes up, and at the threshold it is SILENT (R45). -/
def LiftDynamic.silenced (d : LiftDynamic) (g : LiftConfig) : LiftDynamic :=
  { d with
    silenceCount := min 15 (d.silenceCount + 1)
    state := if g.silence ≤ min 15 (d.silenceCount + 1) then .silent else d.state }

/-- What a silent slot makes of the lift and hands on (R45, R54). -/
theorem silentSlot_eq (s : State) (i : LiftIdx) :
    let g := (s.lift i).config
    let d := (s.lift i).dyn
    let v := s.setDyn i (d.silenced g)
    silentSlot s i = (storeTruth v i, toldIf i d.truth (v.truthOf i) ++ raiseIf i (raisedCauses g d.truth (v.truthOf i)) ++
      if (d.silenced g).state = d.state then [] else [.summaryChange i]) := by
  intro g d v
  have htruth : ((storeTruth v i).lift i).dyn.truth = v.truthOf i := congrArg (fun r => r.dyn.truth) (storeTruth_lift v i)
  rw [← htruth]
  simp only [silentSlot, satInc_eq_min]
  rfl

theorem silentSlot_lift (s : State) (i : LiftIdx) : (silentSlot s i).1.lift i = ⟨(s.lift i).config,
    { (s.lift i).dyn.silenced (s.lift i).config with
      truth := (s.setDyn i ((s.lift i).dyn.silenced (s.lift i).config)).truthOf i }⟩ := by
  rw [silentSlot_eq]
  exact (storeTruth_lift _ i).trans (by rw [State.lift_setDyn])

/-- An evaluation of SHARED touches the truth of its lift alone. -/
theorem sharedEval_lift (s : State) (i : LiftIdx) : ∃ x, (sharedEval s i).1.lift i =
    ⟨(s.lift i).config, { (s.lift i).dyn with truth := x }⟩ := by
  by_cases h : (s.lift i).dyn.state = .disabled ∨ (s.lift i).dyn.state = .offline
  · exact ⟨(s.lift i).dyn.truth, by rw [sharedEval_off h]⟩
  · obtain ⟨hdis, hoff⟩ := not_or.mp h
    exact ⟨s.truthOf i, by rw [sharedEval_on hdis hoff]; exact storeTruth_lift s i⟩

/-- What a taken report makes of the lift (R54). -/
theorem takenReport_lift (s : State) (i : LiftIdx) (r : CarReport) : (takenReport s i r).1.lift i = ⟨(s.lift i).config,
    { reportedDyn (s.lift i).config (s.lift i).dyn r with
      truth := (s.setDyn i (reportedDyn (s.lift i).config (s.lift i).dyn r)).truthOf i }⟩ :=
  (storeTruth_lift _ i).trans (by rw [State.lift_setDyn])

theorem resetLift_lift (hen : (s.lift i).config.enabled = true) :
    (resetLift s i).1.lift i = ⟨(s.lift i).config, (s.lift i).dyn.afterReset⟩ := by
  simp only [resetLift, hen, if_true, State.lift_setDyn, LiftDynamic.truthToKeep_eq]
  rfl

theorem LiftDynamic.afterReset_keptTruth (d : LiftDynamic) (x : Cause) (h : d.truth.has x = true) :
    d.afterReset.keptTruth.has x = true := by
  rw [LiftDynamic.afterReset]
  dsimp only
  split <;> simp [h]

end

/-- What a lift without a last report keeps stands, while the cause is enabled. -/
theorem Lift.standingTruth_of_kept {r : Lift} {x : Cause} (hen : (r.config.cause x).enabled = true)
    (hreport : r.dyn.lastReport = none) (hkept : r.dyn.keptTruth.has x = true) : r.standingTruth.has x = true :=
  (r.standingTruth_iff x).mpr ⟨hen, .inr ⟨hreport, hkept⟩⟩

/-- STALL and ALARM are held while there is no last report (R28, R46). -/
theorem State.truthOf_of_kept {s : State} {i : LiftIdx} {x : Cause} (hx : x = .stall ∨ x = .alarm)
    (hon : (s.lift i).dyn.state ≠ .disabled ∧ (s.lift i).dyn.state ≠ .offline)
    (hen : ((s.lift i).config.cause x).enabled = true) (hreport : (s.lift i).dyn.lastReport = none)
    (hkept : (s.lift i).dyn.keptTruth.has x = true) : (s.truthOf i).has x = true := by
  refine (s.truthOf_has i x).mpr ⟨hon, hen, ?_⟩
  rcases hx with rfl | rfl <;> exact .inr ⟨hreport, hkept⟩

/-- What a LINE_RESET has kept of the truth: it stands in the state after it, and after a silent slot or an evaluation of SHARED
there; STALL and ALARM stay in the set itself (R21, R28, R74, log 34). -/
theorem resetLift_keeps {s : State} {i : LiftIdx} (hen : (s.lift i).config.enabled = true) {x : Cause}
    (hx : (s.lift i).dyn.truth.has x = true) (hcause : ((s.lift i).config.cause x).enabled = true) :
    let t := (resetLift s i).1
    (t.lift i).standingTruth.has x = true ∧ ((silentSlot t i).1.lift i).standingTruth.has x = true ∧
      ((sharedEval t i).1.lift i).standingTruth.has x = true ∧
      (x = .stall ∨ x = .alarm → (t.truthOf i).has x = true ∧ ((silentSlot t i).1.lift i).dyn.truth.has x = true) := by
  intro t
  have ht : t.lift i = ⟨(s.lift i).config, (s.lift i).dyn.afterReset⟩ := resetLift_lift hen
  have hkept := (s.lift i).dyn.afterReset_keptTruth x hx
  obtain ⟨y, hy⟩ := sharedEval_lift t i
  have hsilent := silentSlot_lift t i
  rw [ht] at hy hsilent
  refine ⟨by rw [ht]; exact Lift.standingTruth_of_kept hcause rfl hkept,
    by rw [hsilent]; exact Lift.standingTruth_of_kept hcause rfl hkept,
    by rw [hy]; exact Lift.standingTruth_of_kept hcause rfl hkept, fun hheld => ⟨?_, ?_⟩⟩
  · exact State.truthOf_of_kept hheld (by rw [ht]; exact ⟨nofun, nofun⟩) (by rw [ht]; exact hcause) (by rw [ht]; rfl)
      (by rw [ht]; exact hkept)
  · rw [hsilent]
    refine State.truthOf_of_kept hheld ?_ ?_ ?_ ?_ <;> rw [State.lift_setDyn, ht]
    · dsimp only [LiftDynamic.silenced]
      split <;> exact ⟨nofun, nofun⟩
    · exact hcause
    · rfl
    · exact hkept

/-- Settles O53: the truth of each cause, what is raised, what a reset keeps, and the evaluation of SHARED. -/
theorem truthAndRaisesFollowTheConditions : Obligations.TruthAndRaisesFollowTheConditions := by
  refine ⟨fun s i => ?_, raisedCauses_has, fun s i => ?_, fun s i => ⟨sharedEval_off, fun hdis hoff => ?_⟩⟩
  · refine ⟨s.truthOf_has i .stall, s.truthOf_has i .alarm, s.truthOf_has i .shared, s.truthOf_has i .silent, ?_,
      (s.lift i).standingTruth_iff⟩
    exact Bool.not_eq_true _ ▸ fun h => ((s.truthOf_has i .manual).mp h).2.2
  · intro g d t
    refine ⟨fun hen => ⟨?_, fun x hx => ⟨?_, resetLift_keeps hen hx⟩⟩, ?_, ?_, fun r => ?_, fun st => ?_⟩
    · rw [resetLift_lift hen]; rfl
    · rw [resetLift_lift hen]; exact d.afterReset_keptTruth x hx
    · rw [silentSlot_lift]; rfl
    · obtain ⟨x, hx⟩ := sharedEval_lift s i
      rw [hx]
    · rw [takenReport_lift]; rfl
    · exact congrArg (fun r => r.dyn.keptTruth) (State.lift_setDyn s i (.entered st))
  · rw [sharedEval_on hdis hoff, raiseIf_eq]
    rfl

end Sys2Proof.Machine
end

section
/-! SUPPORT. The arithmetic of one report (R38 to R44), and what a taken report hands on (R51, R54). -/

namespace Sys2Proof.Machine

/-! ### The arithmetic of one report (R38 to R44) -/

theorem distance_eq (a b : Nat) : distance a b = ((a : Int) - b).natAbs := by
  unfold distance; omega

/-- The landing at place `best` is the nearest to `p`, the lowest of equals (R40). -/
def IsNearest (p : Nat) (landings : List Nat) (best : Nat) : Prop :=
  ∃ h, landings[best]? = some h ∧ ∀ j x, landings[j]? = some x →
    distance p h ≤ distance p x ∧ (j < best → distance p h < distance p x)

/-- One more landing replaces the nearest only where it is strictly nearer. -/
theorem IsNearest.snoc {p best h : Nat} {done : List Nat} (hbest : IsNearest p done best) (hh : done[best]? = some h) (y : Nat) :
    IsNearest p (done ++ [y]) (if distance p y < distance p h then done.length else best) := by
  obtain ⟨h', hh', hleast⟩ := hbest
  obtain rfl : h' = h := Option.some.inj (hh'.symm.trans hh)
  have hlt : best < done.length := (List.getElem?_eq_some_iff.mp hh).1
  have hread : ∀ j x, (done ++ [y])[j]? = some x → done[j]? = some x ∨ (j = done.length ∧ x = y) := by
    intro j x hx
    rcases lt_or_ge j done.length with hj | hj
    · rw [List.getElem?_append_left hj] at hx
      exact .inl hx
    · rw [List.getElem?_append_right hj, List.getElem?_singleton] at hx
      split at hx
      · exact .inr ⟨by omega, (Option.some.inj hx).symm⟩
      · cases hx
  split
  · next hnearer =>
    refine ⟨y, by simp, fun j x hx => ?_⟩
    rcases hread j x hx with hx | ⟨hj, rfl⟩
    · have hleast := (hleast j x hx).1
      exact ⟨by omega, fun _ => by omega⟩
    · exact ⟨le_refl _, fun hj' => by omega⟩
  · next hno =>
    refine ⟨h', by rw [List.getElem?_append_left hlt]; exact hh, fun j x hx => ?_⟩
    rcases hread j x hx with hx | ⟨hj, rfl⟩
    · exact hleast j x hx
    · exact ⟨by omega, fun hj' => by omega⟩

theorem nearestFrom_isNearest {p : Nat} (rest : List Nat) : ∀ {done : List Nat} {best h : Nat}, IsNearest p done best →
    done[best]? = some h → IsNearest p (done ++ rest) (nearestFrom p done.length best (distance p h) rest) := by
  induction rest with
  | nil => exact fun hbest _ => by simpa [nearestFrom] using hbest
  | cons y rest ih =>
    intro done best h hbest hh
    have hlt : best < done.length := (List.getElem?_eq_some_iff.mp hh).1
    have hnext := hbest.snoc hh y
    rw [nearestFrom, List.append_cons, show done.length + 1 = (done ++ [y]).length by simp]
    split
    · next hnearer =>
      rw [if_pos hnearer] at hnext
      exact ih hnext (by simp)
    · next hno =>
      rw [if_neg hno] at hnext
      exact ih hnext (by rw [List.getElem?_append_left hlt]; exact hh)

theorem nearestLanding_isNearest {landings : List Nat} (p : Nat) (h : landings ≠ []) :
    IsNearest p landings (nearestLanding landings p) := by
  cases landings with
  | nil => exact absurd rfl h
  | cons y rest =>
    have hfirst : IsNearest p [y] 0 := ⟨y, rfl, fun j x hx => by
      rw [List.getElem?_singleton] at hx
      split at hx
      · cases hx; exact ⟨le_refl _, fun hj => by omega⟩
      · cases hx⟩
    exact nearestFrom_isNearest (done := [y]) rest hfirst rfl

theorem moving_iff (creep code : Nat) : moving creep code = true ↔ creep ≤ ((code : Int) - 512).natAbs := by
  rw [moving, decide_eq_true_eq, distance_eq]
  rfl

theorem inDoorZone_iff {landings : List Nat} {p h : Nat} (dz : Nat) (hh : landings[nearestLanding landings p]? = some h) :
    inDoorZone landings dz p = true ↔ ((p : Int) - h).natAbs ≤ dz := by
  simp only [inDoorZone, hh, decide_eq_true_eq, distance_eq]

/-- The lift state by the table of R44, line by line. -/
theorem liftStateOf_cases (mode : CarMode) (moves zone : Bool) (stops debounce : Nat) :
    let st := liftStateOf mode moves zone stops debounce
    (mode = .maint → st = .maintenance) ∧ (mode ≠ .maint → moves = true → st = .running) ∧
    (mode ≠ .maint → ¬ moves = true → zone = true → st = .parked) ∧
    (mode ≠ .maint → ¬ moves = true → ¬ zone = true → stops < debounce → st = .halted) ∧
    (mode ≠ .maint → ¬ moves = true → ¬ zone = true → debounce ≤ stops → st = .stalled) := by
  intro st
  refine ⟨fun hm => if_pos hm, fun hm hv => ?_, fun hm hv hz => ?_, fun hm hv hz hs => ?_, fun hm hv hz hs => ?_⟩
  · simp [st, liftStateOf, hm, hv]
  · simp [st, liftStateOf, hm, hv, hz]
  · simp [st, liftStateOf, hm, hv, hz, hs]
  · simp [st, liftStateOf, hm, hv, hz, Nat.not_lt.mpr hs]

/-- The stop count goes up on a report neither moving nor in the zone, and returns to 0 on every other (R43). -/
theorem stopCountAfter_cases (count : Nat) (moves zone : Bool) :
    (¬ moves = true → ¬ zone = true → stopCountAfter count moves zone = min 15 (count + 1)) ∧
    (moves = true ∨ zone = true → stopCountAfter count moves zone = 0) := by
  refine ⟨fun hv hz => ?_, fun h => ?_⟩
  · simp [stopCountAfter, hv, hz, satInc_eq_min]
  · simp [stopCountAfter, h]

/-! ### Car events (R51) -/

/-- What a duplicate-free list keeps in order is found again by filtering. -/
theorem sublist_eq_filter_mem {α : Type} [DecidableEq α] {l m : List α} (h : l.Sublist m) (hm : m.Nodup) :
    l = m.filter (· ∈ l) := by
  induction h with
  | slnil => rfl
  | @cons l m a hsub ih =>
    obtain ⟨ha, hm⟩ := List.nodup_cons.mp hm
    rw [List.filter_cons_of_neg (by simpa using fun hl => ha (hsub.subset hl))]
    exact ih hm
  | @cons_cons l m a hsub ih =>
    obtain ⟨ha, hm⟩ := List.nodup_cons.mp hm
    rw [List.filter_cons_of_pos (by simp), List.filter_congr (q := (· ∈ l)) fun x hx => ?_, ← ih hm]
    have hne : x ≠ a := fun h => ha (h ▸ hx)
    simp [hne]

/-- The car events of a report are those of R51, in its order. -/
theorem carEvents_spec (before after : LiftState) (previous : Option CarRecord) (now : CarRecord) :
    CarEvents before after previous now (carEvents before after previous now) := by
  have hone : ∀ (p : Prop) [Decidable p] (e : NamedEvent), (if p then [e] else []).Sublist [e] := fun p _ e => by
    split
    · exact .refl _
    · exact List.nil_sublist _
  have hmem : ∀ (p : Prop) [Decidable p] (e x : NamedEvent), x ∈ (if p then [e] else []) ↔ p ∧ x = e := fun p _ e x => by
    split <;> simp [*]
  refine ⟨(((hone _ .carMoved).append (hone _ .inZone)).append (hone _ .doorsOpen)).append (hone _ .evacuated), ?_, ?_, ?_, ?_⟩
  · simp [carEvents, hmem]
  · simp [carEvents, hmem, and_comm]
  · simp only [carEvents, hmem, List.mem_append, reduceCtorEq, and_false, or_false, false_or, and_true, Bool.and_eq_true,
      decide_eq_true_eq, Option.all_eq_true, ne_eq]
  · simp [carEvents, hmem, and_assoc]

/-- They are the only ones. -/
theorem CarEvents.eq {before after : LiftState} {previous : Option CarRecord} {now : CarRecord} {events : List NamedEvent}
    (h : CarEvents before after previous now events) : events = carEvents before after previous now := by
  have hspec := carEvents_spec before after previous now
  have hnodup : [NamedEvent.carMoved, .inZone, .doorsOpen, .evacuated].Nodup := by decide
  rw [sublist_eq_filter_mem h.order hnodup, sublist_eq_filter_mem hspec.order hnodup]
  refine List.filter_congr fun e he => decide_eq_decide.mpr ?_
  rcases List.mem_cons.mp he with rfl | he
  · exact h.moved.trans hspec.moved.symm
  rcases List.mem_cons.mp he with rfl | he
  · exact h.zone.trans hspec.zone.symm
  rcases List.mem_cons.mp he with rfl | he
  · exact h.doors.trans hspec.doors.symm
  · obtain rfl := List.mem_singleton.mp he
    exact h.evacuated.trans hspec.evacuated.symm

/-! ### What a taken report makes and hands on (R54) -/

section

variable (s : State) (i : LiftIdx) (r : CarReport)

theorem takenReport_state : (takenReport s i r).1 = s.setLift i ((takenReport s i r).1.lift i) := by
  rw [takenReport_lift]
  change (s.setDyn i _).setDyn i _ = _
  rw [State.setDyn, State.setDyn, State.setLift_setLift, State.lift_setLift]

theorem takenReport_truth : ((takenReport s i r).1.lift i).dyn.truth = (takenReport s i r).1.truthOf i := by
  have hsame : (takenReport s i r).1.truthOf i = (s.setDyn i (reportedDyn (s.lift i).config (s.lift i).dyn r)).truthOf i :=
    State.truthOf_setDyn rfl rfl rfl
  rw [hsame, takenReport_lift]

/-- The occupancy change and the new presses that a report tells the case open before it. -/
def laterNews (s : State) (i : LiftIdx) (r : CarReport) (c : CaseNo) : List Job :=
  (if r.occupancy = .occupied ∧ ((s.lift i).dyn.lastReport.any fun m => m.occupancy == .occupied) = false
    then [.occupancy c (s.caseAt c).serial] else []) ++
  (if newPresses (s.lift i).dyn.pressBaseline r.presses = 0 then []
    else [.presses c (s.caseAt c).serial (newPresses (s.lift i).dyn.pressBaseline r.presses)])

/-- The news that a report gives to the case open before it: what R51 lists, in its order. -/
def newsOf (s : State) (i : LiftIdx) (r : CarReport) (after : LiftState) (now : CarRecord) (c : CaseNo) : List Job :=
  .releaseReport c (s.caseAt c).serial (decide ((s.lift i).config.creep ≤ ((r.velocityCode : Int) - 512).natAbs)) ::
    (carEvents (s.lift i).dyn.state after (s.lift i).dyn.lastReport now).map (.event c (s.caseAt c).serial ·) ++
    laterNews s i r c

/-- The report as the lift keeps it (R38). -/
def State.reportOf (s : State) (i : LiftIdx) (r : CarReport) : CarRecord :=
  r.decoded (inDoorZone (s.lift i).config.landings (s.lift i).config.doorZone r.position)

theorem handOver_eq (c : CaseNo) (after : LiftState) :
    handOver c (s.caseAt c).serial (moving (s.lift i).config.creep r.velocityCode) (s.lift i).dyn.state after
      (s.lift i).dyn.lastReport (s.reportOf i r) (newPresses (s.lift i).dyn.pressBaseline r.presses) =
    newsOf s i r after (s.reportOf i r) c := by
  have hmoves : moving (s.lift i).config.creep r.velocityCode =
      decide ((s.lift i).config.creep ≤ ((r.velocityCode : Int) - 512).natAbs) := by
    rw [Bool.eq_iff_iff, moving_iff, decide_eq_true_eq]
  have hocc : ((r.occupancy = .occupied && (s.lift i).dyn.lastReport.all fun p => decide (p.occupancy ≠ .occupied)) = true) =
      (r.occupancy = .occupied ∧ ((s.lift i).dyn.lastReport.any fun m => m.occupancy == .occupied) = false) := by
    cases (s.lift i).dyn.lastReport <;> simp
  rw [handOver, newsOf, laterNews, hmoves, List.append_assoc]
  congr 2
  exact if_congr hocc.to_iff rfl rfl

/-- The jobs of a taken report in their order (R54). -/
theorem takenReport_jobs : let d := (s.lift i).dyn
    let e := ((takenReport s i r).1.lift i).dyn
    let raised := raisedCauses (s.lift i).config d.truth e.truth
    (takenReport s i r).2 =
      (if d.truth = e.truth ∧ (s.lift i).standingTruth = e.truth then [] else [.truthTold i]) ++
      (match d.openCase with
        | some c => newsOf s i r e.state (s.reportOf i r) c
        | none => []) ++
      (if raised = .empty then [] else [.raise i raised]) ++ [.summaryReport i d.state d.lastReport] := by
  intro d e raised
  have htold : toldAtReport i (s.lift i) e.truth =
      if d.truth = e.truth ∧ (s.lift i).standingTruth = e.truth then [] else [.truthTold i] := by
    simp only [toldAtReport, Bool.and_eq_true, decide_eq_true_eq]
    rfl
  rw [← htold, ← raiseIf_eq]
  simp only [← handOver_eq]
  rfl

/-- What a taken report makes of the lift state and the stop count, whatever they were (R39 to R44). -/
theorem takenReport_arithmetic (hlandings : (s.lift i).config.landings ≠ []) :
    let g := (s.lift i).config
    let d := (s.lift i).dyn
    let e := ((takenReport s i r).1.lift i).dyn
    ∃ h : Nat, g.landings[e.nearest]? = some h ∧
      (∀ j x : Nat, g.landings[j]? = some x → ((r.position : Int) - h).natAbs ≤ ((r.position : Int) - x).natAbs ∧
        (j < e.nearest → ((r.position : Int) - h).natAbs < ((r.position : Int) - x).natAbs)) ∧
      let moves : Prop := g.creep ≤ ((r.velocityCode : Int) - 512).natAbs
      let zone : Prop := ((r.position : Int) - h).natAbs ≤ g.doorZone
      (¬ moves → ¬ zone → e.stopCount = min 15 (d.stopCount + 1)) ∧ (moves ∨ zone → e.stopCount = 0) ∧
      (r.mode = .maint → e.state = .maintenance) ∧
      (r.mode ≠ .maint → moves → e.state = .running) ∧
      (r.mode ≠ .maint → ¬ moves → zone → e.state = .parked) ∧
      (r.mode ≠ .maint → ¬ moves → ¬ zone → e.stopCount < g.debounce → e.state = .halted) ∧
      (r.mode ≠ .maint → ¬ moves → ¬ zone → g.debounce ≤ e.stopCount → e.state = .stalled) := by
  intro g d e
  obtain ⟨h, hh, hleast⟩ := nearestLanding_isNearest r.position hlandings
  have he : e = { reportedDyn g d r with truth := e.truth } := by
    simp only [e, takenReport_lift]
    rfl
  have hzone := inDoorZone_iff (landings := g.landings) g.doorZone hh
  simp only [distance_eq] at hleast
  have hstops := stopCountAfter_cases d.stopCount (moving g.creep r.velocityCode)
    (inDoorZone g.landings g.doorZone r.position)
  have hstate := liftStateOf_cases r.mode (moving g.creep r.velocityCode) (inDoorZone g.landings g.doorZone r.position)
    (stopCountAfter d.stopCount (moving g.creep r.velocityCode) (inDoorZone g.landings g.doorZone r.position)) g.debounce
  simp only [moving_iff, hzone] at hstops hstate
  rw [he]
  exact ⟨h, hh, hleast, hstops.1, hstops.2, hstate⟩

end

end Sys2Proof.Machine
end

section
/-! SUPPORT. The case manager in the statements' vocabulary: openings, raises, latches and closes (R61 to R67, R74, R76 to R78). -/

namespace Sys2Proof.Machine

/-! ### Values of a set of causes in the class table (R62, R66) -/

section

variable {s : State} {c : CaseNo} {i : LiftIdx} {set : CauseSet}

theorem State.smallest_eq (s : State) (field : ClassEntry → Nat) (top : Nat) (set : CauseSet) :
    s.smallest field top set = s.leastOf field top set :=
  calc s.smallest field top set
      = (set.toList.map fun x => field (s.classOf x)).foldl min top := List.foldl_map.symm
    _ = (set.toList.map fun x => field (s.classOf x)).foldr min top := List.foldl_eq_foldr
    _ = s.leastOf field top set := by rw [List.foldr_map, CauseSet.toList, List.foldr_filter]; rfl

theorem State.openingUrgency_eq (s : State) (i : LiftIdx) (set : CauseSet) :
    s.openingUrgency i set = s.urgencyAtOpening i set := by
  simp only [State.openingUrgency, State.urgencyAtOpening, State.smallest_eq, Lift.occupied, Lift.reports]
  cases (s.lift i).dyn.lastReport <;> rfl

/-- The first cause of a set that is not empty gives its class entry. -/
theorem State.firstClass_eq (s : State) (h : set ≠ .empty) : s.firstClass set = some (s.leadingClass set) := by
  rw [State.firstClass, CauseSet.toList, List.head?_filter, State.leadingClass]
  obtain ⟨stall, alarm, shared, silent, manual⟩ := set
  cases stall with
  | true => rfl
  | false =>
  cases alarm with
  | true => rfl
  | false =>
  cases shared with
  | true => rfl
  | false =>
  cases silent with
  | true => rfl
  | false =>
  cases manual with
  | true => rfl
  | false => exact absurd rfl h

/-! ### Openings (R61 to R63) -/

theorem State.setCase_eq_self {r : Case} (h : r = s.caseAt c) : s.setCase c r = s := by
  subst h; simp [State.setCase, State.caseAt]

theorem State.openingRecord_eq (s : State) (i : LiftIdx) (h : set ≠ .empty) :
    s.openingRecord i set = s.recordAtOpening i set := by
  have hoccupied : (s.lift i).occupied = (s.lift i).dyn.lastReport.any fun n => n.occupancy == .occupied := by
    rw [Lift.occupied, Lift.reports]
    cases (s.lift i).dyn.lastReport <;> rfl
  simp only [State.openingRecord, State.smallest_eq, State.openingUrgency_eq, State.firstClass_eq s h, hoccupied]
  rfl

/-- An opening with room for OPENED and CALL (R62, R63). -/
theorem openCase_room (h : set ≠ .empty) (hroom : s.trunk.own.length + 2 ≤ 32) :
    openCase s c i set = (s.openedIn c i set, [.go c 0 0 false]) := by
  let u := s.seated c i set
  have hcase : u.caseAt c = s.recordAtOpening i set := (State.caseAt_setCase _ _ _).trans (s.openingRecord_eq i h)
  have hopened : u.notify c .opened (.causes set) = u.withNotice c (s.recordAtOpening i set) .opened (.causes set) := by
    rw [← hcase]
    exact State.notify_room _ _ _ _ (by change s.trunk.own.length < 32; omega) (by rw [hcase]; rfl)
  have hlength : (u.withNotice c (s.recordAtOpening i set) .opened (.causes set)).trunk.own.length = s.trunk.own.length + 1 :=
    State.withBroadcast_length _ _
  have hcall := State.call_room (u.withNotice c (s.recordAtOpening i set) .opened (.causes set)) c (by omega)
  rw [show (u.withNotice c (s.recordAtOpening i set) .opened (.causes set)).caseAt c = s.recordAtOpening i set from hcase] at hcall
  change ((u.notify c .opened (.causes set)).call c, _) = _
  rw [hopened, hcall]
  simp only [u, State.seated, s.openingRecord_eq i h]
  rfl

@[simp] theorem State.openedIn_caseAt (s : State) (c : CaseNo) (i : LiftIdx) (set : CauseSet) :
    (s.openedIn c i set).caseAt c = s.recordAtOpening i set := State.caseAt_setCase s c _

theorem State.openedIn_length (s : State) (c : CaseNo) (i : LiftIdx) (set : CauseSet) :
    (s.openedIn c i set).trunk.own.length = s.trunk.own.length + 2 := by
  simp only [State.openedIn, State.withCall, State.withNotice, State.withBroadcast_length]

/-- A fresh case whose first step is END(HANDOVER) is handed over at once (R112, R115, R125). -/
theorem Runs.go_opened (hb : s.Busy) (hroom : s.trunk.own.length + 3 ≤ 32)
    (haction : (s.stepOf ⟨(s.lift i).config.page, 0, false, .running, .none, 0, .stopped⟩).action = 12)
    (hargument : (s.stepOf ⟨(s.lift i).config.page, 0, false, .running, .none, 0, .stopped⟩).argument = 2) :
    Runs 1 (s.openedIn c i set) [.go c 0 0 false] (s.openedAndHandedOver c i set) := by
  let t := s.openedIn c i set
  have hcase : t.caseAt c = s.recordAtOpening i set := s.openedIn_caseAt c i set
  have hself : t.setProcedure c (t.caseAt c).procedure.unwaited = t := by
    rw [State.setProcedure, hcase]
    exact State.setCase_eq_self hcase.symm
  have hlength : t.trunk.own.length = s.trunk.own.length + 2 := s.openedIn_length c i set
  have hgo := perform_go_ending (s := t) (c := c) (step := 0) (common := false) (by rw [State.isOpen, hcase]; rfl)
    (by rw [hcase]; rfl) (by omega) (by rw [hcase]; rfl)
    (by rw [hcase]; exact ⟨haction, hargument⟩)
  rw [hself, hcase] at hgo
  exact .one hb hgo hb

/-! ### Joining causes (R64) -/

theorem State.joined_eq (s : State) (r : Case) {new : CauseSet} (h : new ≠ .empty) : s.joined r new = s.recordJoined r new := by
  have hall : r.causes.union new ≠ .empty := fun hempty => h (CauseSet.eq_empty_iff.mpr fun x => by
    have hx := CauseSet.eq_empty_iff.mp hempty x
    rw [CauseSet.union_has, Bool.or_eq_false_iff] at hx
    exact hx.2)
  simp only [State.joined, State.recordJoined, State.smallest_eq, State.firstClass_eq s hall]
  cases r.escalation <;> rfl

/-- What joins a case reads of the state the class table alone. -/
theorem State.recordJoined_congr {t : State} (h : t.classes = s.classes) (r : Case) (new : CauseSet) :
    t.recordJoined r new = s.recordJoined r new := by
  have hleast : t.leastOf = s.leastOf := by
    funext field top set
    simp only [State.leastOf, h]
  have hleading : t.leadingClass = s.leadingClass := by
    funext set
    simp only [State.leadingClass, h]
  rw [State.recordJoined, State.recordJoined, hleast, hleading]

theorem joinCauses_none {causes : CauseSet} (h : causes.diff (s.caseAt c).causes = .empty) :
    joinCauses s c causes = (s, []) := if_pos (CauseSet.isEmpty_iff.mpr h)

/-- Fresh causes join the open case, with room for CAUSE_ADDED (R64). -/
theorem joinCauses_room {causes : CauseSet} (h : causes.diff (s.caseAt c).causes ≠ .empty) (howed : (s.caseAt c).owed = false)
    (hroom : s.trunk.own.length < 32) :
    let new := causes.diff (s.caseAt c).causes
    let r := s.recordJoined (s.caseAt c) new
    joinCauses s c causes = ((s.setCase c r).withNotice c r .causeAdded (.causes new), [.handoverTest c]) := by
  intro new r
  have hnotify := State.setCase_notify_room (s := s) (c := c) (r := r) .causeAdded (.causes new) hroom howed
  rw [← hnotify, show r = s.joined (s.caseAt c) new from (s.joined_eq _ h).symm]
  exact if_neg (mt CauseSet.isEmpty_iff.mp h)

/-! ### Latches (R65 to R67) -/

theorem State.someLatch_iff : s.someLatch = true ↔ ∃ j, (s.lift j).dyn.latch ≠ .empty := by
  simp [State.someLatch, CauseSet.isEmpty]

theorem State.fullIf_eq (s : State) (before : Bool) (i : LiftIdx) : s.fullIf before i =
    if before = false ∧ ∃ j, (s.lift j).dyn.latch ≠ .empty then s.notifyFull i else s := by
  rw [State.fullIf]
  exact if_congr (by rw [Bool.and_eq_true, Bool.not_eq_true', State.someLatch_iff]) rfl rfl

/-- Every cause of the set is LEVEL and none of them stands (R67, R74). -/
theorem Lift.allLevelFalse_iff {r : Lift} : r.allLevelFalse set = true ↔
    ∀ x, set.has x = true → (r.config.cause x).trigger = .level ∧ r.standingTruth.has x = false := by
  have horder : ∀ x, x ∈ causeOrder := fun x => by cases x <;> decide
  simp only [Lift.allLevelFalse, List.all_eq_true, CauseSet.toList, List.mem_filter, horder, true_and, Lift.levelFalse,
    Bool.and_eq_true, beq_iff_eq, Bool.not_eq_true']

/-- The set without its fallen LEVEL causes; of the empty latch nothing is left (R61, R66). -/
theorem Lift.dropFalse_latch (r : Lift) : r.dropFalse r.dyn.latch = r.standingLatch := by
  refine congrArg CauseSet.filter (funext fun x => ?_)
  rw [Lift.levelFalse]
  cases (r.config.cause x).trigger with
  | edge => simp
  | level => cases r.standingTruth.has x <;> rfl

theorem Lift.standingLatch_empty {r : Lift} (h : r.dyn.latch = .empty) : r.standingLatch = .empty :=
  CauseSet.eq_empty_iff.mpr fun x => by simp [Lift.standingLatch, h]

/-- The case manager, told of the truth of a lift without a latch, withdraws the lift's case or does nothing (R74). -/
theorem truthTold_unlatched (h : (s.lift i).dyn.latch = .empty) : truthTold s i = (s,
    match (s.lift i).dyn.openCase with
    | some c => if ((s.caseAt c).dispatch = .waiting ∨ (s.caseAt c).dispatch = .offered) ∧
        (s.lift i).allLevelFalse (s.caseAt c).causes = true then [.close c .withdrawn] else []
    | none => []) := by
  have hset : (if (s.lift i).allLevelFalse (s.lift i).dyn.latch then s.setDyn i { (s.lift i).dyn with latch := .empty } else s) =
      s := by
    rw [State.setDyn, State.setLift_eq_self (by rw [← h]), ite_self]
  rw [truthTold]
  simp only [hset]
  cases (s.lift i).dyn.openCase with
  | none => rfl
  | some c =>
    simp only [Bool.and_eq_true, Bool.or_eq_true, decide_eq_true_eq]
    split <;> rfl

/-! ### Raises (R61) -/

theorem State.lowestFree_eq_some (hfree : (s.caseAt c).record = .free) (hlow : ∀ e < c, (s.caseAt e).record ≠ .free) :
    s.lowestFree = some c := by
  have hsome : s.lowestFree.isSome := List.find?_isSome.mpr ⟨c, List.mem_finRange c, by simp [hfree]⟩
  obtain ⟨e, he⟩ := Option.isSome_iff_exists.mp hsome
  obtain ⟨hp, before, after, hsplit, hbefore⟩ := List.find?_eq_some_iff_append.mp he
  have hasc : (List.finRange 16).Pairwise (· < ·) := List.pairwise_lt_finRange 16
  rw [hsplit] at hasc
  rcases lt_trichotomy e c with hlt | rfl | hgt
  · exact absurd (by simpa using hp) (hlow e hlt)
  · exact he
  · have hc : c ∈ before ++ e :: after := hsplit ▸ List.mem_finRange c
    rcases List.mem_append.mp hc with hc | hc
    · exact absurd hfree (by simpa using hbefore c hc)
    · rcases List.mem_cons.mp hc with rfl | hc
      · exact he
      · have hafter := (List.pairwise_cons.mp (List.pairwise_append.mp hasc).2.1).1 c hc
        exact absurd hafter (not_lt_of_gt hgt)

theorem State.lowestFree_eq_none (h : ∀ c, (s.caseAt c).record ≠ .free) : s.lowestFree = none :=
  List.find?_eq_none.mpr fun c _ => by simpa using h c

theorem raise_joins {causes : CauseSet} (h : (s.lift i).dyn.openCase = some c) : raise s i causes = joinCauses s c causes := by
  simp only [raise, h]

/-- A raise opens a case in the lowest FREE record, with what of the lift's latch still stands (R61). -/
theorem raise_opens {causes : CauseSet} (hcase : (s.lift i).dyn.openCase = none) (hfree : (s.caseAt c).record = .free)
    (hlow : ∀ e < c, (s.caseAt e).record ≠ .free) (hcauses : causes ≠ .empty) (hroom : s.trunk.own.length + 2 ≤ 32) :
    raise s i causes = (s.openedIn c i (causes.union (s.lift i).standingLatch), [.go c 0 0 false]) := by
  have hunion : causes.union (s.lift i).standingLatch ≠ .empty := fun hempty => hcauses (CauseSet.eq_empty_iff.mpr fun x => by
    have hx := CauseSet.eq_empty_iff.mp hempty x
    rw [CauseSet.union_has, Bool.or_eq_false_iff] at hx
    exact hx.1)
  simp only [raise, hcase, State.lowestFree_eq_some hfree hlow, Lift.dropFalse_latch]
  exact openCase_room hunion hroom

/-- A raise that finds no FREE record enters the latch, with TABLE_FULL where no latch was set (R65). -/
theorem raise_latches {causes : CauseSet} (hcase : (s.lift i).dyn.openCase = none) (hfull : ∀ c, (s.caseAt c).record ≠ .free)
    (hcauses : causes ≠ .empty) (hroom : s.trunk.own.length < 32) :
    let u := s.addLatch i causes
    raise s i causes = (if ∃ j, (s.lift j).dyn.latch ≠ .empty then u else u.withBroadcast (.notice ⟨.tableFull, none,
      some (s.lift i).config.identity, s.time.stamp, none, none, .none⟩), []) := by
  intro u
  have hlift : u.lift i = ⟨(s.lift i).config, { (s.lift i).dyn with latch := (s.lift i).dyn.latch.union causes }⟩ :=
    State.lift_setDyn _ _ _
  have hafter : ∃ j, (u.lift j).dyn.latch ≠ .empty := ⟨i, fun hempty => hcauses (CauseSet.eq_empty_iff.mpr fun x => by
    rw [hlift] at hempty
    have hx := CauseSet.eq_empty_iff.mp hempty x
    rw [CauseSet.union_has, Bool.or_eq_false_iff] at hx
    exact hx.2)⟩
  have hnotice : u.notifyFull i = u.withBroadcast (.notice ⟨.tableFull, none, some (s.lift i).config.identity, s.time.stamp, none,
      none, .none⟩) := by
    have hidentity : u.identityOf i = (s.lift i).config.identity := by rw [State.identityOf, hlift]
    rw [State.notifyFull, State.offerLoose_room u _ hroom, hidentity]
    rfl
  simp only [raise, hcase, State.lowestFree_eq_none hfull]
  rw [State.fullIf_eq, hnotice]
  by_cases hbefore : ∃ j, (s.lift j).dyn.latch ≠ .empty
  · rw [if_pos hbefore, if_neg fun h => Bool.eq_false_iff.mp h.1 (State.someLatch_iff.mpr hbefore)]
  · rw [if_neg hbefore, if_pos ⟨Bool.eq_false_iff.mpr (mt State.someLatch_iff.mp hbefore), hafter⟩]

/-! ### Closes (R76 to R78) -/

theorem Crew.without_eq (k : Crew) (c : CaseNo) (serial : BitVec 16) : k.without c serial = k.freedOf c serial := by
  obtain ⟨g, d⟩ := k
  obtain ⟨duty, sweep, held, offer, lost, logged, implausible⟩ := d
  cases offer with
  | none => rfl
  | some o => by_cases h : o.case = c <;> simp [Crew.without, Crew.freedOf, Option.filter, h]

theorem State.closedOff_lift (s : State) (c : CaseNo) (reason : CloseReason) (j : LiftIdx) :
    (s.closedOff c reason).lift j = if (s.caseAt c).lift = j
      then ⟨(s.lift (s.caseAt c).lift).config, { (s.lift (s.caseAt c).lift).dyn with openCase := none }⟩ else s.lift j :=
  State.lift_setLift_if s _ _ _

theorem State.closedOff_isOpen (s : State) (c : CaseNo) (reason : CloseReason) : (s.closedOff c reason).isOpen c = false := by
  have hcase : (s.closedOff c reason).caseAt c = .free := State.caseAt_setCase s c .free
  rw [State.isOpen, hcase]
  rfl

/-- The lamp after a close tells of the other open cases (R83). -/
theorem State.anyOpen_closed {r : Case} (hr : r.record = .closing) :
    (s.setCase c r).anyOpen = (List.finRange 16).any fun e => e != c && s.isOpen e := by
  refine congrArg (List.any (List.finRange 16)) (funext fun e => ?_)
  rw [State.isOpen, State.caseAt_setCase_if]
  by_cases he : c = e
  · subst he; simp [hr]
  · simp [he, Ne.symm he, State.isOpen]

/-- A close with room for its CLOSED notice: the record is FREE, the still-true LEVEL causes are in the lift's latch, and the
latches are arbitrated (R76 to R78). -/
theorem closeCase_room {reason : CloseReason} (hopen : s.isOpen c = true) (howed : (s.caseAt c).owed = false)
    (hroom : s.trunk.own.length < 32) :
    let i := (s.caseAt c).lift
    let given := arbitrate ((s.closedOff c reason).addLatch i (s.lift i).trueLevel)
    closeCase s c reason = (given.1.fullIf s.someLatch i, given.2) := by
  intro i given
  let r := s.caseAt c
  let closed := r.closed reason (s.tagOf r.crew) (s.identityOf i) s.stamp
  let shut := s.shut c reason
  have hcase : shut.caseAt c = closed := State.caseAt_setCase s c closed
  have hoffer : shut.offerCase c (shut.closedNotice c) = (shut.withBroadcast (.notice (s.noticeAbout c r .closed (.closed reason))),
      .entered) := by
    rw [State.offerCase_room shut _ _ hroom (by rw [hcase]; exact howed), State.closedNotice_of_closed hcase]
    rfl
  have hcrews : (s.crews.map fun (k : Crew) => k.without c r.serial) = s.crews.map fun (k : Crew) => k.freedOf c r.serial := by
    simp only [Crew.without_eq]
  have hlamp := State.anyOpen_closed (s := s) (c := c) (r := closed) rfl
  have hlevel : ((s.setDyn i { (s.lift i).dyn with openCase := none }).lift i).trueLevel = (s.lift i).trueLevel := by
    rw [State.lift_setDyn]; rfl
  have hfreed : (shut.withBroadcast (.notice (s.noticeAbout c r .closed (.closed reason)))).setCase c .free =
      (s.closedOff c reason).addLatch i (s.lift i).trueLevel := by
    have hcases : (s.cases.set c.val closed).set c.val .free = s.cases.set c.val .free := Vector.set_set ..
    have hshut : shut = State.addLatch { s with
        crews := s.crews.map fun (k : Crew) => k.freedOf c r.serial
        cases := s.cases.set c.val closed
        lifts := s.lifts.set i.val { s.lift i with dyn := { (s.lift i).dyn with openCase := none } }
        lamp := (List.finRange 16).any fun e => e != c && s.isOpen e } i (s.lift i).trueLevel := by
      rw [← hlevel, ← hlamp, ← hcrews]
      rfl
    rw [hshut, State.closedOff, State.closedWith, ← hcases]
    rfl
  simp only [closeCase, hopen, if_true]
  rw [show (s.shut c reason).offerCase c ((s.shut c reason).closedNotice c) = _ from hoffer]
  simp only [hfreed]
  rfl

/-- Without a latch there is nothing to arbitrate (R66). -/
theorem arbitrate_unlatched (h : ∀ j, (s.lift j).dyn.latch = .empty) : arbitrate s = (s, []) := by
  have hpruned : State.mk s.straps s.lamp s.time s.settings s.lines (s.lifts.map Lift.prunedLatch) s.panels s.cases s.classes
      s.serial s.crews s.travel s.rotation s.store s.trunk s.freeDraws s.pending = s := by
    refine State.eq_of_lifts rfl fun j => ?_
    have hmap : State.lift { s with lifts := s.lifts.map Lift.prunedLatch } j = (s.lift j).prunedLatch := by simp [State.lift]
    exact hmap.trans (by rw [Lift.prunedLatch, Lift.dropFalse_latch, Lift.standingLatch_empty (h j), ← h j])
  have hbest : s.bestLatch = none := by
    have hnone : ((List.finRange 64).filter fun i => !(s.lift i).dyn.latch.isEmpty) = [] :=
      List.filter_eq_nil_iff.mpr fun i _ => by simp [h i, CauseSet.isEmpty]
    rw [State.bestLatch, hnone]
    rfl
  rw [arbitrate]
  split
  · rfl
  · simp only [hpruned, hbest]

/-- A close after which nothing reopens (R76, R77). -/
theorem closeCase_quiet {reason : CloseReason} (hopen : s.isOpen c = true) (howed : (s.caseAt c).owed = false)
    (hroom : s.trunk.own.length < 32) (hquiet : s.NoReopening (s.caseAt c).lift) :
    closeCase s c reason = (s.closedOff c reason, []) := by
  have hlatches : ∀ j, ((s.closedOff c reason).lift j).dyn.latch = .empty := fun j => by
    rw [State.closedOff_lift]
    split
    · exact hquiet.latches _
    · exact hquiet.latches j
  have hadd : (s.closedOff c reason).addLatch (s.caseAt c).lift (s.lift (s.caseAt c).lift).trueLevel = s.closedOff c reason := by
    rw [hquiet.level, State.addLatch, hlatches]
    exact State.setLift_eq_self (by rw [show CauseSet.empty.union .empty = .empty from rfl, ← hlatches (s.caseAt c).lift])
  rw [closeCase_room hopen howed hroom, hadd, arbitrate_unlatched hlatches, State.fullIf_eq,
    if_neg fun h => h.2.elim fun j hj => hj (hlatches j)]

end

end Sys2Proof.Machine
end

section
/-! SUPPORT. What a report's news does to an open case in which no procedure runs and no release is held (R51, R64, R68, R69, R73
to R75). -/

namespace Sys2Proof.Machine

/-! ### Press thresholds (R69) -/

theorem thresholds_succ (skip n : Nat) : thresholds skip (n + 1) = thresholds skip n + if n % skip = 0 then 1 else 0 := by
  cases n with
  | zero => simp [thresholds]
  | succ n =>
    simp only [thresholds, Nat.add_one_ne_zero, if_false, Nat.add_sub_cancel, Nat.succ_div, Nat.dvd_iff_mod_eq_zero]
    omega

theorem thresholds_mono (skip : Nat) : Monotone (thresholds skip) :=
  monotone_nat_of_le_succ fun n => by rw [thresholds_succ]; omega

/-- The thresholds above `before` and not above `total`, of those below `n + 1`. -/
theorem thresholds_filter (skip before total : Nat) (n : Nat) :
    ((List.range (n + 1)).filter fun t => 1 ≤ t && (t - 1) % skip == 0 && before < t && t ≤ total).length =
      thresholds skip (min n total) - thresholds skip before := by
  induction n with
  | zero => simp [thresholds]
  | succ n ih =>
    rw [List.range_succ, List.filter_append, List.length_append, ih]
    rcases lt_or_ge total (n + 1) with htotal | htotal
    · simp [show min n total = total by omega, show min (n + 1) total = total by omega, Nat.not_le.mpr htotal]
    · rw [show min n total = n by omega, show min (n + 1) total = n + 1 by omega, thresholds_succ]
      rcases lt_or_ge before (n + 1) with hbefore | hbefore
      · have hle := thresholds_mono skip (Nat.le_of_lt_succ hbefore)
        by_cases hstep : n % skip = 0
        · simp [hstep, hbefore, htotal]; omega
        · simp [hstep]
      · have hle := thresholds_mono skip hbefore
        rw [thresholds_succ] at hle
        simp only [Nat.not_lt.mpr hbefore, decide_false, Bool.and_false, Bool.false_and, List.filter_cons_of_neg,
          Bool.false_eq_true, not_false_eq_true, List.filter_nil, List.length_nil]
        omega

theorem pressThresholds_eq (skip before : Nat) {total : Nat} (h : total ≤ 255) :
    pressThresholds skip before total = thresholds skip total - thresholds skip before := by
  have hcount := thresholds_filter skip before total 255
  rwa [show min 255 total = total by omega] at hcount

theorem addPresses_eq (s : State) (c : CaseNo) (n : Nat) :
    addPresses s c n = s.setCase c ((s.caseAt c).pressed (s.classes[1]).skip n) := by
  rw [Case.pressed, pressThresholds_eq _ _ (Nat.min_le_left 255 _)]
  rfl

theorem Case.pressed_zero {r : Case} (skip : Nat) (h : r.presses ≤ 255) : r.pressed skip 0 = r := by
  rw [Case.pressed, Nat.add_zero, Nat.min_eq_right h, pressThresholds_eq _ _ h, Nat.sub_self, Nat.sub_zero]

/-! ### A case in which nothing waits -/

/-- An OPEN case of the serial in which no procedure runs, no release is held and no notice is owed. -/
structure Case.Still (r : Case) (serial : BitVec 16) : Prop where
  opened : r.record = .opened
  serial : r.serial = serial
  owed : r.owed = false
  release : r.release = none
  idle : r.procedure.status ≠ .running

/-- The record once the car shows itself evacuated to a case that a crew holds (R75). -/
def Case.clearedNow (r : Case) : Case :=
  { r with
    dispatch := .cleared, escalation := .stopped
    window := { r.window with minTimer := .stopped, maxTimer := .stopped } }

/-- The record once an occupancy change has reached it: it counts once in the life of the case (R68). -/
def Case.occupied (r : Case) : Case :=
  if r.occupancyCounted = false then { r with urgency := r.urgency - 1, occupancyCounted := true } else r

theorem occupancyChange_eq (s : State) (c : CaseNo) : occupancyChange s c = s.setCase c (s.caseAt c).occupied := by
  simp only [occupancyChange, Case.occupied]
  cases (s.caseAt c).occupancyCounted
  · rfl
  · exact (State.setCase_eq_self rfl).symm

namespace Case.Still

variable {r : Case} {serial : BitVec 16} (h : r.Still serial)

include h

theorem met (e : NamedEvent) : (r.met e).Still serial := ⟨h.opened, h.serial, h.owed, h.release, h.idle⟩
theorem met_all (es : List NamedEvent) : (es.foldl Case.met r).Still serial := by
  induction es generalizing r with
  | nil => exact h
  | cons e es ih => exact ih (h.met e)
theorem clearedNow : r.clearedNow.Still serial := ⟨h.opened, h.serial, h.owed, h.release, h.idle⟩
theorem occupied : r.occupied.Still serial := by
  unfold Case.occupied
  split
  · exact ⟨h.opened, h.serial, h.owed, h.release, h.idle⟩
  · exact h
theorem pressed (skip n : Nat) : (r.pressed skip n).Still serial := ⟨h.opened, h.serial, h.owed, h.release, h.idle⟩
theorem recordJoined (s : State) (new : CauseSet) : (s.recordJoined r new).Still serial :=
  ⟨h.opened, h.serial, h.owed, h.release, h.idle⟩

end Case.Still

/-- Events leave the dispatch state and the causes of the case. -/
theorem Case.met_all_rest (es : List NamedEvent) : ∀ r : Case, (es.foldl Case.met r).dispatch = r.dispatch ∧
    (es.foldl Case.met r).causes = r.causes ∧ (es.foldl Case.met r).presses = r.presses ∧
    (es.foldl Case.met r).lift = r.lift := by
  induction es with
  | nil => exact fun r => ⟨rfl, rfl, rfl, rfl⟩
  | cons e es ih => exact fun r => ih (r.met e)

section

variable {v : State} {c : CaseNo} {serial : BitVec 16}

theorem State.holds_of_still (h : (v.caseAt c).Still serial) : v.holds c serial = true := by
  simp [State.holds, State.isOpen, h.opened, h.serial]

theorem State.waitsFor_still (h : (v.caseAt c).Still serial) (w : Wait) : v.waitsFor c w = false := by
  simp [State.waitsFor, h.idle]

theorem procedureEvent_still (h : (v.caseAt c).Still serial) (e : NamedEvent) : procedureEvent v c e = (v, []) := by
  simp [procedureEvent, State.waitsFor_still h]

/-- What any event does first: it is seen, and the escalation timer takes it (R73, steps 1 to 3). -/
theorem State.setCase_met (v : State) (c : CaseNo) (e : NamedEvent) : v.setCase c { v.caseAt c with
    seen := (v.caseAt c).seen.insert e, escalation := eventTimer (v.caseAt c) e } = v.setCase c ((v.caseAt c).met e) := by
  rw [eventTimer_eq]; rfl

theorem perform_releaseReport_still (h : (v.caseAt c).Still serial) (moves : Bool) :
    perform v (.releaseReport c serial moves) = (v, []) := by
  simp [perform, State.holds_of_still h, releaseReport, h.release]

theorem perform_event_still (h : (v.caseAt c).Still serial) {e : NamedEvent} (he : e ≠ .evacuated) :
    perform v (.event c serial e) = (v.setCase c ((v.caseAt c).met e), []) := by
  have hmet : ((v.setCase c ((v.caseAt c).met e)).caseAt c).Still serial := by rw [State.caseAt_setCase]; exact h.met e
  simp only [perform, State.holds_of_still h, if_true, caseEvent, he, if_false, State.setCase_met, procedureEvent_still hmet]

/-- Events other than EVACUATED, one after another. -/
theorem Runs.events_still (es : List NamedEvent) : ∀ {v : State}, v.Busy → (v.caseAt c).Still serial → .evacuated ∉ es →
    Runs es.length v (es.map (.event c serial ·)) (v.setCase c (es.foldl Case.met (v.caseAt c))) := by
  induction es with
  | nil =>
    intro v hb h _
    rw [List.foldl_nil, State.setCase_eq_self rfl]
    exact .nil hb
  | cons e es ih =>
    intro v hb h he
    obtain ⟨hne, hes⟩ := not_or.mp (mt List.mem_cons.mpr he)
    have hrest := ih (v := v.setCase c ((v.caseAt c).met e)) hb (by rw [State.caseAt_setCase]; exact h.met e) hes
    rw [State.caseAt_setCase, State.setCase_setCase] at hrest
    exact .step_alone hb (perform_event_still h (Ne.symm hne)) hrest

/-- EVACUATED at a case that no crew holds: the case will be closed (R75). -/
theorem perform_evacuated_unattended (h : (v.caseAt c).Still serial)
    (hdispatch : (v.caseAt c).dispatch = .waiting ∨ (v.caseAt c).dispatch = .offered) :
    perform v (.event c serial .evacuated) = (v.setCase c ((v.caseAt c).met .evacuated), [.close c .clearedUnattended]) := by
  have hclear : clearCase (v.setCase c ((v.caseAt c).met .evacuated)) c .evacuated =
      (v.setCase c ((v.caseAt c).met .evacuated), [.close c .clearedUnattended]) := by
    simp only [clearCase, State.caseAt_setCase, Case.met]
    rcases hdispatch with hd | hd <;> simp only [hd]
  simp only [perform, State.holds_of_still h, if_true, caseEvent, State.setCase_met, hclear]
  rw [if_pos (by simpa using hdispatch)]

/-- EVACUATED at a case that a crew holds clears it, with its notice; at a CLEARED one it is seen (R73, R75). -/
theorem perform_evacuated_attended (h : (v.caseAt c).Still serial) (hroom : v.trunk.own.length < 32)
    (hdispatch : ¬ ((v.caseAt c).dispatch = .waiting ∨ (v.caseAt c).dispatch = .offered)) :
    let r := (v.caseAt c).met .evacuated
    perform v (.event c serial .evacuated) =
      (if ((v.caseAt c).dispatch == .assigned || (v.caseAt c).dispatch == .onSite) = true
        then (v.setCase c r.clearedNow).withNotice c r.clearedNow .cleared (.source .evacuated)
        else v.setCase c r, []) := by
  intro r
  have hr : (v.setCase c r).caseAt c = r := State.caseAt_setCase _ _ _
  have hstill : r.Still serial := h.met _
  have hnotify := State.setCase_notify_room (s := v) (c := c) (r := r.clearedNow) .cleared (.source .evacuated) hroom
    hstill.clearedNow.owed
  have hclear : clearCase (v.setCase c r) c .evacuated =
      (if ((v.caseAt c).dispatch == .assigned || (v.caseAt c).dispatch == .onSite) = true
        then (v.setCase c r.clearedNow).withNotice c r.clearedNow .cleared (.source .evacuated)
        else v.setCase c r, []) := by
    have hsame : r.dispatch = (v.caseAt c).dispatch := rfl
    simp only [clearCase, hr, State.setCase_setCase]
    rw [← hnotify, ← hsame]
    rw [← hsame] at hdispatch
    cases hd : r.dispatch with
    | waiting => exact absurd (.inl hd) hdispatch
    | offered => exact absurd (.inr hd) hdispatch
    | assigned => rfl
    | onSite => rfl
    | cleared => rfl
  have hafter : ((clearCase (v.setCase c r) c .evacuated).1.caseAt c).Still serial := by
    rw [hclear]
    dsimp only
    split
    · exact (State.caseAt_setCase v c r.clearedNow).symm ▸ hstill.clearedNow
    · rw [hr]; exact hstill
  simp only [perform, State.holds_of_still h, if_true, caseEvent, State.setCase_met]
  rw [if_neg (by simpa using hdispatch), procedureEvent_still hafter, hclear]
  rfl

/-- The jobs for a case that has closed meanwhile do nothing (log 17). -/
theorem perform_newsOf_closed {s : State} {i : LiftIdx} {r : CarReport} {after : LiftState} {now : CarRecord}
    (h : v.isOpen c = false) : ∀ j ∈ newsOf s i r after now c, perform v j = (v, []) := by
  have hholds : ∀ serial, v.holds c serial = false := fun serial => by simp [State.holds, h]
  intro j hj
  simp only [newsOf, laterNews, List.cons_append, List.mem_cons, List.mem_append, List.mem_map] at hj
  rcases hj with rfl | ⟨e, _, rfl⟩ | hj | hj
  · simp [perform, hholds]
  · simp [perform, hholds]
  · split at hj
    · obtain rfl := List.mem_singleton.mp hj
      simp [perform, hholds]
    · simp at hj
  · split at hj
    · simp at hj
    · obtain rfl := List.mem_singleton.mp hj
      simp [perform, hholds]

/-- The occupancy change, where the report makes one. -/
theorem Runs.occupancy_still (hb : v.Busy) (h : (v.caseAt c).Still serial) (p : Prop) [Decidable p] :
    Runs 1 v (if p then [.occupancy c serial] else []) (v.setCase c (if p then (v.caseAt c).occupied else v.caseAt c)) := by
  split
  · exact .one hb (by simp [perform, State.holds_of_still h, occupancyChange_eq]) hb
  · rw [State.setCase_eq_self rfl]
    exact .nil hb

/-- The new presses, where the report shows any. -/
theorem Runs.presses_still (hb : v.Busy) (h : (v.caseAt c).Still serial) (hpresses : (v.caseAt c).presses ≤ 255) (n : Nat) :
    Runs 1 v (if n = 0 then [] else [.presses c serial n]) (v.setCase c ((v.caseAt c).pressed (v.classes[1]).skip n)) := by
  split
  · next hn =>
    rw [hn, Case.pressed_zero _ hpresses, State.setCase_eq_self rfl]
    exact .nil hb
  · exact .one hb (by simp [perform, State.holds_of_still h, addPresses_eq]) hb

/-- The causes raised join the case, where any do; its procedure is not handed over, since none runs (R64, R72). -/
theorem Runs.raise_still {i : LiftIdx} (hb : v.Busy) (h : (v.caseAt c).Still serial) (hcase : (v.lift i).dyn.openCase = some c)
    (hroom : v.trunk.own.length < 32) (raised : CauseSet) :
    let new := raised.diff (v.caseAt c).causes
    let r := v.recordJoined (v.caseAt c) new
    Runs 2 v (if raised = .empty then [] else [.raise i raised])
      (if new = .empty then v else (v.setCase c r).withNotice c r .causeAdded (.causes new)) := by
  intro new r
  split
  · next hraised =>
    have hnew : new = .empty := CauseSet.eq_empty_iff.mpr fun x => by simp [new, hraised]
    rw [if_pos hnew]
    exact .nil hb
  · have hperform : perform v (.raise i raised) = joinCauses v c raised := raise_joins hcase
    split
    · next hnew => exact (Runs.one hb (hperform.trans (joinCauses_none hnew)) hb).mono (by omega)
    · next hnew =>
      let w := (v.setCase c r).withNotice c r .causeAdded (.causes new)
      have hw : w.caseAt c = r := State.caseAt_setCase v c r
      have hidle : (w.caseAt c).procedure.status ≠ .running := hw.symm ▸ (h.recordJoined v new).idle
      have htest : perform w (.handoverTest c) = (w, []) := by
        simp [perform, handoverTest, handover, hidle]
      exact .step hb (hperform.trans (joinCauses_room hnew h.owed hroom)) (.one hb htest hb)

end

end Sys2Proof.Machine
end

section
/-! SUPPORT. A taken report as its window's close (R52, R54). -/

namespace Sys2Proof.Machine

/-- A report ends the events of its case with EVACUATED, where that is among them. -/
theorem CarEvents.split {before after : LiftState} {previous : Option CarRecord} {now : CarRecord} {events : List NamedEvent}
    (h : CarEvents before after previous now events) : ∃ front, .evacuated ∉ front ∧ front.length ≤ 3 ∧
      events = front ++ if .evacuated ∈ events then [.evacuated] else [] := by
  refine ⟨[.carMoved, .inZone, .doorsOpen].filter (· ∈ events), ?_, List.length_filter_le _ _, ?_⟩
  · intro hmem
    exact absurd (List.mem_filter.mp hmem).1 (by decide)
  · have hnodup : [NamedEvent.carMoved, .inZone, .doorsOpen, .evacuated].Nodup := by decide
    have hlast : (if NamedEvent.evacuated ∈ events then [NamedEvent.evacuated] else []) =
        [NamedEvent.evacuated].filter (· ∈ events) := by
      by_cases he : NamedEvent.evacuated ∈ events <;> simp [he]
    rw [hlast, ← List.filter_append]
    exact sublist_eq_filter_mem h.order hnodup

/-! ### Summaries (R52) -/

/-- The summary of a taken report, with room (R52). -/
theorem summaryAfterReport_eq {s : State} {i : LiftIdx} (before : LiftState) (previous : Option CarRecord)
    (hroom : s.trunk.own.length < 32) : summaryAfterReport s i before previous =
      if (s.lift i).config.forwarding = .all ∨ ((s.lift i).config.forwarding = .changes ∧
          reportChanged before (s.lift i).dyn.state previous (s.lift i).dyn.lastReport = true)
        then s.withBroadcast (.summary (s.summaryOf i)) else s := by
  rw [summaryAfterReport, ← State.offerSummary_room _ _ hroom]
  cases hforwarding : (s.lift i).config.forwarding <;> simp

theorem reportChanged_eq (before after : LiftState) (previous : Option CarRecord) (r : CarReport) (zone : Bool) :
    reportChanged before after previous (some (r.decoded zone)) = (after != before || previous.all fun m =>
      m.mode != r.mode || m.doors != r.doors || m.occupancy != r.occupancy || m.alarm != r.alarm) := by
  have hstate : (before != after) = (after != before) := bne_comm
  rw [← hstate]
  cases previous <;> rfl

/-! ### The lift after a taken report -/

section

variable {s w : State} {l : LineId} {i : LiftIdx} {k : Fin 16} {next : Slot} {held : WindowHeld} {r : CarReport} {c : CaseNo} {n : Nat}

theorem takenReport_config (s : State) (i : LiftIdx) (r : CarReport) :
    ((takenReport s i r).1.lift i).config = (s.lift i).config := by rw [takenReport_lift]
theorem takenReport_latch (s : State) (i : LiftIdx) (r : CarReport) :
    ((takenReport s i r).1.lift i).dyn.latch = (s.lift i).dyn.latch := by rw [takenReport_lift]; rfl
theorem takenReport_openCase (s : State) (i : LiftIdx) (r : CarReport) :
    ((takenReport s i r).1.lift i).dyn.openCase = (s.lift i).dyn.openCase := by rw [takenReport_lift]; rfl
theorem takenReport_lastReport (s : State) (i : LiftIdx) (r : CarReport) :
    ((takenReport s i r).1.lift i).dyn.lastReport = some (s.reportOf i r) := by rw [takenReport_lift]; rfl

/-- After a taken report what stands is what is true (log 34). -/
theorem takenReport_standing (s : State) (i : LiftIdx) (r : CarReport) (x : Cause) :
    ((takenReport s i r).1.lift i).standingTruth.has x = ((takenReport s i r).1.lift i).dyn.truth.has x := by
  rw [Lift.standingTruth_of_report (takenReport_lastReport s i r), Bool.and_eq_right_iff_imp, takenReport_truth]
  exact fun h => ((State.truthOf_has _ _ _).mp h).2.1

/-- Whether a report is told to the case manager: its truth differs from what it was, or from what stood (R47, log 34). -/
def State.truthMoved (s : State) (i : LiftIdx) (r : CarReport) : Prop :=
  ((takenReport s i r).1.lift i).dyn.truth ≠ (s.lift i).dyn.truth ∨
    ((takenReport s i r).1.lift i).dyn.truth ≠ (s.lift i).standingTruth

/-- Whether the report takes its last true cause from the case, to which no crew has been assigned (R74). -/
def State.fallsBy (s : State) (i : LiftIdx) (r : CarReport) (c : CaseNo) : Prop :=
  s.truthMoved i r ∧ ((s.caseAt c).dispatch = .waiting ∨ (s.caseAt c).dispatch = .offered) ∧
    ∀ x, (s.caseAt c).causes.has x = true → ((s.lift i).config.cause x).trigger = .level ∧
      ((takenReport s i r).1.lift i).dyn.truth.has x = false

/-- What the case manager is told of the report. -/
def toldOf (s : State) (i : LiftIdx) (r : CarReport) : List Job :=
  if (s.lift i).dyn.truth = ((takenReport s i r).1.lift i).dyn.truth ∧
    (s.lift i).standingTruth = ((takenReport s i r).1.lift i).dyn.truth then [] else [.truthTold i]

theorem toldOf_moved (h : s.truthMoved i r) : toldOf s i r = [.truthTold i] :=
  if_neg fun hsame => h.elim (· hsame.1.symm) (· hsame.2.symm)

/-- What the report raises (R49). -/
def State.raisedBy (s : State) (i : LiftIdx) (r : CarReport) : CauseSet :=
  raisedCauses (s.lift i).config (s.lift i).dyn.truth ((takenReport s i r).1.lift i).dyn.truth

/-- The jobs of the raise. -/
def raiseOf (s : State) (i : LiftIdx) (r : CarReport) : List Job :=
  if s.raisedBy i r = .empty then [] else [.raise i (s.raisedBy i r)]

theorem raiseOf_empty (h : s.raisedBy i r = .empty) : raiseOf s i r = [] := if_pos h
theorem raiseOf_some (h : s.raisedBy i r ≠ .empty) : raiseOf s i r = [.raise i (s.raisedBy i r)] := if_neg h

/-- The news of the report to the case open before it. -/
def newsBy (s : State) (i : LiftIdx) (r : CarReport) (c : CaseNo) : List Job :=
  newsOf s i r ((takenReport s i r).1.lift i).dyn.state (s.reportOf i r) c

theorem takenReport_uncased (h : (s.lift i).dyn.openCase = none) : (takenReport s i r).2 =
    toldOf s i r ++ raiseOf s i r ++ [.summaryReport i (s.lift i).dyn.state (s.lift i).dyn.lastReport] := by
  rw [takenReport_jobs, h, List.append_nil]
  rfl

theorem takenReport_cased (h : (s.lift i).dyn.openCase = some c) : (takenReport s i r).2 =
    toldOf s i r ++ newsBy s i r c ++ raiseOf s i r ++
      [.summaryReport i (s.lift i).dyn.state (s.lift i).dyn.lastReport] := by
  rw [takenReport_jobs, h]
  rfl

/-! ### The window's close -/

/-- The window of an enabled lift without a latch closes on a report, another window following. -/
structure State.ReportTaken (s : State) (l : LineId) (k : Fin 16) (next : Slot) (held : WindowHeld) (r : CarReport) : Prop where
  ready : s.Ready 3
  window : s.WindowOpen l (carSlot k)
  next : (s.line l).slotSet.find? (fun x => carSlot k < x) = some next
  judged : judgeWindow (carSlot k) (s.line l).collided held = .report r
  enabled : (s.lift (liftAt l k)).config.enabled = true
  noLatch : (s.lift (liftAt l k)).dyn.latch = .empty

/-- State `w` has of the line, the time and the lift what the summary and the line controller read of them. -/
structure State.KeepsReport (u w : State) (l : LineId) (i : LiftIdx) : Prop where
  line : w.line l = u.line l
  time : w.time = u.time
  config : (w.lift i).config = (u.lift i).config
  state : (w.lift i).dyn.state = (u.lift i).dyn.state
  lastReport : (w.lift i).dyn.lastReport = (u.lift i).dyn.lastReport

/-- The state once the summary of the report has been decided and the next window is open. -/
def State.afterReport (s w : State) (l : LineId) (i : LiftIdx) (next : Slot) (r : CarReport) : State :=
  let g := (s.lift i).config
  let d := (s.lift i).dyn
  let e := ((takenReport s i r).1.lift i).dyn
  (if g.forwarding = .all ∨ (g.forwarding = .changes ∧ (e.state != d.state || d.lastReport.all fun m =>
      m.mode != r.mode || m.doors != r.doors || m.occupancy != r.occupancy || m.alarm != r.alarm) = true)
    then w.withBroadcast (.summary ⟨g.identity, s.time.stamp, e.state, e.lastReport⟩) else w).setLine l
    { s.line l with currentSlot := some next, collided := false }

namespace State.ReportTaken

/-- The report is taken, what it hands on comes to `w`, and then its summary is decided and the next window opens. -/
theorem closes {jobs : List Job} (h : s.ReportTaken l k next held r)
    (hjobs : (takenReport s (liftAt l k) r).2 =
      jobs ++ [.summaryReport (liftAt l k) (s.lift (liftAt l k)).dyn.state (s.lift (liftAt l k)).dyn.lastReport])
    (hruns : Runs n (takenReport s (liftAt l k) r).1 jobs w) (hn : n < 8000)
    (hkeeps : (takenReport s (liftAt l k) r).1.KeepsReport w l (liftAt l k)) (hroom : w.trunk.own.length < 32) :
    exec (.answerWindowClose l held) s = .next (s.afterReport w l (liftAt l k) next r) := by
  let i := liftAt l k
  let u := (takenReport s i r).1
  let d := (s.lift i).dyn
  have hslot : slotJobs s l (carSlot k) (.report r) = [.takenReport i r] := by
    rw [slotJobs_car]; simp [carJobs, h.enabled, i]
  have hconfig : (w.lift i).config = (s.lift i).config := hkeeps.config.trans (takenReport_config s i r)
  have hsummary := summaryAfterReport_eq (s := w) (i := i) d.state d.lastReport hroom
  rw [State.summaryOf, State.identityOf, State.stamp, hkeeps.time, hconfig, hkeeps.state, hkeeps.lastReport,
    takenReport_lastReport, State.reportOf, reportChanged_eq, ← State.reportOf, ← takenReport_lastReport] at hsummary
  have hdecided : perform w (.summaryReport i d.state d.lastReport) = (_, []) := congrArg (·, []) hsummary
  have hend := hruns.append (.one hruns.busy_end hdecided (by split <;> exact hruns.busy_end))
  rw [← hjobs] at hend
  have htaken : Runs _ s [.takenReport i r] _ := .of_step (w := takenReport s i r) h.ready.busy rfl hend
  rw [← hslot] at htaken
  refine closes_taken h.window h.next h.judged nofun htaken (by omega) ?_
  have hline : w.line l = s.line l := hkeeps.line
  split <;> exact hline

end State.ReportTaken

/-! ### Reports of a lift without a case -/

/-- The case manager, told of a report of a lift without a latch, does nothing unless the case's last true cause has fallen. -/
theorem truthTold_report (hlatch : (s.lift i).dyn.latch = .empty) (hmoved : s.truthMoved i r) :
    let u := (takenReport s i r).1
    ((s.lift i).dyn.openCase = none → truthTold u i = (u, [])) ∧
    ∀ c, (s.lift i).dyn.openCase = some c →
      (s.fallsBy i r c → truthTold u i = (u, [.close c .withdrawn])) ∧ (¬ s.fallsBy i r c → truthTold u i = (u, [])) := by
  intro u
  have htold := truthTold_unlatched (s := u) (i := i) ((takenReport_latch s i r).trans hlatch)
  rw [takenReport_openCase] at htold
  refine ⟨fun hcase => by rw [htold, hcase], fun c hcase => ?_⟩
  rw [hcase] at htold
  have hfalls : (((u.caseAt c).dispatch = .waiting ∨ (u.caseAt c).dispatch = .offered) ∧
      (u.lift i).allLevelFalse (u.caseAt c).causes = true) ↔ s.fallsBy i r c := by
    rw [Lift.allLevelFalse_iff, takenReport_config]
    simp only [u, takenReport_standing]
    exact ⟨fun hf => ⟨hmoved, hf⟩, fun hf => hf.2⟩
  exact ⟨fun hf => by rw [htold]; exact congrArg (u, ·) (if_pos (hfalls.mpr hf)),
    fun hf => by rw [htold]; exact congrArg (u, ·) (if_neg (mt hfalls.mp hf))⟩

/-- The telling of a report that ends no case. -/
theorem Runs.toldOf_quiet (hb : s.Busy) (hlatch : (s.lift i).dyn.latch = .empty)
    (h : ∀ c, (s.lift i).dyn.openCase = some c → ¬ s.fallsBy i r c) :
    Runs 1 (takenReport s i r).1 (toldOf s i r) (takenReport s i r).1 := by
  have hub : (takenReport s i r).1.Busy := hb
  by_cases hmoved : s.truthMoved i r
  · obtain ⟨hnone, hsome⟩ := truthTold_report hlatch hmoved
    rw [toldOf_moved hmoved]
    refine .one hub ?_ hub
    cases hcase : (s.lift i).dyn.openCase with
    | none => exact hnone hcase
    | some c => exact (hsome c hcase).2 (h c hcase)
  · have hsame : toldOf s i r = [] := if_pos ⟨by_contra fun hne => hmoved (.inl (Ne.symm hne)),
      by_contra fun hne => hmoved (.inr (Ne.symm hne))⟩
    rw [hsame]
    exact .nil hub

namespace State.ReportTaken

variable (h : s.ReportTaken l k next held r)

include h

/-- A report that raises nothing and finds no case. -/
theorem closes_quiet (hcase : (s.lift (liftAt l k)).dyn.openCase = none) (hraised : s.raisedBy (liftAt l k) r = .empty) :
    exec (.answerWindowClose l held) s =
      .next (s.afterReport (takenReport s (liftAt l k) r).1 l (liftAt l k) next r) := by
  have htold := Runs.toldOf_quiet (r := r) h.ready.busy h.noLatch fun c hc => nomatch hcase.symm.trans hc
  have hroom : s.trunk.own.length + 3 ≤ 32 := h.ready.room
  refine h.closes (takenReport_uncased hcase) (by rw [raiseOf_empty hraised, List.append_nil]; exact htold) (by omega)
    ⟨rfl, rfl, rfl, rfl, rfl⟩ (lt_of_lt_of_le ?_ hroom)
  exact Nat.lt_add_of_pos_right (by omega)

/-- A report whose raise comes to `w`. -/
theorem closes_raised (hcase : (s.lift (liftAt l k)).dyn.openCase = none) (hraised : s.raisedBy (liftAt l k) r ≠ .empty)
    (hruns : Runs n (takenReport s (liftAt l k) r).1 [.raise (liftAt l k) (s.raisedBy (liftAt l k) r)] w) (hn : n < 7000)
    (hkeeps : (takenReport s (liftAt l k) r).1.KeepsReport w l (liftAt l k)) (hroom : w.trunk.own.length < 32) :
    exec (.answerWindowClose l held) s = .next (s.afterReport w l (liftAt l k) next r) := by
  have htold := Runs.toldOf_quiet (r := r) h.ready.busy h.noLatch fun c hc => nomatch hcase.symm.trans hc
  exact h.closes (takenReport_uncased hcase) (by rw [raiseOf_some hraised]; exact htold.append hruns) (by omega) hkeeps hroom

/-- A report that opens a case, handed over at once (R61). -/
theorem closes_opening (hready : s.Ready 4) (hcase : (s.lift (liftAt l k)).dyn.openCase = none)
    (hraised : s.raisedBy (liftAt l k) r ≠ .empty) (hfree : (s.caseAt c).record = .free)
    (hlow : ∀ b < c, (s.caseAt b).record ≠ .free)
    (haction : (s.stepOf ⟨(s.lift (liftAt l k)).config.page, 0, false, .running, .none, 0, .stopped⟩).action = 12)
    (hargument : (s.stepOf ⟨(s.lift (liftAt l k)).config.page, 0, false, .running, .none, 0, .stopped⟩).argument = 2) :
    exec (.answerWindowClose l held) s = .next (s.afterReport ((takenReport s (liftAt l k) r).1.openedAndHandedOver c (liftAt l k)
      (s.raisedBy (liftAt l k) r)) l (liftAt l k) next r) := by
  let i := liftAt l k
  let u := (takenReport s i r).1
  have hroom : u.trunk.own.length + 4 ≤ 32 := hready.room
  have hraise := raise_opens (s := u) ((takenReport_openCase s i r).trans hcase) hfree hlow hraised (by omega)
  have hnone : (u.lift i).standingLatch = .empty := Lift.standingLatch_empty ((takenReport_latch s i r).trans h.noLatch)
  rw [hnone, show (s.raisedBy i r).union .empty = s.raisedBy i r from CauseSet.ext_has fun x => by simp] at hraise
  have hpage : (u.lift i).config = (s.lift i).config := takenReport_config s i r
  have hgo := Runs.go_opened (s := u) (c := c) (i := i) (set := s.raisedBy i r) hready.busy (by omega)
    (by rw [hpage]; exact haction) (by rw [hpage]; exact hargument)
  have hlift : (u.openedAndHandedOver c i (s.raisedBy i r)).lift i =
      ⟨(u.lift i).config, { (u.lift i).dyn with openCase := some c, latch := .empty }⟩ := State.lift_setLift u i _
  have hlength : (u.openedAndHandedOver c i (s.raisedBy i r)).trunk.own.length = (u.openedIn c i (s.raisedBy i r)).trunk.own.length + 1 :=
    State.withBroadcast_length _ _
  rw [State.openedIn_length] at hlength
  exact h.closes_raised hcase hraised (.step hready.busy hraise hgo) (by omega)
    ⟨rfl, rfl, by rw [hlift], by rw [hlift], by rw [hlift]⟩ (hlength ▸ (by omega : u.trunk.own.length + 2 + 1 < 32))

/-- A report that finds no FREE record enters the latch (R65). -/
theorem closes_latching (hcase : (s.lift (liftAt l k)).dyn.openCase = none) (hraised : s.raisedBy (liftAt l k) r ≠ .empty)
    (hfull : ∀ c, (s.caseAt c).record ≠ .free) :
    let i := liftAt l k
    let u := (takenReport s i r).1
    let v := u.setLift i ⟨(s.lift i).config, { (u.lift i).dyn with latch := s.raisedBy i r }⟩
    exec (.answerWindowClose l held) s = .next (s.afterReport (if ∃ j, (s.lift j).dyn.latch ≠ .empty then v
      else v.withBroadcast (.notice ⟨.tableFull, none, some (s.lift i).config.identity, s.time.stamp, none, none, .none⟩))
        l i next r) := by
  intro i u v
  have hroom : u.trunk.own.length + 3 ≤ 32 := h.ready.room
  have hraise := raise_latches (s := u) ((takenReport_openCase s i r).trans hcase) hfull hraised (by omega)
  have hlatch : (u.lift i).dyn.latch = .empty := (takenReport_latch s i r).trans h.noLatch
  have hconfig : (u.lift i).config = (s.lift i).config := takenReport_config s i r
  have hadd : u.addLatch i (s.raisedBy i r) = v := by
    have hunion : CauseSet.empty.union (s.raisedBy i r) = s.raisedBy i r := CauseSet.ext_has fun x => by simp
    rw [State.addLatch, hlatch, hunion]
    exact congrArg (fun g => u.setLift i ⟨g, { (u.lift i).dyn with latch := s.raisedBy i r }⟩) hconfig
  have hlatches : (∃ j, (u.lift j).dyn.latch ≠ .empty) ↔ ∃ j, (s.lift j).dyn.latch ≠ .empty := by
    refine exists_congr fun j => not_congr ?_
    have hstate : u.lift j = if i = j then u.lift i else s.lift j :=
      (congrArg (State.lift · j) (takenReport_state s i r)).trans (State.lift_setLift_if s i j _)
    by_cases hj : i = j
    · subst hj; rw [hlatch, h.noLatch]
    · rw [hstate, if_neg hj]
  rw [hadd, hconfig] at hraise
  simp only [hlatches] at hraise
  have hlift : v.lift i = ⟨(s.lift i).config, { (u.lift i).dyn with latch := s.raisedBy i r }⟩ := State.lift_setLift u i _
  have hkeeps : u.KeepsReport v l i := ⟨rfl, rfl, by rw [hlift, hconfig], by rw [hlift], by rw [hlift]⟩
  have hbusy : v.Busy := h.ready.busy
  refine h.closes_raised hcase hraised (.one h.ready.busy hraise (by split <;> exact hbusy)) (by omega) ?_ ?_
  · split
    · exact hkeeps
    · exact ⟨hkeeps.line, hkeeps.time, hkeeps.config, hkeeps.state, hkeeps.lastReport⟩
  · have hlength : v.trunk.own.length = u.trunk.own.length := rfl
    split
    · omega
    · rw [State.withBroadcast_length]; omega

end State.ReportTaken

end

end Sys2Proof.Machine
end

section
/-! SUPPORT. A taken report of a lift whose case is open, as its window's close (R51, R54, R64, R68, R69, R74, R75). -/

namespace Sys2Proof.Machine

section

variable {s w : State} {l : LineId} {i : LiftIdx} {k : Fin 16} {next : Slot} {held : WindowHeld} {r : CarReport} {c : CaseNo}
  {before after : LiftState} {previous : Option CarRecord} {now : CarRecord} {events : List NamedEvent}

/-- A close keeps what the summary of its lift tells. -/
theorem State.keepsReport_closedOff (s : State) (l : LineId) (reason : CloseReason) :
    s.KeepsReport (s.closedOff c reason) l (s.caseAt c).lift := by
  have hlift := s.closedOff_lift c reason (s.caseAt c).lift
  rw [if_pos rfl] at hlift
  exact ⟨rfl, rfl, by rw [hlift], by rw [hlift], by rw [hlift]⟩

/-- A close of an open case after which nothing reopens, as a job; the rest of the report's news then reaches nobody (log 17). -/
theorem Runs.close_quiet {reason : CloseReason} {serial : BitVec 16} {u : State} {rest : List Job} (hb : u.Busy)
    (hroom : u.trunk.own.length < 32) (hstill : (u.caseAt c).Still serial) (hquiet : u.NoReopening (u.caseAt c).lift)
    (hrest : ∀ j ∈ rest, j ∈ newsOf s i r after now c) :
    Runs (rest.length + 1) u (.close c reason :: rest) (u.closedOff c reason) := by
  have hclose : perform u (.close c reason) = (u.closedOff c reason, []) :=
    closeCase_quiet (by rw [State.isOpen, hstill.opened]; rfl) hstill.owed hroom hquiet
  exact .step_alone hb hclose (.skips hb fun j hj =>
    perform_newsOf_closed (u.closedOff_isOpen c reason) j (hrest j hj))

theorem laterNews_length (s : State) (i : LiftIdx) (r : CarReport) (c : CaseNo) : (laterNews s i r c).length ≤ 2 := by
  have hone : ∀ (p : Prop) [Decidable p] (j : Job), (if p then [j] else []).length ≤ 1 := fun p _ j => by split <;> simp
  have hother : ∀ (p : Prop) [Decidable p] (j : Job), (if p then [] else [j]).length ≤ 1 := fun p _ j => by split <;> simp
  rw [laterNews, List.length_append]
  exact Nat.add_le_add (hone _ _) (hother _ _)

/-- The events of a report, no crew holding the case: EVACUATED closes it, and what follows reaches nobody (R75). -/
theorem Runs.events_unattended {serial : BitVec 16} {u : State} {rest : List Job} (hb : u.Busy) (hroom : u.trunk.own.length < 32)
    (hstill : (u.caseAt c).Still serial) (hevents : CarEvents before after previous now events) (hevacuated : .evacuated ∈ events)
    (hunattended : (u.caseAt c).dispatch = .waiting ∨ (u.caseAt c).dispatch = .offered)
    (hquiet : u.NoReopening (u.caseAt c).lift) {x : LiftState} {y : CarRecord} (hrest : ∀ j ∈ rest, j ∈ newsOf s i r x y c) :
    Runs (rest.length + 5) u (events.map (.event c serial ·) ++ rest)
      ((u.setCase c (events.foldl Case.met (u.caseAt c))).closedOff c .clearedUnattended) := by
  obtain ⟨front, hfront, hlength, hsplit⟩ := hevents.split
  rw [if_pos hevacuated] at hsplit
  let a := front.foldl Case.met (u.caseAt c)
  obtain ⟨hdispatch, -, -, hlift⟩ := Case.met_all_rest front (u.caseAt c)
  have ha : (u.setCase c a).caseAt c = a := State.caseAt_setCase _ _ _
  have hevent := perform_evacuated_unattended (v := u.setCase c a) (by rw [ha]; exact hstill.met_all front)
    (by rw [ha, hdispatch]; exact hunattended)
  rw [ha, State.setCase_setCase] at hevent
  have hmet : (u.setCase c (a.met .evacuated)).caseAt c = a.met .evacuated := State.caseAt_setCase _ _ _
  have hclose := Runs.close_quiet (reason := .clearedUnattended) (u := u.setCase c (a.met .evacuated)) hb hroom
    (by rw [hmet]; exact (hstill.met_all front).met _)
    (by rw [hmet, show (a.met .evacuated).lift = (u.caseAt c).lift from hlift]; exact ⟨hquiet.latches, hquiet.level⟩) hrest
  have hruns := (Runs.events_still front hb hstill hfront).append (.step (rest := rest) hb hevent hclose)
  rw [hsplit, List.foldl_append, List.map_append, List.append_assoc]
  exact hruns.mono (by omega)

/-- Whether the events clear the case, which a crew holds (R75). -/
def Case.clearedBy (a : Case) (events : List NamedEvent) : Bool :=
  events.contains .evacuated && (a.dispatch == .assigned || a.dispatch == .onSite)

/-- The record of the case once the events have reached it. -/
def Case.metBy (a : Case) (events : List NamedEvent) : Case :=
  if a.clearedBy events = true then (events.foldl Case.met a).clearedNow else events.foldl Case.met a

/-- The state once the events have reached the case, but for its record: CLEARED is told where they clear it. -/
def State.toldCleared (u : State) (c : CaseNo) (events : List NamedEvent) : State :=
  if (u.caseAt c).clearedBy events = true
    then (u.setCase c ((u.caseAt c).metBy events)).withNotice c ((u.caseAt c).metBy events) .cleared (.source .evacuated)
    else u

theorem Case.Still.metBy {a : Case} {serial : BitVec 16} (h : a.Still serial) (events : List NamedEvent) :
    (a.metBy events).Still serial := by
  unfold Case.metBy
  split
  · exact (h.met_all events).clearedNow
  · exact h.met_all events

/-- Events leave the causes and the presses of the case, cleared or not. -/
theorem Case.metBy_rest (a : Case) (events : List NamedEvent) :
    (a.metBy events).causes = a.causes ∧ (a.metBy events).presses = a.presses := by
  obtain ⟨-, hcauses, hpresses, -⟩ := Case.met_all_rest events a
  unfold Case.metBy
  split <;> exact ⟨hcauses, hpresses⟩

/-- What the events tell, with room for one notice, leaves all but the record and the port. -/
theorem State.toldCleared_rest (u : State) (c : CaseNo) (events : List NamedEvent) :
    let v := u.toldCleared c events
    v.lifts = u.lifts ∧ v.lines = u.lines ∧ v.time = u.time ∧ v.classes = u.classes ∧ (v.Busy ↔ u.Busy) ∧
      v.trunk.own.length ≤ u.trunk.own.length + 1 := by
  intro v
  simp only [v, State.toldCleared]
  split
  · exact ⟨rfl, rfl, rfl, rfl, Iff.rfl, (State.withBroadcast_length _ _).le⟩
  · exact ⟨rfl, rfl, rfl, rfl, Iff.rfl, Nat.le_succ _⟩

/-- The events of a report at a case that EVACUATED does not close. -/
theorem Runs.events_attended {serial : BitVec 16} {u : State} (hb : u.Busy) (hroom : u.trunk.own.length < 32)
    (hstill : (u.caseAt c).Still serial) (hevents : CarEvents before after previous now events)
    (hattended : .evacuated ∈ events → ¬ ((u.caseAt c).dispatch = .waiting ∨ (u.caseAt c).dispatch = .offered)) :
    Runs 4 u (events.map (.event c serial ·)) ((u.toldCleared c events).setCase c ((u.caseAt c).metBy events)) := by
  obtain ⟨front, hfront, hlength, hsplit⟩ := hevents.split
  have hruns := Runs.events_still front hb hstill hfront
  by_cases hevacuated : .evacuated ∈ events
  · rw [if_pos hevacuated] at hsplit
    let a := front.foldl Case.met (u.caseAt c)
    have ha : (u.setCase c a).caseAt c = a := State.caseAt_setCase _ _ _
    have hdispatch : a.dispatch = (u.caseAt c).dispatch := (Case.met_all_rest front (u.caseAt c)).1
    have hmet : events.foldl Case.met (u.caseAt c) = a.met .evacuated := by rw [hsplit, List.foldl_append]; rfl
    have hclears : (u.caseAt c).clearedBy events =
        ((u.caseAt c).dispatch == .assigned || (u.caseAt c).dispatch == .onSite) := by
      rw [Case.clearedBy, List.contains_iff_mem.mpr hevacuated, Bool.true_and]
    have hevent := perform_evacuated_attended (v := u.setCase c a) (by rw [ha]; exact hstill.met_all front) hroom
      (by rw [ha, hdispatch]; exact hattended hevacuated)
    dsimp only at hevent
    rw [ha, State.setCase_setCase, State.setCase_setCase, hdispatch, ← hclears, ← hmet] at hevent
    have hend : (if (u.caseAt c).clearedBy events = true
        then (u.setCase c (events.foldl Case.met (u.caseAt c)).clearedNow).withNotice c
          (events.foldl Case.met (u.caseAt c)).clearedNow .cleared (.source .evacuated)
        else u.setCase c (events.foldl Case.met (u.caseAt c))) =
        (u.toldCleared c events).setCase c ((u.caseAt c).metBy events) := by
      simp only [State.toldCleared, Case.metBy]
      split
      · let a := (events.foldl Case.met (u.caseAt c)).clearedNow
        exact (State.setCase_eq_self (s := (u.setCase c a).withNotice c a .cleared (.source .evacuated))
          (State.caseAt_setCase u c a).symm).symm
      · rfl
    rw [hend] at hevent
    have hlast : Runs 1 (u.setCase c a) [.event c serial .evacuated]
        ((u.toldCleared c events).setCase c ((u.caseAt c).metBy events)) :=
      .one hb hevent ((u.toldCleared_rest c events).2.2.2.2.1.mpr hb)
    have hmap : events.map (Job.event c serial ·) = front.map (.event c serial ·) ++ [.event c serial .evacuated] := by
      rw [hsplit, List.map_append]; rfl
    rw [hmap]
    exact (hruns.append hlast).mono (by omega)
  · rw [if_neg hevacuated, List.append_nil] at hsplit
    have hclears : (u.caseAt c).clearedBy events = false := by simp [Case.clearedBy, hevacuated]
    rw [State.toldCleared, Case.metBy, hclears, hsplit]
    exact hruns.mono (by omega)

/-! ### The window's close -/

/-- A report is taken of a lift whose case `c` is open, and in that case nothing waits. -/
structure State.CaseReported (s : State) (l : LineId) (k : Fin 16) (next : Slot) (held : WindowHeld) (r : CarReport)
    (c : CaseNo) : Prop where
  taken : s.ReportTaken l k next held r
  openCase : (s.lift (liftAt l k)).dyn.openCase = some c
  lift : (s.caseAt c).lift = liftAt l k
  still : (s.caseAt c).Still (s.caseAt c).serial
  presses : (s.caseAt c).presses ≤ 255

/-- The news of the report, by its events. -/
theorem newsBy_eq (s : State) (i : LiftIdx) (r : CarReport) (c : CaseNo)
    (hevents : CarEvents (s.lift i).dyn.state ((takenReport s i r).1.lift i).dyn.state (s.lift i).dyn.lastReport
      (s.reportOf i r) events) : newsBy s i r c = .releaseReport c (s.caseAt c).serial
        (decide ((s.lift i).config.creep ≤ ((r.velocityCode : Int) - 512).natAbs)) ::
      (events.map (.event c (s.caseAt c).serial ·) ++ laterNews s i r c) := by
  rw [hevents.eq]; rfl

/-- The record of the case once the occupancy change and the new presses of the report have reached it (R68, R69). -/
def State.heardBy (s : State) (i : LiftIdx) (r : CarReport) (a : Case) : Case :=
  (if r.occupancy = .occupied ∧ ((s.lift i).dyn.lastReport.any fun m => m.occupancy == .occupied) = false
    then a.occupied else a).pressed (s.classes[1]).skip (newPresses (s.lift i).dyn.pressBaseline r.presses)

theorem Case.Still.heardBy {a : Case} {serial : BitVec 16} (h : a.Still serial) (s : State) (i : LiftIdx) (r : CarReport) :
    (s.heardBy i r a).Still serial := by
  unfold State.heardBy
  split
  · exact h.occupied.pressed _ _
  · exact h.pressed _ _

theorem Case.occupied_rest (a : Case) : a.occupied.causes = a.causes ∧ a.occupied.presses = a.presses := by
  unfold Case.occupied
  split <;> exact ⟨rfl, rfl⟩

theorem State.heardBy_causes (s : State) (i : LiftIdx) (r : CarReport) (a : Case) : (s.heardBy i r a).causes = a.causes := by
  unfold State.heardBy
  split
  · exact a.occupied_rest.1
  · rfl

/-- The occupancy change and the new presses of a report. -/
theorem Runs.laterNews {v : State} {a : Case} (hb : v.Busy) (hcase : v.caseAt c = a) (hstill : a.Still (s.caseAt c).serial)
    (hpresses : a.presses ≤ 255) (hclasses : v.classes = s.classes) :
    Runs 2 v (Machine.laterNews s i r c) (v.setCase c (s.heardBy i r a)) := by
  subst hcase
  have hoccupancy := Runs.occupancy_still hb hstill
    (r.occupancy = .occupied ∧ ((s.lift i).dyn.lastReport.any fun m => m.occupancy == .occupied) = false)
  let a := if r.occupancy = .occupied ∧ ((s.lift i).dyn.lastReport.any fun m => m.occupancy == .occupied) = false
    then (v.caseAt c).occupied else v.caseAt c
  have ha : (v.setCase c a).caseAt c = a := State.caseAt_setCase _ _ _
  have hsame : a.Still (s.caseAt c).serial ∧ a.presses = (v.caseAt c).presses := by
    simp only [a]
    split
    · exact ⟨hstill.occupied, (v.caseAt c).occupied_rest.2⟩
    · exact ⟨hstill, rfl⟩
  have hnew := Runs.presses_still (v := v.setCase c a) (c := c) hb (by rw [ha]; exact hsame.1)
    (by rw [ha, hsame.2]; exact hpresses) (newPresses (s.lift i).dyn.pressBaseline r.presses)
  rw [ha, State.setCase_setCase, State.setCase_classes, hclasses] at hnew
  exact hoccupancy.append hnew

namespace State.CaseReported

variable (h : s.CaseReported l k next held r c)

include h

/-- The report's own frames, its summary beside them, find room. -/
theorem room : (takenReport s (liftAt l k) r).1.trunk.own.length + 3 ≤ 32 := h.taken.ready.room

theorem stillOpen : ((takenReport s (liftAt l k) r).1.caseAt c).Still (s.caseAt c).serial := h.still

/-- The news of the report comes to what its events and what follows them come to: no release takes the report. -/
theorem runs_news {n : Nat}
    (hevents : CarEvents (s.lift (liftAt l k)).dyn.state ((takenReport s (liftAt l k) r).1.lift (liftAt l k)).dyn.state
      (s.lift (liftAt l k)).dyn.lastReport (s.reportOf (liftAt l k) r) events)
    (hruns : Runs n (takenReport s (liftAt l k) r).1
      (events.map (.event c (s.caseAt c).serial ·) ++ laterNews s (liftAt l k) r c) w) :
    Runs (n + 1) (takenReport s (liftAt l k) r).1 (newsBy s (liftAt l k) r c) w := by
  rw [newsBy_eq s (liftAt l k) r c hevents]
  exact .step_alone h.taken.ready.busy (perform_releaseReport_still h.stillOpen _) hruns

/-- The case manager, told of a report that does not end the case, does nothing. -/
theorem runs_told (hno : ¬ s.fallsBy (liftAt l k) r c) :
    Runs 1 (takenReport s (liftAt l k) r).1 (toldOf s (liftAt l k) r) (takenReport s (liftAt l k) r).1 :=
  Runs.toldOf_quiet h.taken.ready.busy h.taken.noLatch fun e he => by
    rw [Option.some.inj (he.symm.trans h.openCase)]; exact hno

/-- The last true cause of a case without a crew falls: it is withdrawn (R74). -/
theorem closes_withdrawn (hfalls : s.fallsBy (liftAt l k) r c) (hraised : s.raisedBy (liftAt l k) r = .empty)
    (hquiet : (takenReport s (liftAt l k) r).1.NoReopening (liftAt l k)) :
    exec (.answerWindowClose l held) s = .next (s.afterReport ((takenReport s (liftAt l k) r).1.closedOff c .withdrawn)
      l (liftAt l k) next r) := by
  let i := liftAt l k
  let u := (takenReport s i r).1
  have hb : u.Busy := h.taken.ready.busy
  have hroom : u.trunk.own.length + 3 ≤ 32 := h.room
  have hlift : (u.caseAt c).lift = i := h.lift
  have htold := ((truthTold_report h.taken.noLatch hfalls.1).2 c h.openCase).1 hfalls
  have hclose := Runs.close_quiet (s := s) (i := i) (r := r) (c := c) (reason := .withdrawn) (rest := newsBy s i r c) hb (by omega)
    h.stillOpen (by rw [hlift]; exact hquiet) fun j hj => hj
  have hruns : Runs ((newsBy s i r c).length + 2) u (toldOf s i r ++ newsBy s i r c) (u.closedOff c .withdrawn) := by
    rw [toldOf_moved hfalls.1]
    exact .step hb htold hclose
  have hkeeps := u.keepsReport_closedOff (c := c) l .withdrawn
  rw [hlift] at hkeeps
  have hlength : (newsBy s i r c).length ≤ 7 := by
    obtain ⟨front, -, hfront, hsplit⟩ := (carEvents_spec (s.lift i).dyn.state (u.lift i).dyn.state (s.lift i).dyn.lastReport
      (s.reportOf i r)).split
    have hlater := laterNews_length s i r c
    rw [newsBy_eq s i r c (carEvents_spec _ _ _ _), List.length_cons, List.length_append, List.length_map, hsplit,
      List.length_append]
    split <;> simp only [List.length_cons, List.length_nil] <;> omega
  exact h.taken.closes (jobs := toldOf s i r ++ newsBy s i r c)
    (by rw [takenReport_cased h.openCase, raiseOf_empty hraised, List.append_nil]) hruns (by omega) hkeeps
    (by rw [State.closedOff, State.withBroadcast_length]; exact (by omega : u.trunk.own.length + 1 < 32))

/-- The car shows itself evacuated to a case without a crew, which is closed (R75). -/
theorem closes_evacuated (hno : ¬ s.fallsBy (liftAt l k) r c)
    (hevents : CarEvents (s.lift (liftAt l k)).dyn.state ((takenReport s (liftAt l k) r).1.lift (liftAt l k)).dyn.state
      (s.lift (liftAt l k)).dyn.lastReport (s.reportOf (liftAt l k) r) events)
    (hevacuated : .evacuated ∈ events) (hunattended : (s.caseAt c).dispatch = .waiting ∨ (s.caseAt c).dispatch = .offered)
    (hraised : s.raisedBy (liftAt l k) r = .empty) (hquiet : (takenReport s (liftAt l k) r).1.NoReopening (liftAt l k)) :
    exec (.answerWindowClose l held) s = .next (s.afterReport (((takenReport s (liftAt l k) r).1.setCase c
      (events.foldl Case.met (s.caseAt c))).closedOff c .clearedUnattended) l (liftAt l k) next r) := by
  let i := liftAt l k
  let u := (takenReport s i r).1
  let v := u.setCase c (events.foldl Case.met (s.caseAt c))
  have hb : u.Busy := h.taken.ready.busy
  have hroom : u.trunk.own.length + 3 ≤ 32 := h.room
  have hlift : (u.caseAt c).lift = i := h.lift
  have hvlift : (v.caseAt c).lift = i := by
    rw [State.caseAt_setCase]
    exact (Case.met_all_rest events (s.caseAt c)).2.2.2.trans h.lift
  have hnews : ∀ j ∈ laterNews s i r c, j ∈ newsOf s i r (u.lift i).dyn.state (s.reportOf i r) c := fun j hj =>
    List.mem_append_right _ hj
  have hrest := Runs.events_unattended (s := s) (i := i) (r := r) hb (by omega) h.stillOpen hevents hevacuated hunattended
    (by rw [hlift]; exact hquiet) hnews
  have hlater := laterNews_length s i r c
  have hkeeps := v.keepsReport_closedOff (c := c) l .clearedUnattended
  rw [hvlift] at hkeeps
  exact h.taken.closes (jobs := toldOf s i r ++ newsBy s i r c)
    (by rw [takenReport_cased h.openCase, raiseOf_empty hraised, List.append_nil])
    ((h.runs_told hno).append (h.runs_news hevents hrest)) (by omega)
    ⟨hkeeps.line, hkeeps.time, hkeeps.config, hkeeps.state, hkeeps.lastReport⟩
    (by rw [State.closedOff, State.withBroadcast_length]; exact (by omega : u.trunk.own.length + 1 < 32))

/-- The news of the report reaches the case, which stays open; then the causes that it raises (R51, R64, R68, R69). -/
theorem closes_attended (hno : ¬ s.fallsBy (liftAt l k) r c)
    (hevents : CarEvents (s.lift (liftAt l k)).dyn.state ((takenReport s (liftAt l k) r).1.lift (liftAt l k)).dyn.state
      (s.lift (liftAt l k)).dyn.lastReport (s.reportOf (liftAt l k) r) events)
    (hattended : .evacuated ∈ events → ¬ ((s.caseAt c).dispatch = .waiting ∨ (s.caseAt c).dispatch = .offered)) :
    let i := liftAt l k
    let v := (takenReport s i r).1.toldCleared c events
    let a4 := s.heardBy i r ((s.caseAt c).metBy events)
    let new := (s.raisedBy i r).diff (s.caseAt c).causes
    let a5 := s.recordJoined a4 new
    exec (.answerWindowClose l held) s = .next (s.afterReport
      (if new = .empty then v.setCase c a4 else (v.setCase c a5).withNotice c a5 .causeAdded (.causes new)) l i next r) := by
  intro i v a4 new a5
  let u := (takenReport s i r).1
  let a2 := (s.caseAt c).metBy events
  have hb : u.Busy := h.taken.ready.busy
  have hroom : u.trunk.own.length + 3 ≤ 32 := h.room
  obtain ⟨hlifts, hlines, htime, hclasses, hbusy, hlength⟩ := u.toldCleared_rest c events
  have hvb : v.Busy := hbusy.mpr hb
  have hvlength : v.trunk.own.length ≤ u.trunk.own.length + 1 := hlength
  have ha2 : a2.Still (s.caseAt c).serial := h.still.metBy events
  obtain ⟨hcauses, hpresses⟩ := (s.caseAt c).metBy_rest events
  have hrunEvents := Runs.events_attended hb (by omega) h.stillOpen hevents hattended
  have hrunLater := Runs.laterNews (s := s) (i := i) (r := r) (v := v.setCase c a2) hvb (State.caseAt_setCase v c a2) ha2
    (hpresses.trans_le h.presses) hclasses
  rw [State.setCase_setCase] at hrunLater
  have ha4 : (v.setCase c a4).caseAt c = a4 := State.caseAt_setCase _ _ _
  have hrunRaise := Runs.raise_still (v := v.setCase c a4) (i := i) (c := c) hvb (by rw [ha4]; exact ha2.heardBy s i r)
    ((congrArg (fun x => x.dyn.openCase) (State.lift_congr hlifts i)).trans ((takenReport_openCase s i r).trans h.openCase))
    (by change v.trunk.own.length < 32; omega) (s.raisedBy i r)
  have hjoined : (v.setCase c a4).recordJoined a4 new = a5 := State.recordJoined_congr (t := v.setCase c a4) hclasses a4 new
  dsimp only at hrunRaise
  rw [ha4, (s.heardBy_causes i r a2).trans hcauses, hjoined, State.setCase_setCase] at hrunRaise
  have hkeeps : ∀ t : State, t.lifts = v.lifts → t.lines = v.lines → t.time = v.time → u.KeepsReport t l i :=
    fun t h1 h2 h3 => by
      have hlift : t.lift i = u.lift i := State.lift_congr (h1.trans hlifts) i
      exact ⟨State.line_congr (h2.trans hlines) l, h3.trans htime, by rw [hlift], by rw [hlift], by rw [hlift]⟩
  refine h.taken.closes (jobs := toldOf s i r ++ newsBy s i r c ++ raiseOf s i r) (takenReport_cased h.openCase)
    (((h.runs_told hno).append (h.runs_news hevents (hrunEvents.append hrunLater))).append hrunRaise) (by omega) ?_ ?_
  · split <;> exact hkeeps _ rfl rfl rfl
  · split
    · exact (by omega : v.trunk.own.length < 32)
    · rw [State.withNotice, State.withBroadcast_length]
      exact (by omega : v.trunk.own.length + 1 < 32)

end State.CaseReported

end

end Sys2Proof.Machine
end

section
/-! SUPPORT. What a taken report does to the lift and to its case (R38 to R45, R51, R54). -/

namespace Sys2Proof.Machine

section

variable {s : State} {l : LineId} {k : Fin 16} {next : Slot} {held : WindowHeld} {r : CarReport} {c : CaseNo}

/-- The jobs of a taken report, its news written out (R51, R54). -/
theorem takenReport_hands (s : State) (i : LiftIdx) (r : CarReport) :
    let g := (s.lift i).config
    let d := (s.lift i).dyn
    let e := ((takenReport s i r).1.lift i).dyn
    ∃ handed : List Job,
      (takenReport s i r).2 = toldOf s i r ++ handed ++ raiseOf s i r ++ [.summaryReport i d.state d.lastReport] ∧
      (d.openCase = none → handed = []) ∧
      ∀ c, d.openCase = some c → ∃ now events, e.lastReport = some now ∧
        CarEvents d.state e.state d.lastReport now events ∧
        handed = .releaseReport c (s.caseAt c).serial (decide (g.creep ≤ ((r.velocityCode : Int) - 512).natAbs)) ::
          events.map (.event c (s.caseAt c).serial ·) ++
          (if r.occupancy = .occupied ∧ (d.lastReport.any fun m => m.occupancy == .occupied) = false
            then [.occupancy c (s.caseAt c).serial] else []) ++
          (match d.pressBaseline with
            | some b => if (r.presses + 16 - b) % 16 = 0 then []
              else [.presses c (s.caseAt c).serial ((r.presses + 16 - b) % 16)]
            | none => []) := by
  intro g d e
  cases hcase : d.openCase with
  | none => exact ⟨[], by rw [takenReport_uncased hcase, List.append_nil], fun _ => rfl, nofun⟩
  | some c =>
    refine ⟨newsBy s i r c, takenReport_cased hcase, nofun, fun c' hc' => ?_⟩
    obtain rfl := Option.some.inj hc'
    refine ⟨s.reportOf i r, _, takenReport_lastReport s i r, carEvents_spec _ _ _ _, ?_⟩
    have hpresses : (match d.pressBaseline with
        | some b => if (r.presses + 16 - b) % 16 = 0 then []
          else [Job.presses c (s.caseAt c).serial ((r.presses + 16 - b) % 16)]
        | none => []) = if newPresses d.pressBaseline r.presses = 0 then []
          else [.presses c (s.caseAt c).serial (newPresses d.pressBaseline r.presses)] := by
      cases d.pressBaseline <;> rfl
    rw [hpresses, List.append_assoc]
    rfl

/-- The record that the occupancy change and the new presses make, written out (R68, R69). -/
theorem State.heardBy_eq (s : State) (i : LiftIdx) (r : CarReport) (a : Case) : s.heardBy i r a =
    (if r.occupancy = .occupied ∧ ((s.lift i).dyn.lastReport.any fun m => m.occupancy == .occupied) = false ∧
        a.occupancyCounted = false then { a with urgency := a.urgency - 1, occupancyCounted := true } else a).pressed
      (s.classes[1]).skip (match (s.lift i).dyn.pressBaseline with
        | some b => (r.presses + 16 - b) % 16
        | none => 0) := by
  have hpresses : newPresses (s.lift i).dyn.pressBaseline r.presses = (match (s.lift i).dyn.pressBaseline with
      | some b => (r.presses + 16 - b) % 16
      | none => 0) := by cases (s.lift i).dyn.pressBaseline <;> rfl
  rw [State.heardBy, Case.occupied, ← hpresses]
  simp only [ite_and]

/-- The window of a lift without a case closes on a report. -/
theorem State.ReportTaken.closes_uncased (h : s.ReportTaken l k next held r)
    (hcase : (s.lift (liftAt l k)).dyn.openCase = none) :
    let i := liftAt l k
    let g := (s.lift i).config
    let u := (takenReport s i r).1
    let raised := s.raisedBy i r
    let closes (v : State) : Prop := exec (.answerWindowClose l held) s = .next (s.afterReport v l i next r)
    (raised = .empty → closes u) ∧
    (∀ c, raised ≠ .empty → s.Ready 4 → (s.caseAt c).record = .free → (∀ b < c, (s.caseAt b).record ≠ .free) →
      (s.stepOf ⟨g.page, 0, false, .running, .none, 0, .stopped⟩).action = 12 →
      (s.stepOf ⟨g.page, 0, false, .running, .none, 0, .stopped⟩).argument = 2 →
      closes (u.openedAndHandedOver c i raised)) ∧
    (raised ≠ .empty → (∀ c, (s.caseAt c).record ≠ .free) →
      let v := u.setLift i ⟨g, { (u.lift i).dyn with latch := raised }⟩
      closes (if ∃ j, (s.lift j).dyn.latch ≠ .empty then v
        else v.withBroadcast (.notice ⟨.tableFull, none, some g.identity, s.time.stamp, none, none, .none⟩))) :=
  ⟨h.closes_quiet hcase, fun _ hraised hready hfree hlow haction hargument =>
      h.closes_opening hready hcase hraised hfree hlow haction hargument,
    h.closes_latching hcase⟩

/-- The window of a lift whose case is open closes on a report that does not end it by its truth. -/
theorem State.CaseReported.closes_met (h : s.CaseReported l k next held r c) (hno : ¬ s.fallsBy (liftAt l k) r c)
    {now : CarRecord} {events : List NamedEvent}
    (hnow : ((takenReport s (liftAt l k) r).1.lift (liftAt l k)).dyn.lastReport = some now)
    (hevents : CarEvents (s.lift (liftAt l k)).dyn.state ((takenReport s (liftAt l k) r).1.lift (liftAt l k)).dyn.state
      (s.lift (liftAt l k)).dyn.lastReport now events) :
    let i := liftAt l k
    let u := (takenReport s i r).1
    let a := s.caseAt c
    let unattended : Prop := a.dispatch = .waiting ∨ a.dispatch = .offered
    let closes (v : State) : Prop := exec (.answerWindowClose l held) s = .next (s.afterReport v l i next r)
    (.evacuated ∈ events → unattended → s.raisedBy i r = .empty → u.NoReopening i →
      closes ((u.setCase c (events.foldl Case.met a)).closedOff c .clearedUnattended)) ∧
    ((.evacuated ∈ events → ¬ unattended) →
      let v := u.toldCleared c events
      let a4 := s.heardBy i r (a.metBy events)
      let new := (s.raisedBy i r).diff a.causes
      let a5 := s.recordJoined a4 new
      (new = .empty → closes (v.setCase c a4)) ∧
      (new ≠ .empty → closes ((v.setCase c a5).withNotice c a5 .causeAdded (.causes new)))) := by
  obtain rfl : s.reportOf (liftAt l k) r = now := Option.some.inj ((takenReport_lastReport s _ r).symm.trans hnow)
  refine ⟨fun hevacuated hunattended hraised hquiet => h.closes_evacuated hno hevents hevacuated hunattended hraised hquiet,
    fun hattended => ?_⟩
  have hcloses := h.closes_attended hno hevents hattended
  exact ⟨fun hnew => hcloses.trans (by rw [if_pos hnew]), fun hnew => hcloses.trans (by rw [if_neg hnew])⟩

end

/-- Settles O52: the arithmetic, the jobs in their order, a silent slot, and the window's close case by case. -/
theorem reportsSetTheLiftState : Obligations.ReportsSetTheLiftState := by
  refine ⟨fun s i r hlandings => ?_, fun s i r => ?_, fun s i => ?_, fun s c => rfl, ?_⟩
  · intro g d e
    refine ⟨takenReport_arithmetic s i r hlandings, ?_, ?_, ⟨s.reportOf i r, takenReport_lastReport s i r, rfl, rfl, rfl, rfl, rfl, rfl⟩,
      ?_, fun st => ?_, fun hen => ?_⟩
    · simp only [e, takenReport_lift]; rfl
    · simp only [e, takenReport_lift]; rfl
    · rw [silentSlot_lift]; rfl
    · exact congrArg (fun x => x.dyn.stopCount) (State.lift_setDyn s i (.entered st))
    · rw [resetLift_lift hen]; rfl
  · intro g d u e raised
    have hlift : u.lift i = ⟨g, e⟩ := congrArg (Lift.mk · e) (takenReport_config s i r)
    refine ⟨?_, takenReport_truth s i r, takenReport_latch s i r, takenReport_openCase s i r, takenReport_hands s i r⟩
    rw [← hlift]
    exact takenReport_state s i r
  · intro g d n v raised
    have hlift : v.lift i = ⟨g, d.silenced g⟩ := State.lift_setLift _ _ _
    have hstore : storeTruth v i = v.setLift i ⟨g, { d.silenced g with truth := v.truthOf i }⟩ := by
      rw [storeTruth, State.setDyn, hlift]
    rw [hlift]
    have hsilent := silentSlot_eq s i
    simp only [raiseIf_eq] at hsilent
    refine hsilent.trans ?_
    rw [← hstore]
    rfl
  · intro s l k next held r hready hcycle hslot hnext hjudged i g d u e raised henabled hlatch changed closes
    have htaken : s.ReportTaken l k next held r := ⟨hready, ⟨hcycle, hslot⟩, hnext, hjudged, henabled, hlatch⟩
    refine ⟨htaken.closes_uncased, fun c hcase hopen hlift howed hrelease hidle hpresses _ => ?_⟩
    have hcased : s.CaseReported l k next held r c :=
      ⟨htaken, hcase, hlift, ⟨by simpa [State.isOpen] using hopen, rfl, howed, hrelease, hidle⟩, hpresses⟩
    refine ⟨hcased.closes_withdrawn, fun hno now events hnow hevents => ?_⟩
    have hmet := hcased.closes_met hno hnow hevents
    simp only [State.heardBy_eq] at hmet
    exact hmet

end Sys2Proof.Machine
end

section
/-! SUPPORT. The expiries of a case's escalation, min and max timers (R71, R72, R102, R104), with the handover of a procedure that
waits (R115). -/

namespace Sys2Proof.Machine

section

variable {s : State} {c : CaseNo}

/-! ### The escalation timer (R71, R72) -/

/-- The record once its escalation timer has run out and starts again (R71). -/
def Case.escalated (r : Case) : Case :=
  { r with
    urgency := r.urgency - 1
    escalations := min 15 (r.escalations + 1)
    declined := []
    escalation := .running r.interval }

/-- The record once its running procedure is handed over: the wait ended, and a command it waits on withdrawn (R115). -/
def Case.handedOver (r : Case) : Case :=
  { r with
    procedure := { r.procedure with status := .handedOver, wait := .none, timer := .stopped }
    pending := match r.pending with
      | some q => if r.procedure.wait = .delivery ∧ q.owner = .procedure then none else some q
      | none => none }

/-- A handover of a running procedure, with room for its notice (R115). -/
theorem handover_running {reason : HandoverReason} (hrun : (s.caseAt c).procedure.status = .running)
    (hroom : s.trunk.own.length < 32) (howed : (s.caseAt c).owed = false) :
    handover s c reason = (s.setCase c (s.caseAt c).handedOver).withNotice c (s.caseAt c).handedOver .handover
      (.handover reason) := by
  have hrecord : { (if (s.caseAt c).procedure.wait = .delivery then (s.caseAt c).withdraw .procedure else s.caseAt c) with
      procedure := { (s.caseAt c).procedure.unwaited with status := .handedOver } } = (s.caseAt c).handedOver := by
    unfold Case.handedOver Case.withdraw Procedure.unwaited
    cases hpending : (s.caseAt c).pending with
    | none => by_cases hwait : (s.caseAt c).procedure.wait = .delivery <;> simp [hwait, hpending]
    | some q =>
      by_cases hwait : (s.caseAt c).procedure.wait = .delivery
      · by_cases howner : q.owner = .procedure <;> simp [hwait, howner, hpending]
      · simp [hwait, hpending]
  unfold handover
  dsimp only
  rw [if_pos hrun, hrecord]
  exact State.setCase_notify_room _ _ hroom howed

/-- A handover of a procedure that is not running does nothing (R115). -/
theorem handover_idle {reason : HandoverReason} (hidle : (s.caseAt c).procedure.status ≠ .running) : handover s c reason = s :=
  if_neg hidle

/-- The escalation timer runs out, with room for ESCALATED (R71). -/
theorem escalate_room (hroom : s.trunk.own.length < 32) (howed : (s.caseAt c).owed = false) :
    escalate s c = ((s.setCase c (s.caseAt c).escalated).withNotice c (s.caseAt c).escalated .escalated
      (.count (s.caseAt c).escalated.escalations), [.handoverTest c]) := by
  let counted : Case := { s.caseAt c with
    urgency := improve (s.caseAt c).urgency, escalations := satInc 15 (s.caseAt c).escalations, declined := [] }
  have hnotify : (s.setCase c counted).notify c .escalated (.count counted.escalations) =
      (s.setCase c counted).withNotice c counted .escalated (.count counted.escalations) :=
    State.setCase_notify_room _ _ hroom howed
  have hcase : ((s.setCase c counted).withNotice c counted .escalated (.count counted.escalations)).caseAt c = counted :=
    State.caseAt_setCase _ _ _
  have hrecord : { counted with escalation := .running (s.caseAt c).interval } = (s.caseAt c).escalated := by
    simp only [counted, satInc_eq_min]
    rfl
  have hcount : counted.escalations = (s.caseAt c).escalated.escalations := satInc_eq_min _ _
  change (((s.setCase c counted).notify c .escalated (.count counted.escalations)).setCase c _, _) = _
  rw [hnotify, hcase, hrecord, State.withNotice, State.setCase_withBroadcast, State.setCase_setCase, hcount]
  rfl

/-- The handover test of an open case below its limit, or without a running procedure, does nothing (R72). -/
theorem handoverTest_stays (h : (s.caseAt c).escalations < (s.caseAt c).limit ∨ (s.caseAt c).procedure.status ≠ .running) :
    handoverTest s c = s := by
  unfold handoverTest
  dsimp only
  split
  · next hlimit =>
    have hle : (s.caseAt c).limit ≤ (s.caseAt c).escalations := by simpa using (Bool.and_eq_true_iff.mp hlimit).2
    exact handover_idle (h.resolve_left (Nat.not_lt.mpr hle))
  · rfl

/-- The handover test of an open case at its limit (R72). -/
theorem handoverTest_limit (hopen : s.isOpen c = true) (hlimit : (s.caseAt c).limit ≤ (s.caseAt c).escalations) :
    handoverTest s c = handover s c .escalation :=
  if_pos (by simp [hopen, hlimit])

/-- The state once the case's escalation timer has run out, before the handover test (R71). -/
def State.escalatedAt (s : State) (c : CaseNo) : State :=
  (s.setCase c (s.caseAt c).escalated).withNotice c (s.caseAt c).escalated .escalated
    (.count (s.caseAt c).escalated.escalations)

theorem State.escalatedAt_caseAt (s : State) (c : CaseNo) : (s.escalatedAt c).caseAt c = (s.caseAt c).escalated :=
  State.caseAt_setCase s c _

/-- The escalation timer of an open case has run out and is not yet taken, and the case owes no notice. -/
structure State.EscalationDue (s : State) (c : CaseNo) : Prop where
  opened : s.isOpen c = true
  due : (s.caseAt c).escalation = .due
  owed : (s.caseAt c).owed = false

/-- The escalation timer's expiry is the notice, then the handover test (R71, R72). -/
theorem exec_escalationTimerExpiry {t : State} (h : s.EscalationDue c) (hready : s.Ready 1)
    (ht : handoverTest (s.escalatedAt c) c = t) (hbusy : t.Busy) : exec (.escalationTimerExpiry c) s = .next t := by
  change execEscalationTimerExpiry c s = _
  rw [execEscalationTimerExpiry, if_pos (by simp [h.opened, h.due]), escalate_room hready.room h.owed]
  exact Runs.finish_eq (.one hready.busy (congrArg (·, []) ht) hbusy) (by decide)

/-- Below the handover limit, or without a running procedure, the procedure stays as it is (R72, R115). -/
theorem exec_escalation_stays (h : s.EscalationDue c) (hready : s.Ready 1)
    (hstays : (s.caseAt c).escalated.escalations < (s.caseAt c).limit ∨ (s.caseAt c).procedure.status ≠ .running) :
    exec (.escalationTimerExpiry c) s = .next (s.escalatedAt c) := by
  refine exec_escalationTimerExpiry h hready (handoverTest_stays ?_) hready.busy
  rwa [State.escalatedAt_caseAt]

/-- At the handover limit a running procedure is handed over (R72, R115). -/
theorem exec_escalation_hands (h : s.EscalationDue c) (hready : s.Ready 2)
    (hlimit : (s.caseAt c).limit ≤ (s.caseAt c).escalated.escalations) (hrun : (s.caseAt c).procedure.status = .running) :
    let handed := (s.caseAt c).escalated.handedOver
    exec (.escalationTimerExpiry c) s =
      .next (((s.escalatedAt c).setCase c handed).withNotice c handed .handover (.handover .escalation)) := by
  intro handed
  have hroom : s.trunk.own.length + 1 < 32 := hready.room
  have hcase := s.escalatedAt_caseAt c
  have hover : handover (s.escalatedAt c) c .escalation =
      ((s.escalatedAt c).setCase c handed).withNotice c handed .handover (.handover .escalation) := by
    rw [handover_running (s := s.escalatedAt c) (by rw [hcase]; exact hrun)
      ((State.withBroadcast_length (s.setCase c _) _).trans_lt hroom) (by rw [hcase]; exact h.owed), hcase]
  refine exec_escalationTimerExpiry h ⟨hready.busy, Nat.le_of_lt hroom⟩ ?_ hready.busy
  rw [← hover]
  exact handoverTest_limit (by rw [State.isOpen, hcase]; exact h.opened) (by rw [hcase]; exact hlimit)

/-! ### The max timer (R102, R104) -/

/-- The record once its max timer has run out (R102). -/
def Case.maxRunOut (r : Case) : Case := { r with window := { r.window with maxTimer := .stopped, maxRunOut := true } }

/-- The record once its case has become late (R104). -/
def Case.madeLate (r : Case) : Case := { r with urgency := r.urgency - 1, late := true }

/-- A case becomes late, with room for LATE (R104). -/
theorem becomeLate_room (hroom : s.trunk.own.length < 32) (howed : (s.caseAt c).owed = false) :
    becomeLate s c = (s.setCase c (s.caseAt c).madeLate).withNotice c (s.caseAt c).madeLate .late .none :=
  State.setCase_notify_room _ _ hroom howed

/-- The max timer's expiry sets its mark, and a case that is ASSIGNED becomes late (R102, R104). -/
theorem exec_maxTimerExpiry (hdue : (s.caseAt c).window.maxTimer = .due) : exec (.maxTimerExpiry c) s = finish
    (if s.isOpen c = true ∧ (s.caseAt c).dispatch = .assigned then becomeLate (s.setCase c (s.caseAt c).maxRunOut) c
      else s.setCase c (s.caseAt c).maxRunOut, []) := by
  change execMaxTimerExpiry c s = _
  rw [execMaxTimerExpiry, if_pos hdue]
  simp only [Bool.and_eq_true, decide_eq_true_eq]
  rfl

/-- The max timer's end makes a case that is ASSIGNED late (R104). -/
theorem exec_maxTimerExpiry_late (hdue : (s.caseAt c).window.maxTimer = .due) (hopen : s.isOpen c = true)
    (hassigned : (s.caseAt c).dispatch = .assigned) (hready : s.Ready 1) (howed : (s.caseAt c).owed = false) :
    let r := (s.caseAt c).maxRunOut.madeLate
    exec (.maxTimerExpiry c) s = .next ((s.setCase c r).withNotice c r .late .none) := by
  intro r
  have hlate : becomeLate (s.setCase c (s.caseAt c).maxRunOut) c = (s.setCase c r).withNotice c r .late .none := by
    rw [becomeLate_room (s := s.setCase c _) hready.room (by rw [State.caseAt_setCase]; exact howed), State.caseAt_setCase, State.setCase_setCase]
  rw [exec_maxTimerExpiry hdue, if_pos ⟨hopen, hassigned⟩, ← hlate]
  exact finish_busy (hlate ▸ hready.busy)

/-- The max timer's end at a case in another dispatch state sets its mark alone (R102). -/
theorem exec_maxTimerExpiry_unassigned (hdue : (s.caseAt c).window.maxTimer = .due) (hunassigned : (s.caseAt c).dispatch ≠ .assigned)
    (hb : s.Busy) : exec (.maxTimerExpiry c) s = .next (s.setCase c (s.caseAt c).maxRunOut) := by
  rw [exec_maxTimerExpiry hdue, if_neg fun h => hunassigned h.2]
  exact finish_busy hb

end

/-- Settles O16: the escalation timer by the handover test after its notice, the window's timers by what each expiry stores. -/
theorem caseTimersImproveTheUrgency : Obligations.CaseTimersImproveTheUrgency := by
  refine ⟨fun s c hready hopen hdue howed => ?_, fun s c hready hopen hdue howed hbelow => ?_, fun s c => ⟨?_, ?_, ?_⟩⟩
  · have hone : s.Ready 1 := ⟨hready.busy, Nat.le_of_succ_le hready.room⟩
    exact ⟨exec_escalation_stays ⟨hopen, hdue, howed⟩ hone, exec_escalation_hands ⟨hopen, hdue, howed⟩ hready⟩
  · exact exec_escalation_stays ⟨hopen, hdue, howed⟩ hready (.inl hbelow)
  · exact fun hdue => if_pos hdue
  · exact fun hdue hopen hassigned hready howed => exec_maxTimerExpiry_late hdue hopen hassigned hready howed
  · exact fun hdue hunassigned hb => exec_maxTimerExpiry_unassigned hdue hunassigned hb

end Sys2Proof.Machine
end

section
/-! SUPPORT. Latch tests and arbitration, and what a close puts back (R66, R67, R74, R78). -/

namespace Sys2Proof.Machine

section

variable {s : State} {c : CaseNo} {i : LiftIdx}

/-! ### The latch test and the withdrawal (R67, R74) -/

/-- What the case manager leaves of the state when it is told of a lift's truth (R67). -/
theorem truthTold_state (s : State) (i : LiftIdx) : (truthTold s i).1 =
    if (s.lift i).allLevelFalse (s.lift i).dyn.latch = true
      then s.setDyn i { (s.lift i).dyn with latch := .empty } else s := by
  unfold truthTold
  dsimp only
  split
  · split <;> rfl
  · rfl

/-- A case is withdrawn where its lift's new truth ends it (R74). -/
theorem truthTold_jobs_case (hcase : (s.lift i).dyn.openCase = some c) : (truthTold s i).2 =
    if ((s.caseAt c).dispatch = .waiting ∨ (s.caseAt c).dispatch = .offered) ∧
      (s.lift i).allLevelFalse (s.caseAt c).causes = true then [.close c .withdrawn] else [] := by
  simp only [truthTold, hcase, Bool.and_eq_true, Bool.or_eq_true, decide_eq_true_eq]
  split <;> rfl

theorem truthTold_jobs_uncased (hcase : (s.lift i).dyn.openCase = none) : (truthTold s i).2 = [] := by
  simp only [truthTold, hcase]

/-- A set of causes has fallen where each is LEVEL and neither true nor held (R67, R74, log 34). -/
theorem Lift.allLevelFalse_iff_fallen {r : Lift} {set : CauseSet} : r.allLevelFalse set = true ↔
    ∀ x, set.has x = true → (r.config.cause x).trigger = .level ∧ ¬ ((r.config.cause x).enabled = true ∧
      (r.dyn.truth.has x = true ∨ (r.dyn.lastReport = none ∧ r.dyn.keptTruth.has x = true))) := by
  simp only [Lift.allLevelFalse_iff, ← Lift.standingTruth_iff, Bool.not_eq_true]

/-! ### Latch arbitration (R66) -/

/-- Every latch without its LEVEL causes that are now false (R66, steps 1 and 2). -/
def State.pruned (s : State) : State :=
  { s with lifts := s.lifts.map fun (r : Lift) => { r with dyn := { r.dyn with latch := r.standingLatch } } }

theorem State.pruned_lift (s : State) (i : LiftIdx) :
    s.pruned.lift i = ⟨(s.lift i).config, { (s.lift i).dyn with latch := (s.lift i).standingLatch }⟩ := by
  simp [State.pruned, State.lift]

theorem State.pruned_urgency (s : State) (i : LiftIdx) :
    s.pruned.openingUrgency i (s.pruned.lift i).dyn.latch = s.urgencyAtOpening i (s.lift i).standingLatch := by
  rw [State.openingUrgency_eq, State.urgencyAtOpening, State.pruned_lift]
  rfl

theorem State.pruned_eq (s : State) : { s with lifts := s.lifts.map Lift.prunedLatch } = s.pruned := by
  have hlatch : Lift.prunedLatch = fun r => { r with dyn := { r.dyn with latch := r.standingLatch } } :=
    funext fun r => by rw [Lift.prunedLatch, Lift.dropFalse_latch]
  rw [State.pruned, hlatch]

/-- Arbitration gives the lowest FREE record to the best of what is left of the latches (R66). -/
theorem arbitrate_chosen (hfree : (s.caseAt c).record = .free) (hlow : ∀ e < c, (s.caseAt e).record ≠ .free)
    (hbest : s.pruned.bestLatch = some i) : arbitrate s = openCase s.pruned c i (s.lift i).standingLatch := by
  simp only [arbitrate, State.lowestFree_eq_some hfree hlow, State.pruned_eq, hbest, State.pruned_lift]

theorem arbitrate_unchosen (hfree : (s.caseAt c).record = .free) (hlow : ∀ e < c, (s.caseAt e).record ≠ .free)
    (hbest : s.pruned.bestLatch = none) : arbitrate s = (s.pruned, []) := by
  simp only [arbitrate, State.lowestFree_eq_some hfree hlow, State.pruned_eq, hbest]

theorem State.bestLatch_none (h : ∀ i, (s.lift i).dyn.latch = .empty) : s.bestLatch = none := by
  have hnone : ((List.finRange 64).filter fun i => !(s.lift i).dyn.latch.isEmpty) = [] :=
    List.filter_eq_nil_iff.mpr fun i _ => by simp [h i, CauseSet.isEmpty]
  rw [State.bestLatch, hnone]
  rfl

/-- The latched lift of the best candidate urgency, the lower index of equals (R66, steps 3 and 4). -/
theorem State.bestLatch_some (hi : (s.lift i).dyn.latch ≠ .empty) (hbest : ∀ j, (s.lift j).dyn.latch ≠ .empty →
    s.openingUrgency i (s.lift i).dyn.latch < s.openingUrgency j (s.lift j).dyn.latch ∨
      (s.openingUrgency i (s.lift i).dyn.latch = s.openingUrgency j (s.lift j).dyn.latch ∧ i ≤ j)) :
    s.bestLatch = some i := by
  have hmem : ∀ j, j ∈ (List.finRange 64).filter (fun i => !(s.lift i).dyn.latch.isEmpty) ↔ (s.lift j).dyn.latch ≠ .empty :=
    fun j => by simp [CauseSet.isEmpty]
  exact pickBest_eq_some (f := fun j => s.openingUrgency j (s.lift j).dyn.latch) (fun _ _ => decide_eq_true_iff)
    (finRange_filter_ascending _) ((hmem i).mpr hi) fun j hj => hbest j ((hmem j).mp hj)

theorem arbitrate_full (h : ∀ c, (s.caseAt c).record ≠ .free) : arbitrate s = (s, []) := by
  simp only [arbitrate, State.lowestFree_eq_none h]

/-- Where nothing is left of any latch, no case opens (R66). -/
theorem arbitrate_fallen (hfree : (s.caseAt c).record = .free) (hlow : ∀ e < c, (s.caseAt e).record ≠ .free)
    (hleft : ∀ i, (s.lift i).standingLatch = .empty) : arbitrate s = (s.pruned, []) :=
  arbitrate_unchosen hfree hlow (State.bestLatch_none fun i => by rw [State.pruned_lift]; exact hleft i)

/-- What is left of the best latch opens as a case, with room for OPENED and CALL (R62, R66). -/
theorem arbitrate_opens (hfree : (s.caseAt c).record = .free) (hlow : ∀ e < c, (s.caseAt e).record ≠ .free)
    (hleft : (s.lift i).standingLatch ≠ .empty) (hbest : ∀ j, (s.lift j).standingLatch ≠ .empty →
      s.urgencyAtOpening i (s.lift i).standingLatch < s.urgencyAtOpening j (s.lift j).standingLatch ∨
        (s.urgencyAtOpening i (s.lift i).standingLatch = s.urgencyAtOpening j (s.lift j).standingLatch ∧ i ≤ j))
    (hroom : s.trunk.own.length + 2 ≤ 32) :
    arbitrate s = (s.pruned.openedIn c i (s.lift i).standingLatch, [.go c 0 0 false]) := by
  have hlatch : ∀ j, (s.pruned.lift j).dyn.latch = (s.lift j).standingLatch := fun j => by rw [State.pruned_lift]
  have hchosen : s.pruned.bestLatch = some i := by
    refine State.bestLatch_some (by rwa [hlatch]) fun j hj => ?_
    rw [State.pruned_urgency, State.pruned_urgency]
    exact hbest j (by rwa [hlatch] at hj)
  exact (arbitrate_chosen hfree hlow hchosen).trans (openCase_room hleft hroom)

/-! ### Closes (R78) -/

theorem State.someLatch_eq_false : s.someLatch = false ↔ ∀ j, (s.lift j).dyn.latch = .empty := by
  rw [← Bool.not_eq_true, State.someLatch_iff, not_exists]
  exact forall_congr' fun _ => not_not

/-- A close puts the enabled LEVEL causes that are true into the lift's latch (R78). -/
theorem closedOff_addLatch (s : State) (c : CaseNo) (reason : CloseReason) :
    let i := (s.caseAt c).lift
    let u := s.closedOff c reason
    let d := (u.lift i).dyn
    let standing : CauseSet := .filter fun x => d.latch.has x ||
      (((s.lift i).config.cause x).enabled && ((s.lift i).config.cause x).trigger == .level && d.truth.has x)
    u.addLatch i (s.lift i).trueLevel = u.setLift i { u.lift i with dyn := { d with latch := standing } } := by
  intro i u d standing
  have htruth : d.truth = (s.lift i).dyn.truth := by simp only [d, u, State.closedOff_lift, if_pos, i]
  have hunion : d.latch.union (s.lift i).trueLevel = standing :=
    CauseSet.ext_has fun x => by rw [CauseSet.union_has, CauseSet.filter_has, Lift.trueLevel, CauseSet.filter_has, htruth]
  rw [← hunion]
  rfl

end

/-- Settles O54: presses by their thresholds; a raise, a latch test and an arbitration each by the case it meets; a close by its
arbitration with what it puts back. -/
theorem pressThresholdsAndLatchTests : Obligations.PressThresholdsAndLatchTests := by
  refine ⟨fun s c n _ _ => addPresses_eq s c n, fun s i causes hroom => ⟨?_, fun hcase => ⟨?_, ?_⟩⟩, fun s i => ?_,
    fun s => ⟨arbitrate_full, fun c hfree hlow => ⟨arbitrate_fallen hfree hlow, fun i hleft hbest hroom =>
      arbitrate_opens hfree hlow hleft hbest hroom⟩⟩, fun s c reason hopen howed hroom => ?_⟩
  · intro c hcase howed
    refine ⟨fun hnone => ?_, fun hnew => ?_⟩
    · exact (raise_joins hcase).trans (joinCauses_none hnone)
    · exact (raise_joins hcase).trans (joinCauses_room hnew howed (by omega))
  · exact fun c hfree hlow hcauses => raise_opens hcase hfree hlow hcauses hroom
  · exact fun hfull hcauses => raise_latches hcase hfull hcauses (by omega)
  · intro d stands fallen withdrawn
    have hfallen : (s.lift i).allLevelFalse d.latch = true ↔ fallen := Lift.allLevelFalse_iff_fallen
    rw [truthTold_state]
    refine ⟨fun h => if_pos (hfallen.mpr h), fun h => if_neg (mt hfallen.mp h), fun c h => ?_, fun h => ?_⟩
    · obtain ⟨hcase, hdispatch, hcauses⟩ := h
      exact (truthTold_jobs_case hcase).trans (if_pos ⟨hdispatch, Lift.allLevelFalse_iff_fallen.mpr hcauses⟩)
    · cases hcase : (s.lift i).dyn.openCase with
      | none => exact truthTold_jobs_uncased hcase
      | some c =>
        exact (truthTold_jobs_case hcase).trans
          (if_neg fun hc => h c ⟨hcase, hc.1, Lift.allLevelFalse_iff_fallen.mp hc.2⟩)
  · intro i u d standing given
    have hgiven : arbitrate (u.addLatch i (s.lift i).trueLevel) = given := congrArg arbitrate (closedOff_addLatch s c reason)
    rw [closeCase_room hopen howed hroom]
    change ((arbitrate (u.addLatch i (s.lift i).trueLevel)).1.fullIf s.someLatch i,
      (arbitrate (u.addLatch i (s.lift i).trueLevel)).2) = _
    rw [hgiven, State.fullIf_eq]
    exact congrArg (·, given.2) (if_congr (and_congr_left' State.someLatch_eq_false) rfl rfl)

end Sys2Proof.Machine
end

section
/-! SUPPORT. Class, travel and step writes (R60, R91, R109), and writes of the sector settings with the lines they make CONTINUOUS
(R3, R13, R164). -/

namespace Sys2Proof

/-! ### What the writes carry (R60, R164) -/

theorem Machine.decodeSource_none {b : Nat} (h : 5 < b) : Machine.decodeSource b = none := by
  obtain ⟨n, rfl⟩ := Nat.exists_eq_add_of_le' h
  rfl

theorem Machine.decodeYesNo_none {b : Nat} (h : 1 < b) : Machine.decodeYesNo b = none := by
  obtain ⟨n, rfl⟩ := Nat.exists_eq_add_of_le' h
  rfl

theorem Machine.decodeCycleMode_none {b : Nat} (h : 1 < b) : Machine.decodeCycleMode b = none := by
  obtain ⟨n, rfl⟩ := Nat.exists_eq_add_of_le' h
  rfl

theorem Machine.decodeTieMode_none {b : Nat} (h : 1 < b) : Machine.decodeTieMode b = none := by
  obtain ⟨n, rfl⟩ := Nat.exists_eq_add_of_le' h
  rfl

open Machine

/-- A class write with a source or a close on accept outside its list is not stored (R60). -/
theorem ClassWrite.entry_none {w : ClassWrite} (h : 5 < w.clear ∨ 5 < w.stop ∨ 1 < w.closeOnAccept) : w.entry = none := by
  unfold ClassWrite.entry
  split
  · next hclear hstop hcoa =>
    rcases h with h | h | h
    · exact absurd (hclear.symm.trans (decodeSource_none h)) (Option.some_ne_none _)
    · exact absurd (hstop.symm.trans (decodeSource_none h)) (Option.some_ne_none _)
    · exact absurd (hcoa.symm.trans (decodeYesNo_none h)) (Option.some_ne_none _)
  · rfl

theorem ClassWrite.clamps_eq_false {w : ClassWrite} {e : ClassEntry} : w.clamps e = false ↔
    e.base = w.base ∧ e.interval = w.interval ∧ e.limit = w.limit ∧ e.skip = w.skip := by
  simp [ClassWrite.clamps, and_assoc]

/-- The settings of a line that a write stores (R164). -/
def LineWrite.stored (w : LineWrite) : LineSettings :=
  ⟨if w.defaultMode = 0 then .continuous else .quiet, clampTo 1 50 w.cycleInterval, clampTo 10 600 w.quietCeiling,
    clampTo 2 20 w.answerWindow⟩

theorem LineWrite.settings_eq {w : LineWrite} (h : w.defaultMode ≤ 1) : w.settings = some w.stored := by
  have hmode : decodeCycleMode w.defaultMode = some (if w.defaultMode = 0 then .continuous else .quiet) := by
    match w.defaultMode, h with
    | 0, _ => rfl
    | 1, _ => rfl
  simp only [LineWrite.settings, hmode]
  rfl

theorem LineWrite.settings_none {w : LineWrite} (h : 1 < w.defaultMode) : w.settings = none := by
  simp only [LineWrite.settings, decodeCycleMode_none h]

theorem LineWrite.clamps_eq_false {w : LineWrite} {v : LineSettings} : w.clamps v = false ↔
    v.cycleInterval = w.cycleInterval ∧ v.quietCeiling = w.quietCeiling ∧ v.answerWindow = w.answerWindow := by
  simp [LineWrite.clamps, and_assoc]

/-- The sector settings that a write stores (R164). -/
def SettingsWrite.stored (w : SettingsWrite) : Settings :=
  ⟨clampTo 2 65535 w.d1, clampTo 2 65535 w.d2, clampTo 10 6000 w.offerTimeout, if w.tieMode = 0 then .oldest else .rotate,
    clampTo 1 600 w.settleLimit, tab fun l => w.lines[l.val].stored⟩

theorem SettingsWrite.settings_eq {w : SettingsWrite} (htie : w.tieMode ≤ 1)
    (hlines : ∀ l : Fin 4, w.lines[l.val].defaultMode ≤ 1) : w.settings = some w.stored := by
  have hmode : decodeTieMode w.tieMode = some (if w.tieMode = 0 then .oldest else .rotate) := by
    match w.tieMode, htie with
    | 0, _ => rfl
    | 1, _ => rfl
  have h0 : w.lines[0].settings = _ := LineWrite.settings_eq (hlines 0)
  have h1 : w.lines[1].settings = _ := LineWrite.settings_eq (hlines 1)
  have h2 : w.lines[2].settings = _ := LineWrite.settings_eq (hlines 2)
  have h3 : w.lines[3].settings = _ := LineWrite.settings_eq (hlines 3)
  simp only [SettingsWrite.settings, hmode, h0, h1, h2, h3]
  rfl

/-- The settings stored, by their values (R164). -/
theorem SettingsWrite.stored_eq {w : SettingsWrite} {v : Settings} (hd1 : v.d1 = max 2 (min 65535 w.d1))
    (hd2 : v.d2 = max 2 (min 65535 w.d2)) (hoffer : v.offerTimeout = max 10 (min 6000 w.offerTimeout))
    (htie : v.tieMode = if w.tieMode = 0 then .oldest else .rotate) (hsettle : v.settleLimit = max 1 (min 600 w.settleLimit))
    (hlines : ∀ l : Fin 4, v.lines[l.val] = w.lines[l.val].stored) : w.stored = v := by
  have hvector : w.stored.lines = v.lines := Vector.ext fun l hl => (getElem_tab _ l hl).trans (hlines ⟨l, hl⟩).symm
  obtain ⟨d1, d2, offer, tie, settle, lines⟩ := v
  exact Settings.mk.injEq .. ▸ ⟨hd1.symm, hd2.symm, hoffer.symm, htie.symm, hsettle.symm, hvector⟩

/-- A write with a mode outside its list is not stored (R164). -/
theorem SettingsWrite.settings_none {w : SettingsWrite} (h : 1 < w.tieMode ∨ ∃ l : Fin 4, 1 < w.lines[l.val].defaultMode) :
    w.settings = none := by
  unfold SettingsWrite.settings
  split
  · next htie h0 h1 h2 h3 =>
    rcases h with h | ⟨l, h⟩
    · exact absurd (htie.symm.trans (decodeTieMode_none h)) (Option.some_ne_none _)
    · have hline := LineWrite.settings_none h
      match l, hline with
      | 0, hline => exact absurd (h0.symm.trans hline) (Option.some_ne_none _)
      | 1, hline => exact absurd (h1.symm.trans hline) (Option.some_ne_none _)
      | 2, hline => exact absurd (h2.symm.trans hline) (Option.some_ne_none _)
      | 3, hline => exact absurd (h3.symm.trans hline) (Option.some_ne_none _)
  · rfl

theorem SettingsWrite.clamps_eq_false {w : SettingsWrite} {v : Settings} : w.clamps v = false ↔
    v.d1 = w.d1 ∧ v.d2 = w.d2 ∧ v.offerTimeout = w.offerTimeout ∧ v.settleLimit = w.settleLimit ∧
      ∀ l : Fin 4, v.lines[l.val].cycleInterval = w.lines[l.val].cycleInterval ∧
        v.lines[l.val].quietCeiling = w.lines[l.val].quietCeiling ∧
        v.lines[l.val].answerWindow = w.lines[l.val].answerWindow := by
  simp only [SettingsWrite.clamps, Bool.or_eq_false_iff, bne_eq_false_iff_eq, List.any_eq_false, List.mem_finRange,
    true_implies, Bool.not_eq_true, LineWrite.clamps_eq_false, and_assoc]

end Sys2Proof

namespace Sys2Proof.Machine

section

variable {s : State}

/-! ### Lines that work wakes (R3, R13) -/

/-- A state that differs from another in its lines alone, and has the same lines. -/
theorem State.eq_of_lines {t : State} (hrest : t = { s with lines := t.lines }) (h : ∀ l, t.line l = s.line l) : t = s := by
  have hlines : t.lines = s.lines := Vector.ext fun l hl => h ⟨l, hl⟩
  rw [hrest, hlines]

/-- The state once the lines of the list that stand in QUIET_IDLE have sent a START that carries nothing. -/
def State.woken (s : State) (ls : List LineId) : State :=
  { s with lines := tab fun l =>
      if l ∈ ls ∧ (s.line l).state = .quietIdle then s.startedWith l none none (s.slotSet l) else s.line l }

theorem State.woken_line (s : State) (ls : List LineId) (l : LineId) : (s.woken ls).line l =
    if l ∈ ls ∧ (s.line l).state = .quietIdle then s.startedWith l none none (s.slotSet l) else s.line l :=
  getElem_tab _ _ _

/-- Work on a line, after work on others: in QUIET_IDLE the line starts, and otherwise nothing comes of it (R13). -/
theorem Runs.lineWork_woken {ls : List LineId} {l : LineId} (hb : s.Busy)
    (hwork : (s.line l).state = .quietIdle → s.NothingToSend l ∧ s.slotSet l ≠ []) :
    Runs 2 (s.woken ls) [.lineWork l] (s.woken (ls ++ [l])) := by
  have hbusy : (s.woken ls).Busy := hb
  have hwoken : ∀ m, m ≠ l ∨ (s.line l).state ≠ .quietIdle ∨ l ∈ ls → (s.woken (ls ++ [l])).line m = (s.woken ls).line m :=
    fun m hm => by simp only [State.woken_line, List.mem_append, List.mem_singleton]; grind
  by_cases hidle : l ∉ ls ∧ (s.line l).state = .quietIdle
  · obtain ⟨hnew, hquiet⟩ := hidle
    obtain ⟨hnothing, hslots⟩ := hwork hquiet
    have hline : (s.woken ls).line l = s.line l := by rw [State.woken_line, if_neg fun h => hnew h.1]
    obtain ⟨first, slots, hcons⟩ := List.exists_cons_of_ne_nil hslots
    have hsend : (s.woken ls).NothingToSend l := ⟨hnothing.cases, by rw [hline]; exact hnothing.answers,
      by rw [hline]; exact hnothing.routine⟩
    have hruns := Runs.lineWork_starts hbusy (by rw [hline]; exact hquiet) hsend (slots := slots) hcons
    have hend : (s.woken ls).setLine l ((s.woken ls).polling l none first slots) = s.woken (ls ++ [l]) := by
      refine State.eq_of_lines rfl fun m => ?_
      rw [State.line_setLine_if]
      split
      · next h =>
        subst h
        rw [State.woken_line, if_pos ⟨by simp, hquiet⟩, hcons, State.polling, State.startedWith, hline]
        rfl
      · next h => exact (hwoken m (.inl (Ne.symm h))).symm
    exact hend ▸ hruns
  · have hsame : s.woken (ls ++ [l]) = s.woken ls := by
      refine State.eq_of_lines rfl fun m => hwoken m ?_
      grind
    rw [hsame]
    refine (Runs.lineWork_skip hbusy ?_).mono (by decide)
    rw [State.woken_line]
    split
    · exact LineState.noConfusion
    · grind

/-- Work on one line after another (R13). -/
theorem Runs.lineWorks (hb : s.Busy) (ls : List LineId)
    (hwork : ∀ l ∈ ls, (s.line l).state = .quietIdle → s.NothingToSend l ∧ s.slotSet l ≠ []) :
    ∀ before, Runs (2 * ls.length) (s.woken before) (ls.map .lineWork) (s.woken (before ++ ls)) := by
  induction ls with
  | nil => exact fun before => by rw [List.append_nil]; exact .nil hb
  | cons l ls ih =>
    intro before
    have hfirst := Runs.lineWork_woken (ls := before) hb (hwork l (by simp))
    have hrest := ih (fun m hm => hwork m (by simp [hm])) (before ++ [l])
    rw [List.append_assoc] at hrest
    exact (hfirst.append hrest).mono (by rw [List.length_cons]; omega)

theorem State.woken_nil (s : State) : s.woken [] = s :=
  State.eq_of_lines rfl fun l => by rw [State.woken_line, if_neg fun h => List.not_mem_nil h.1]

/-! ### Writes that are stored at once (R60, R91, R109) -/

/-- An accepted write that leaves no job, with room for its answer (R163). -/
theorem finish_stored {u : State} (h : u.Ready 1) (o : Origin) {clamped : Bool} {echo : AnswerData} {p : Prop} [Decidable p]
    (hp : clamped = false ↔ p) : finish (stored u o clamped echo, []) =
      .next (if p then u.withAnswer o 2#8 .ok .none else u.withAnswer o 2#8 .clamped echo) := by
  rw [stored_room o clamped echo h.room, if_congr hp rfl rfl]
  split <;> exact finish_busy h.busy

theorem State.anyOpen_iff : s.anyOpen = true ↔ ∃ c, s.isOpen c = true := by simp [State.anyOpen]
theorem State.anyOpen_eq_false : s.anyOpen = false ↔ ∀ c, s.isOpen c = false := by simp [State.anyOpen]

/-- A page is locked where it is an OPEN case's own, or the common page while any case is OPEN (R109). -/
theorem State.pageLocked_iff (page : Fin 16) : s.pageLocked page.val = true ↔
    ∃ c, s.isOpen c = true ∧ ((s.caseAt c).procedure.ownPage = page ∨ page = 15) := by
  simp [State.pageLocked, State.openRecords, Fin.ext_iff]

theorem writeClass_stored {o : Origin} {w : ClassWrite} {e : ClassEntry} (i : Fin 5) (hready : s.Ready 1)
    (hclosed : s.anyOpen = false) (he : w.entry = some e) : exec (.writeClass o i.val w) s = .next
      (if e.base = w.base ∧ e.interval = w.interval ∧ e.limit = w.limit ∧ e.skip = w.skip
        then { s with classes := s.classes.set i.val e }.withAnswer o 2#8 .ok .none
        else { s with classes := s.classes.set i.val e }.withAnswer o 2#8 .clamped (.classEntry e)) := by
  change finish (writeClassRequest s o i.val w) = _
  simp only [writeClassRequest, toIdx_val, hclosed, he, Bool.false_eq_true, if_false]
  exact finish_stored (u := { s with classes := s.classes.set i.val e }) ⟨hready.busy, hready.room⟩ o ClassWrite.clamps_eq_false

theorem travel_clamps_eq_false (v : Travel) (lo hi : Nat) : (v.min != lo || v.max != hi) = false ↔ v.min = lo ∧ v.max = hi := by
  simp

theorem writeTravel_stored {o : Origin} {v : Travel} (i : Fin 16) {lo hi : Nat} (hv : travelStored lo hi = v) (hready : s.Ready 1) :
    exec (.writeTravel o i.val lo hi) s = .next (if v.min = lo ∧ v.max = hi
      then { s with travel := s.travel.set i.val v }.withAnswer o 2#8 .ok .none
      else { s with travel := s.travel.set i.val v }.withAnswer o 2#8 .clamped (.travel v)) := by
  change finish (writeTravelRequest s o i.val lo hi) = _
  simp only [writeTravelRequest, toIdx_val, hv]
  exact finish_stored (u := { s with travel := s.travel.set i.val v }) ⟨hready.busy, hready.room⟩ o (travel_clamps_eq_false v lo hi)

/-- A step write is refused where its page is locked, and else stored (R109). -/
theorem writeStep_eq {o : Origin} {w : StepWrite} (page step : Fin 16) (hready : s.Ready 1) :
    exec (.writeStep o (page.val * 16 + step.val) w) s = .next (if s.pageLocked page.val then s.withAnswer o 2#8 .locked .none
      else { s with store := s.store.set (page.val * 16 + step.val) w.record }.withAnswer o 2#8 .ok .none) := by
  have hpage : (page.val * 16 + step.val) / 16 = page.val := by omega
  change finish (writeStepRequest s o (page.val * 16 + step.val) w) = _
  rw [writeStepRequest, toIdx, dif_pos (by omega)]
  dsimp only
  rw [hpage]
  split
  · exact finish_answered hready o _ _
  · exact finish_answered (s := { s with store := s.store.set (page.val * 16 + step.val) w.record })
      ⟨hready.busy, hready.room⟩ o _ _

/-! ### Sector settings (R164) -/

/-- The lines whose default mode is CONTINUOUS, in ascending order. -/
def Settings.continuousLines (v : Settings) : List LineId :=
  (List.finRange 4).filter fun l => v.lines[l.val].defaultMode == .continuous

theorem Settings.mem_continuousLines {v : Settings} {l : LineId} :
    l ∈ v.continuousLines ↔ v.lines[l.val].defaultMode = .continuous := by
  simp [Settings.continuousLines]

/-- An accepted write stores every setting at once, and each line that it makes CONTINUOUS ends its QUIET_IDLE (R3, R13, R164). -/
theorem writeSettings_stored {o : Origin} {w : SettingsWrite} {v : Settings} {u : State} (hready : s.Ready 1)
    (hv : w.settings = some v)
    (hwork : ∀ l ∈ v.continuousLines, (s.line l).state = .quietIdle → s.NothingToSend l ∧ s.slotSet l ≠ [])
    (hu : { s with settings := v }.woken v.continuousLines = u) :
    exec (.writeSectorSettings o 0 w) s = .next
      (if w.clamps v = false then u.withAnswer o 2#8 .ok .none else u.withAnswer o 2#8 .clamped (.settings v)) := by
  let stores : State := { s with settings := v }
  have hanswered := stored_room (s := stores) o (w.clamps v) (.settings v) hready.room
  have hruns (answered : State) (h : answered = stored stores o (w.clamps v) (.settings v)) :
      finish (answered, v.continuousLines.map .lineWork) = .next (answered.woken v.continuousLines) := by
    have hlength : v.continuousLines.length ≤ 4 := List.length_filter_le _ _
    have hbusy : answered.Busy := by rw [h, hanswered]; split <;> exact hready.busy
    have hsends : ∀ l ∈ v.continuousLines, (answered.line l).state = .quietIdle →
        answered.NothingToSend l ∧ answered.slotSet l ≠ [] := by
      rw [h, hanswered]
      split <;> exact fun l hl hquiet => ⟨(hwork l hl hquiet).1.congr rfl rfl, (hwork l hl hquiet).2⟩
    have hrun := Runs.lineWorks hbusy _ hsends []
    rw [State.woken_nil] at hrun
    exact hrun.finish_eq (by omega)
  change finish (writeSettingsRequest s o 0 w) = _
  simp only [writeSettingsRequest, hv]
  refine (hruns _ rfl).trans ?_
  rw [hanswered, ← hu]
  split <;> rfl

end

/-- Settles O33: each write by its lock, what it carries and what it stores; of the settings, the jobs that follow wake the lines in
QUIET_IDLE that are now CONTINUOUS. -/
theorem tableAndSettingsWrites : Obligations.TableAndSettingsWrites := by
  refine ⟨fun s o hready => ⟨fun i w => ⟨fun hopen => ?_, fun hclosed => ⟨fun hbad => ?_, fun clear stop hclear hstop hcoa => ?_⟩⟩,
    fun i lo hi => writeTravel_stored i rfl hready, fun page step w => ⟨fun hlocked => ?_, fun hfree => ?_⟩⟩,
    fun s o w hready => ⟨fun hbad => ?_, ?_⟩⟩
  · change finish (writeClassRequest s o i.val w) = _
    simp only [writeClassRequest, toIdx_val, State.anyOpen_iff.mpr hopen]
    exact finish_answered hready o _ _
  · change finish (writeClassRequest s o i.val w) = _
    simp only [writeClassRequest, toIdx_val, State.anyOpen_eq_false.mpr hclosed, ClassWrite.entry_none hbad]
    exact finish_answered hready o _ _
  · refine writeClass_stored i hready (State.anyOpen_eq_false.mpr hclosed) ?_
    simp only [ClassWrite.entry, hclear, hstop, decodeYesNo_eq hcoa]
    rfl
  · rw [writeStep_eq page step hready, if_pos ((State.pageLocked_iff page).mpr hlocked)]
  · rw [writeStep_eq page step hready, if_neg fun h => ?_]
    · rfl
    · obtain ⟨c, hopen, hpage⟩ := (State.pageLocked_iff page).mp h
      exact hpage.elim (hfree c hopen).1 (hfree c hopen).2
  · change finish (writeSettingsRequest s o 0 w) = _
    simp only [writeSettingsRequest, SettingsWrite.settings_none hbad]
    exact finish_answered hready o _ _
  · intro v htie hmodes wakes hwork hd1 hd2 hoffer htieMode hsettle hlines u started
    have hv : w.settings = some v := by
      rw [SettingsWrite.settings_eq htie hmodes, SettingsWrite.stored_eq hd1 hd2 hoffer htieMode hsettle hlines]
    have hwakes : ∀ l, wakes l = true ↔ l ∈ v.continuousLines ∧ (s.line l).state = .quietIdle := fun l => by
      rw [Settings.mem_continuousLines, hlines]
      by_cases hmode : w.lines[l.val].defaultMode = 0 <;> simp [wakes, hmode]
    have hstarted : u.woken v.continuousLines = started := by
      refine State.eq_of_lines rfl fun l => ?_
      have hline : started.line l = if wakes l = true then u.startedWith l none none (s.slotSet l) else s.line l :=
        getElem_tab _ _ _
      rw [State.woken_line, hline, if_congr (hwakes l) rfl rfl]
      rfl
    have hstored := writeSettings_stored (o := o) hready hv (fun l hl hquiet => hwork l ((hwakes l).mpr ⟨hl, hquiet⟩)) hstarted
    rwa [if_congr SettingsWrite.clamps_eq_false rfl rfl] at hstored

end Sys2Proof.Machine
end

section
/-! SUPPORT. What a handling can do to the case table: records that change in place, openings, closes and departures (chapter 4). -/

namespace Sys2Proof.Machine

/-! ### A record that changes in place -/

/-- The record `q` is `r` after changes that neither open nor close a case: what names the case stands, its urgency only improves,
its causes, its events and its counts only grow and stop at their limits; a record that is not OPEN takes on no release and no
command, and a CLOSING one keeps its owed flag and what its CLOSED notice is made with. -/
structure Case.Advances (r q : Case) : Prop where
  record : q.record = r.record
  serial : q.serial = r.serial
  lift : q.lift = r.lift
  openedAt : q.openedAt = r.openedAt
  urgency : q.urgency ≤ r.urgency
  causes : ∀ x, r.causes.has x = true → q.causes.has x = true
  seen : ∀ x, r.seen.has x = true → q.seen.has x = true
  escalations : r.escalations ≤ 15 → q.escalations ≤ 15
  presses : r.presses ≤ 255 → r.presses ≤ q.presses ∧ q.presses ≤ 255
  retry : r.procedure.retry ≤ 15 → q.procedure.retry ≤ 15
  pulses : r.pulses ≤ 63 → r.pulses ≤ q.pulses ∧ q.pulses ≤ 63
  repeats : (∀ x, r.release = some x → x.repeats ≤ 255) → ∀ x, q.release = some x → x.repeats ≤ 255
  release : r.record ≠ .opened → r.release = none → q.release = none
  pending : r.record ≠ .opened → r.pending = none → q.pending = none
  owed : r.record = .closing → r.owed = true → q.owed = true
  closeReason : q.closeReason = r.closeReason
  closedIdentity : q.closedIdentity = r.closedIdentity
  closedAt : q.closedAt = r.closedAt

namespace Case.Advances

variable {r q p : Case}

theorem refl (r : Case) : r.Advances r where
  record := rfl
  serial := rfl
  lift := rfl
  openedAt := rfl
  urgency := le_rfl
  causes := fun _ => id
  seen := fun _ => id
  escalations := id
  presses := fun h => ⟨le_rfl, h⟩
  retry := id
  pulses := fun h => ⟨le_rfl, h⟩
  repeats := id
  release := fun _ => id
  pending := fun _ => id
  owed := fun _ => id
  closeReason := rfl
  closedIdentity := rfl
  closedAt := rfl

theorem trans (h : r.Advances q) (h' : q.Advances p) : r.Advances p where
  record := h'.record.trans h.record
  serial := h'.serial.trans h.serial
  lift := h'.lift.trans h.lift
  openedAt := h'.openedAt.trans h.openedAt
  urgency := h'.urgency.trans h.urgency
  causes := fun x hx => h'.causes x (h.causes x hx)
  seen := fun x hx => h'.seen x (h.seen x hx)
  escalations := fun hr => h'.escalations (h.escalations hr)
  presses := fun hr => ⟨(h.presses hr).1.trans (h'.presses (h.presses hr).2).1, (h'.presses (h.presses hr).2).2⟩
  retry := fun hr => h'.retry (h.retry hr)
  pulses := fun hr => ⟨(h.pulses hr).1.trans (h'.pulses (h.pulses hr).2).1, (h'.pulses (h.pulses hr).2).2⟩
  repeats := fun hr => h'.repeats (h.repeats hr)
  release := fun hr hn => h'.release (h.record ▸ hr) (h.release hr hn)
  pending := fun hr hn => h'.pending (h.record ▸ hr) (h.pending hr hn)
  owed := fun hr ho => h'.owed (h.record.trans hr) (h.owed hr ho)
  closeReason := h'.closeReason.trans h.closeReason
  closedIdentity := h'.closedIdentity.trans h.closedIdentity
  closedAt := h'.closedAt.trans h.closedAt

theorem inRange (h : r.Advances q) (hr : r.InRange) : q.InRange :=
  ⟨h.urgency.trans hr.urgency, h.escalations hr.escalations, (h.presses hr.presses).2, h.retry hr.retry, (h.pulses hr.pulses).2,
    h.repeats hr.repeats⟩

end Case.Advances

theorem Case.free_inRange : Case.free.InRange :=
  ⟨le_rfl, Nat.zero_le _, Nat.zero_le _, Nat.zero_le _, Nat.zero_le _, fun _ h => Option.noConfusion rfl (heq_of_eq h)⟩

/-- The record `q` of a case that `r` closes into: FREE, or CLOSING with its CLOSED notice owed (R76, R77). -/
def Case.Closes (r q : Case) : Prop :=
  q = .free ∨ ∃ reason tag identity now, q = { r.closed reason tag identity now with owed := true }

theorem Case.Closes.record {r q : Case} (h : r.Closes q) : q.record ≠ .opened := by
  rcases h with rfl | ⟨_, _, _, _, rfl⟩ <;> exact RecordState.noConfusion

/-! ### The case table -/

/-- The case records with the lamp and the serial counter. -/
structure Ledger where
  cases : Vector Case 16
  lamp : Bool
  serial : BitVec 16

def State.ledger (s : State) : Ledger := ⟨s.cases, s.lamp, s.serial⟩

namespace Ledger

def caseAt (a : Ledger) (c : CaseNo) : Case := a.cases[c.val]
def isOpen (a : Ledger) (c : CaseNo) : Bool := (a.caseAt c).record == .opened
def anyOpen (a : Ledger) : Bool := (List.finRange 16).any a.isOpen

/-- The ledger with record `c` in another state. -/
def set (a : Ledger) (c : CaseNo) (r : Case) : Ledger := { a with cases := a.cases.set c.val r }

theorem caseAt_set (a : Ledger) (c e : CaseNo) (r : Case) : (a.set c r).caseAt e = if c = e then r else a.caseAt e := by
  by_cases h : c = e
  · subst h; simp [set, caseAt]
  · simp [set, caseAt, h, Vector.getElem_set_ne, Fin.val_ne_of_ne h]

/-- Every record changes in place, and the lamp and the serial counter stand. -/
structure Advances (a b : Ledger) : Prop where
  lamp : b.lamp = a.lamp
  serial : b.serial = a.serial
  cases : ∀ c, (a.caseAt c).Advances (b.caseAt c)

namespace Advances

variable {a b d : Ledger}

theorem refl (a : Ledger) : a.Advances a := ⟨rfl, rfl, fun _ => .refl _⟩
theorem trans (h : a.Advances b) (h' : b.Advances d) : a.Advances d :=
  ⟨h'.lamp.trans h.lamp, h'.serial.trans h.serial, fun c => (h.cases c).trans (h'.cases c)⟩
theorem of_eq (h : b = a) : a.Advances b := h ▸ refl a

theorem isOpen (h : a.Advances b) (c : CaseNo) : b.isOpen c = a.isOpen c := by
  rw [Ledger.isOpen, (h.cases c).record, Ledger.isOpen]

theorem set {c : CaseNo} {r : Case} (h : (a.caseAt c).Advances r) : a.Advances (a.set c r) := by
  refine ⟨rfl, rfl, fun e => ?_⟩
  rw [caseAt_set]
  split
  · next he => exact he ▸ h
  · exact .refl _

end Advances

/-- What a handling can do to the case table, opening at most `n` cases: records change in place, a case opens with the serial
counter and the lamp, a case closes with the lamp judged by the others, a record that is not OPEN becomes FREE, every record becomes
FREE. -/
inductive Moves : Nat → Ledger → Ledger → Prop
  | advances {n : Nat} {a b : Ledger} (h : a.Advances b) : Moves n a b
  | opens {a : Ledger} (c : CaseNo) {r : Case} (hopen : r.record = .opened) (hrange : r.InRange) :
      Moves 1 a { a.set c r with lamp := true, serial := a.serial + 1 }
  | closes {a : Ledger} (c : CaseNo) {r : Case} (h : (a.caseAt c).Closes r) :
      Moves 0 a { a.set c r with lamp := (List.finRange 16).any fun e => e != c && a.isOpen e }
  | frees {a : Ledger} (c : CaseNo) (h : (a.caseAt c).record ≠ .opened) : Moves 0 a (a.set c .free)
  | clears {a b : Ledger} (hcases : ∀ c, b.caseAt c = .free) (hlamp : b.lamp = false) (hserial : b.serial = a.serial) : Moves 0 a b
  | trans {n m : Nat} {a b d : Ledger} (h : Moves n a b) (h' : Moves m b d) : Moves (n + m) a d

theorem anyOpen_set (a : Ledger) (c : CaseNo) {r : Case} (h : r.record ≠ .opened) :
    (a.set c r).anyOpen = (List.finRange 16).any fun e => e != c && a.isOpen e := by
  refine congrArg (List.any (List.finRange 16)) (funext fun e => ?_)
  rw [isOpen, caseAt_set]
  by_cases he : c = e
  · subst he; simp [h]
  · simp [he, Ne.symm he, isOpen]

namespace Moves

variable {n m : Nat} {a b d : Ledger}

theorem of_eq (h : b = a) : Moves n a b := .advances (.of_eq h)
theorem mono (h : Moves n a b) (hm : n ≤ m) : Moves m a b := by
  obtain ⟨k, rfl⟩ := Nat.exists_eq_add_of_le hm
  exact h.trans (.advances (.refl b))
theorem advance (h : Moves n a b) (h' : b.Advances d) : Moves n a d := h.trans (m := 0) (.advances h')
theorem after (h' : Moves n b d) (h : a.Advances b) : Moves n a d := (Moves.trans (n := 0) (.advances h) h').mono (Nat.zero_add n).le

/-! ### What every movement keeps -/

/-- A property of records that changes in place keep, and that opened, closed and FREE records have, every record keeps. -/
theorem keeps {P : Case → Prop} (h : Moves n a b) (hadvances : ∀ r q : Case, r.Advances q → P r → P q)
    (hopens : ∀ r : Case, r.record = .opened → r.InRange → P r) (hcloses : ∀ r q : Case, r.Closes q → P r → P q)
    (ha : ∀ c, P (a.caseAt c)) : ∀ c, P (b.caseAt c) := by
  have hfree : P .free := hcloses _ _ (.inl rfl) (ha 0)
  have hset : ∀ (a : Ledger) c r, (∀ e, P (a.caseAt e)) → P r → ∀ e, P ((a.set c r).caseAt e) := fun a c r ha hr e => by
    rw [caseAt_set]
    split
    · exact hr
    · exact ha e
  induction h with
  | advances h => exact fun c => hadvances _ _ (h.cases c) (ha c)
  | opens c hopen hrange => exact hset _ c _ ha (hopens _ hopen hrange)
  | closes c h => exact hset _ c _ ha (hcloses _ _ h (ha c))
  | frees c h => exact hset _ c _ ha hfree
  | clears hcases _ _ => exact fun c => hcases c ▸ hfree
  | trans _ _ ih ih' => exact ih' (ih ha)

/-- The lamp is lit exactly while a record is OPEN, after every movement (R83). -/
theorem lamp (h : Moves n a b) (ha : a.lamp = a.anyOpen) : b.lamp = b.anyOpen := by
  induction h with
  | advances h =>
    rw [h.lamp, ha]
    exact congrArg (List.any (List.finRange 16)) (funext fun c => (h.isOpen c).symm)
  | @opens a c r hopen _ =>
    have hopened : (a.set c r).isOpen c = true := by rw [isOpen, caseAt_set, if_pos rfl, hopen]; rfl
    exact (List.any_eq_true.mpr ⟨c, List.mem_finRange c, hopened⟩).symm
  | closes c h => exact (anyOpen_set _ c h.record).symm
  | @frees a c h =>
    have hothers : a.anyOpen = (List.finRange 16).any fun e => e != c && a.isOpen e := by
      refine congrArg (List.any (List.finRange 16)) (funext fun e => ?_)
      by_cases he : e = c
      · subst he; simpa [isOpen] using h
      · simp [he]
    exact ha.trans (hothers.trans (anyOpen_set a c (r := .free) RecordState.noConfusion).symm)
  | clears hcases hlamp _ =>
    rw [hlamp, eq_comm, anyOpen, List.any_eq_false]
    exact fun c _ => by rw [isOpen, hcases c]; exact Bool.false_ne_true
  | trans _ _ ih ih' => exact ih' (ih ha)

/-- The serial counter tells how many cases have opened; where none has, a record that is OPEN at the end has only changed in place. -/
theorem serial (h : Moves n a b) : ∃ m ≤ n, b.serial = a.serial + BitVec.ofNat 16 m ∧
    (m = 0 → ∀ c, b.isOpen c = true → (a.caseAt c).Advances (b.caseAt c)) := by
  have hset : ∀ (a : Ledger) (c : CaseNo) {r : Case}, r.record ≠ .opened → ∀ e, (a.set c r).isOpen e = true →
      (a.caseAt e).Advances ((a.set c r).caseAt e) := fun a c r hr e he => by
    rw [isOpen, caseAt_set] at he
    rw [caseAt_set]
    split
    · next hce => exact absurd (by simpa [hce] using he) hr
    · exact .refl _
  induction h with
  | @advances _ a b h => exact ⟨0, Nat.zero_le _, by rw [h.serial]; simp, fun _ c _ => h.cases c⟩
  | opens c _ _ => exact ⟨1, le_rfl, rfl, fun h => absurd h Nat.one_ne_zero⟩
  | closes c h => exact ⟨0, le_rfl, (BitVec.add_zero _).symm, fun _ => hset _ c h.record⟩
  | frees c h => exact ⟨0, le_rfl, (BitVec.add_zero _).symm, fun _ => hset _ c RecordState.noConfusion⟩
  | clears hcases _ hserial =>
    refine ⟨0, le_rfl, by rw [hserial]; simp, fun _ c hopen => ?_⟩
    rw [isOpen, hcases c] at hopen
    exact absurd hopen Bool.false_ne_true
  | trans _ _ ih ih' =>
    obtain ⟨m, hm, hserial, hadvances⟩ := ih
    obtain ⟨m', hm', hserial', hadvances'⟩ := ih'
    refine ⟨m + m', Nat.add_le_add hm hm', ?_, fun hzero c hopen => ?_⟩
    · rw [hserial', hserial, BitVec.add_assoc, ← BitVec.ofNat_add]
    · obtain ⟨hm0, hm0'⟩ := Nat.add_eq_zero_iff.mp hzero
      have hlast := hadvances' hm0' c hopen
      refine (hadvances hm0 c ?_).trans hlast
      rwa [isOpen, hlast.record] at hopen

end Moves

end Ledger

end Sys2Proof.Machine
end

section
/-! SUPPORT. The case table through the updates of one record, the offerings and the notices. -/

namespace Sys2Proof.Machine

variable (s : State)

/-! ### Updates and offerings that leave the case table alone -/

@[simp] theorem State.setCrewDyn_ledger (k : CrewNo) (d : CrewDynamic) : (s.setCrewDyn k d).ledger = s.ledger := rfl
@[simp] theorem State.addLatch_ledger (i : LiftIdx) (causes : CauseSet) : (s.addLatch i causes).ledger = s.ledger := rfl

@[simp] theorem State.offerAnswer_ledger (o : Origin) (b : OwnBody) : (s.offerAnswer o b).ledger = s.ledger := by
  obtain ⟨t, ht⟩ := s.offerAnswer_trunk o b
  rw [ht]; rfl

@[simp] theorem State.answer_ledger (o : Origin) (kind : Byte) (code : AnswerCode) (data : AnswerData) :
    (s.answer o kind code data).ledger = s.ledger := s.offerAnswer_ledger _ _

@[simp] theorem State.offerLoose_ledger (b : OwnBody) : (s.offerLoose b).ledger = s.ledger := by
  obtain ⟨t, ht⟩ := s.offerLoose_trunk b
  rw [ht]; rfl

@[simp] theorem State.offerSummary_ledger (m : Summary) : (s.offerSummary m).ledger = s.ledger := by
  obtain ⟨t, ht⟩ := s.offerSummary_trunk m
  rw [ht]; rfl

@[simp] theorem State.call_ledger (c : CaseNo) : (s.call c).ledger = s.ledger := s.offerLoose_ledger _

@[simp] theorem State.fullIf_ledger (before : Bool) (i : LiftIdx) : (s.fullIf before i).ledger = s.ledger := by
  unfold State.fullIf
  split
  · exact s.offerLoose_ledger _
  · rfl

@[simp] theorem State.respond_ledger (route : Route) (tag : Nat) (code : AnswerCode) (named : Option (BitVec 16))
    (info : Option OfferInfo) : (s.respond route tag code named info).ledger = s.ledger := by
  cases route with
  | trunk o => exact s.offerAnswer_ledger _ _
  | panel p => rfl

@[simp] theorem State.reply_ledger (k : CrewNo) (route : Route) (code : AnswerCode) (named : Option (BitVec 16))
    (info : Option OfferInfo) (tag : Nat) : (s.reply k route code named info tag).ledger = s.ledger := by
  simp [State.reply]

/-! ### Records that change in place -/

variable {s} {a : Ledger} {c : CaseNo}

/-- A record stored that is the one read after changes in place. -/
theorem Ledger.Advances.setCase {r : Case} (h : (s.caseAt c).Advances r) : s.ledger.Advances (s.setCase c r).ledger :=
  Ledger.Advances.set h

theorem Ledger.Advances.setProcedure {p : Procedure} (h : p.retry = (s.caseAt c).procedure.retry) :
    s.ledger.Advances (s.setProcedure c p).ledger :=
  .setCase { Case.Advances.refl (s.caseAt c) with retry := fun hr => h ▸ hr }

/-- A notice changes at most the owed flag of its record, which it sets (R153). -/
theorem State.notify_advances (s : State) (c : CaseNo) (kind : NoticeKind) (arg : NoticeArg) :
    s.ledger.Advances (s.notify c kind arg).ledger := by
  obtain ⟨t, ht | ht⟩ := s.notify_cases c kind arg
  · exact .of_eq (by rw [ht]; rfl)
  · rw [ht]
    exact .setCase (s := s) { Case.Advances.refl (s.caseAt c) with owed := fun _ _ => rfl }

theorem Ledger.Advances.setCase_notify {r : Case} (h : (s.caseAt c).Advances r) (kind : NoticeKind) (arg : NoticeArg) :
    s.ledger.Advances ((s.setCase c r).notify c kind arg).ledger := (setCase h).trans (State.notify_advances _ c kind arg)

theorem Ledger.Advances.notify (h : a.Advances s.ledger) (c : CaseNo) (kind : NoticeKind) (arg : NoticeArg) :
    a.Advances (s.notify c kind arg).ledger := h.trans (s.notify_advances c kind arg)

/-- A withdrawn command leaves the rest of its record alone. -/
theorem Case.withdraw_advances (r : Case) (owner : CommandOwner) : r.Advances (r.withdraw owner) := by
  unfold Case.withdraw
  split
  · split
    · exact { Case.Advances.refl r with pending := fun _ _ => rfl }
    · exact .refl r
  · exact .refl r

theorem Case.withdraw_release (r : Case) (owner : CommandOwner) : (r.withdraw owner).release = r.release := by
  unfold Case.withdraw
  split
  · split <;> rfl
  · rfl

/-- A record that is OPEN takes on a command and a release whose repeat count is in its range. -/
theorem Case.Advances.armed {r : Case} (hopen : r.record = .opened) (p : Option PendingCommand) {q : Option Release}
    (hrepeats : (∀ x, r.release = some x → x.repeats ≤ 255) → ∀ x, q = some x → x.repeats ≤ 255) :
    r.Advances { r with pending := p, release := q } :=
  { Case.Advances.refl r with
    repeats := hrepeats, release := fun h => absurd hopen h, pending := fun h => absurd hopen h }

/-- A release goes on with its repeat count in its range. -/
theorem Case.Advances.releasing {r : Case} {q p : Release} (hq : r.release = some q) (hp : q.repeats ≤ 255 → p.repeats ≤ 255) :
    r.Advances { r with release := some p } :=
  { Case.Advances.refl r with
    repeats := fun h _ hx => Option.some.inj hx ▸ hp (h q hq)
    release := fun _ hnone => absurd (hq.symm.trans hnone) (Option.some_ne_none q) }

/-- The same with the release's command withdrawn. -/
theorem Case.Advances.withdrawing {r : Case} {q p : Release} (hq : r.release = some q) (hp : q.repeats ≤ 255 → p.repeats ≤ 255) :
    r.Advances { r.withdraw .release with release := some p } :=
  (r.withdraw_advances .release).trans (.releasing ((r.withdraw_release _).trans hq) hp)

end Sys2Proof.Machine
end

section
/-! SUPPORT. The case table through the case manager, the procedure engine and the release controller (chapters 4, 6, 7). -/

namespace Sys2Proof.Machine

section

variable (s : State) (c : CaseNo)

/-! ### Openings (R62, R66) -/

theorem State.smallest_le (field : ClassEntry → Nat) (top : Nat) (set : CauseSet) : s.smallest field top set ≤ top := by
  have hfold : ∀ (xs : List Cause) (m : Nat), xs.foldl (fun m c => min m (field (s.classOf c))) m ≤ m := fun xs => by
    induction xs with
    | nil => exact fun m => le_rfl
    | cons x xs ih => exact fun m => (ih _).trans (Nat.min_le_left _ _)
  exact hfold _ _

theorem State.openingRecord_inRange (i : LiftIdx) (set : CauseSet) : (s.openingRecord i set).InRange := by
  have hurgency : s.openingUrgency i set ≤ 7 := by
    have hbase := s.smallest_le ClassEntry.base 7 set
    unfold State.openingUrgency improve
    dsimp only
    split <;> omega
  exact { Case.free_inRange with urgency := hurgency }

theorem openCase_moves (i : LiftIdx) (causes : CauseSet) : s.ledger.Moves 1 (openCase s c i causes).1.ledger := by
  have hseated : s.ledger.Moves 1 (s.seated c i causes).ledger := .opens c rfl (s.openingRecord_inRange i causes)
  exact hseated.advance (.trans (State.notify_advances _ c _ _) (.of_eq (State.call_ledger _ c)))

theorem State.joined_advances (r : Case) (new : CauseSet) : r.Advances (s.joined r new) :=
  { Case.Advances.refl r with
    urgency := Nat.min_le_left _ _
    causes := fun x hx => (CauseSet.union_has _ _ x).trans (by rw [hx]; rfl) }

theorem joinCauses_advances (causes : CauseSet) : s.ledger.Advances (joinCauses s c causes).1.ledger := by
  unfold joinCauses
  dsimp only
  split
  · exact .refl _
  · exact (Ledger.Advances.setCase (s.joined_advances _ _)).notify c _ _

theorem raise_moves (i : LiftIdx) (causes : CauseSet) : s.ledger.Moves 1 (raise s i causes).1.ledger := by
  unfold raise
  split
  · exact .advances (joinCauses_advances s _ _)
  · split
    · exact openCase_moves s _ _ _
    · exact .of_eq (by simp)

theorem arbitrate_moves : s.ledger.Moves 1 (arbitrate s).1.ledger := by
  unfold arbitrate
  split
  · exact .of_eq rfl
  · dsimp only
    split
    · exact openCase_moves { s with lifts := s.lifts.map Lift.prunedLatch } _ _ _
    · exact .of_eq rfl

theorem truthTold_ledger (i : LiftIdx) : (truthTold s i).1.ledger = s.ledger := by
  rcases (truthTold_cases s i).1 with h | h <;> rw [h]
  rfl

/-! ### Urgency, escalation and clearing (R68 to R71, R75) -/

theorem occupancyChange_advances : s.ledger.Advances (occupancyChange s c).ledger := by
  unfold occupancyChange
  dsimp only
  split
  · exact .refl _
  · exact .setCase { Case.Advances.refl (s.caseAt c) with urgency := Nat.sub_le _ _ }

theorem addPresses_advances (n : Nat) : s.ledger.Advances (addPresses s c n).ledger :=
  .setCase { Case.Advances.refl (s.caseAt c) with
    urgency := Nat.sub_le _ _
    presses := fun h => ⟨Nat.le_min.mpr ⟨h, Nat.le_add_right _ _⟩, Nat.min_le_left _ _⟩ }

theorem escalate_advances : s.ledger.Advances (escalate s c).1.ledger := by
  let counted : Case := { s.caseAt c with
    urgency := improve (s.caseAt c).urgency, escalations := satInc 15 (s.caseAt c).escalations, declined := [] }
  have hcounted : s.ledger.Advances (s.setCase c counted).ledger := .setCase
    { Case.Advances.refl (s.caseAt c) with urgency := Nat.sub_le _ _, escalations := fun _ => satInc_le _ _ }
  exact (hcounted.notify c .escalated (.count counted.escalations)).trans (.setCase { Case.Advances.refl _ with record := rfl })

theorem clearCase_advances (source : ClearedSource) : s.ledger.Advances (clearCase s c source).1.ledger := by
  have hrecord : (s.caseAt c).Advances { s.caseAt c with
      dispatch := .cleared, escalation := .stopped, window := (s.caseAt c).window.halted } :=
    { Case.Advances.refl (s.caseAt c) with record := rfl }
  have hcleared := Ledger.Advances.setCase_notify hrecord .cleared (.source source)
  unfold clearCase
  dsimp only
  split
  · exact .refl _
  · exact .refl _
  · exact hcleared
  · exact hcleared
  · exact .refl _

/-! ### Closes (R76 to R78) -/

/-- The notice of a record closed is sent and the record FREE, or it is owed (R76, R77). -/
theorem State.offerCase_settles (n : Notice) :
    let offered := s.offerCase c n
    let after := match offered.2 with
      | .entered => offered.1.setCase c .free
      | .kept => offered.1
    after.ledger = s.ledger.set c .free ∨ after.ledger = s.ledger.set c { s.caseAt c with owed := true } := by
  unfold State.offerCase
  split
  · next howed => exact .inr (congrArg State.ledger (State.setCase_eq_self (s := s) (by rw [← howed]))).symm
  · split
    · exact .inl rfl
    · exact .inr rfl

/-- The tables of a case that is shut (R76, R83). -/
theorem State.shut_ledger (reason : CloseReason) : ∃ r, (∃ tag identity now, r = (s.caseAt c).closed reason tag identity now) ∧
    (s.shut c reason).caseAt c = r ∧ (s.shut c reason).ledger =
      { s.ledger.set c r with lamp := (List.finRange 16).any fun e => e != c && s.ledger.isOpen e } := by
  let r := (s.caseAt c).closed reason (s.tagOf (s.caseAt c).crew) (s.identityOf (s.caseAt c).lift) s.stamp
  have hlamp := State.anyOpen_closed (s := s) (c := c) (r := r) rfl
  exact ⟨r, ⟨_, _, _, rfl⟩, State.caseAt_setCase s c r, congrArg (Ledger.mk (s.cases.set c.val r) · s.serial) hlamp⟩

theorem closeCase_moves (reason : CloseReason) : s.ledger.Moves 1 (closeCase s c reason).1.ledger := by
  obtain ⟨r, ⟨tag, identity, now, hr⟩, hcase, hshut⟩ := s.shut_ledger c reason
  let u := s.shut c reason
  have hset : ∀ q, (s.caseAt c).Closes q → s.ledger.Moves 0 (u.ledger.set c q) := fun q hq => by
    have hcases : (s.cases.set c.val r).set c.val q = s.cases.set c.val q := Vector.set_set ..
    have hledger : u.ledger.set c q =
        { s.ledger.set c q with lamp := (List.finRange 16).any fun e => e != c && s.ledger.isOpen e } := by
      rw [show u.ledger = _ from hshut]
      exact congrArg (Ledger.mk · _ s.serial) hcases
    exact hledger ▸ .closes c hq
  unfold closeCase
  dsimp only
  split
  · rw [State.fullIf_ledger]
    refine (Ledger.Moves.trans (n := 0) (m := 1) ?_ (arbitrate_moves _)).mono le_rfl
    rcases State.offerCase_settles u c (u.closedNotice c) with h | h
    · exact h ▸ hset _ (.inl rfl)
    · exact h ▸ hset _ (.inr ⟨reason, tag, identity, now, by rw [hcase, hr]⟩)
  · exact .of_eq rfl

/-! ### Procedures (chapter 6) -/

theorem completeWait_advances : s.ledger.Advances (completeWait s c).1.ledger := .setProcedure rfl
theorem failWait_advances : s.ledger.Advances (failWait s c).1.ledger := .setProcedure rfl

theorem handover_advances (reason : HandoverReason) : s.ledger.Advances (handover s c reason).ledger := by
  unfold handover
  dsimp only
  split
  · refine (Ledger.Advances.setCase ?_).notify c _ _
    split
    · exact ((s.caseAt c).withdraw_advances .procedure).trans { Case.Advances.refl _ with
        retry := (congrArg Procedure.retry (Case.withdraw_procedure _ _)).symm.trans_le }
    · exact { Case.Advances.refl (s.caseAt c) with record := rfl }
  · exact .refl _

theorem handoverTest_advances : s.ledger.Advances (handoverTest s c).ledger := by
  unfold handoverTest
  dsimp only
  split
  · exact handover_advances s c _
  · exact .refl _

theorem procedureEvent_advances (e : NamedEvent) : s.ledger.Advances (procedureEvent s c e).1.ledger := by
  unfold procedureEvent
  split
  · exact completeWait_advances s c
  · exact .refl _

theorem EventSet.insert_has (a : EventSet) (e x : NamedEvent) : (a.insert e).has x = (decide (x = e) || a.has x) := by
  cases e <;> cases x <;> rfl

theorem caseEvent_advances (e : NamedEvent) : s.ledger.Advances (caseEvent s c e).1.ledger := by
  let met : Case := { s.caseAt c with seen := (s.caseAt c).seen.insert e, escalation := eventTimer (s.caseAt c) e }
  have hmet : s.ledger.Advances (s.setCase c met).ledger := .setCase { Case.Advances.refl (s.caseAt c) with
    seen := fun x hx => by rw [EventSet.insert_has, hx, Bool.or_true] }
  unfold caseEvent
  dsimp only
  split
  · split
    · exact hmet.trans (clearCase_advances _ c _)
    · exact (hmet.trans (clearCase_advances _ c _)).trans (procedureEvent_advances _ c e)
  · exact hmet.trans (procedureEvent_advances _ c e)

/-! ### Releases (chapter 7) -/

theorem endNotice_advances (e : ReleaseEnd) : s.ledger.Advances (endNotice s c e).ledger := by
  cases e <;> exact State.notify_advances s c _ _

theorem dropRelease_advances (e : ReleaseEnd) : s.ledger.Advances (dropRelease s c e).ledger := by
  have hdropped (r : Case) : r.Advances { r with release := none } :=
    { Case.Advances.refl r with repeats := fun _ x h => Option.noConfusion rfl (heq_of_eq h), release := fun _ _ => rfl }
  unfold dropRelease
  dsimp only
  refine .trans (.setCase ?_) (endNotice_advances _ c e)
  split
  · exact ((s.caseAt c).withdraw_advances .release).trans (hdropped _)
  · exact hdropped _

theorem endRelease_advances (e : ReleaseEnd) : s.ledger.Advances (endRelease s c e).1.ledger := by
  have hdropped := dropRelease_advances s c e
  unfold endRelease
  dsimp only
  split
  · cases e with
    | done p => exact hdropped.trans (completeWait_advances _ c)
    | aborted reason => exact hdropped.trans (failWait_advances _ c)
  · exact hdropped

end

section

variable {s : State} {c : CaseNo}

theorem holdAt_advances {q : Release} (hq : (s.caseAt c).release = some q) (wasActive hold : Bool) (press : Nat) :
    s.ledger.Advances (holdAt s c q wasActive hold press).ledger := by
  have hsame (p : Release) (hp : p.repeats = q.repeats) : s.ledger.Advances (s.setRelease c p).ledger :=
    .setCase (.releasing hq fun h => hp ▸ h)
  have hrepeat : s.ledger.Advances (s.setRelease c { q with repeats := satInc 255 q.repeats }).ledger :=
    .setCase (.releasing hq fun _ => satInc_le _ _)
  unfold holdAt
  dsimp only
  split
  · split
    · exact hsame _ rfl
    · exact .refl _
  · split
    · exact hrepeat
    · split
      · exact hsame _ rfl
      · exact .refl _
  · split
    · exact hrepeat
    · split
      · exact .setCase (.withdrawing hq id)
      · exact .refl _
  · split
    · exact hrepeat
    · exact .refl _

theorem holdChange_advances (p : PanelIdx) (wasActive hold : Bool) (press : Nat) :
    s.ledger.Advances (holdChange s c p wasActive hold press).ledger := by
  unfold holdChange
  split
  · next q hq =>
    split
    · exact holdAt_advances hq _ _ _
    · exact .refl _
  · exact .refl _

theorem settle_advances {q : Release} (hq : (s.caseAt c).release = some q) (n : CarRecord) :
    s.ledger.Advances (settle s c q n).1.ledger := by
  unfold settle
  dsimp only
  split
  · exact endRelease_advances s c _
  · exact .setCase (.releasing hq id)

theorem reportBySub_advances {q : Release} (hopen : s.isOpen c = true) (hq : (s.caseAt c).release = some q) (n : CarRecord)
    (moves : Bool) : s.ledger.Advances (reportBySub s c q n moves).1.ledger := by
  unfold reportBySub
  dsimp only
  split
  · exact .refl _
  · split
    · exact .setCase (.armed (beq_iff_eq.mp hopen) _ fun h x hx => Option.some.inj hx ▸ h q hq)
    · exact .refl _
  · split
    · exact .refl _
    · exact .setCase (.withdrawing hq id)
  · split
    · exact settle_advances hq n
    · exact .refl _

theorem releaseReport_advances (hopen : s.isOpen c = true) (moves : Bool) :
    s.ledger.Advances (releaseReport s c moves).1.ledger := by
  unfold releaseReport
  split
  · next q n hq _ =>
    split
    · exact endRelease_advances s c _
    · split
      · exact endRelease_advances s c _
      · exact reportBySub_advances hopen hq _ _
  · exact .refl _
  · exact .refl _

theorem le_satInc {top n : Nat} (h : n ≤ top) : n ≤ satInc top n := by
  rw [satInc_eq_min]
  exact Nat.le_min.mpr ⟨h, Nat.le_succ n⟩

theorem pulseDelivered_advances (sequence : Nat) : s.ledger.Advances (pulseDelivered s c sequence).ledger := by
  unfold pulseDelivered
  dsimp only
  split
  · next q hq =>
    split
    · refine .setCase_notify ?_ _ _
      exact { Case.Advances.releasing hq (p := { q with
          sequence := sequence, settle := .running s.settings.settleLimit, sub := .settling }) id with
        pulses := fun h => ⟨le_satInc h, satInc_le _ _⟩ }
    · exact .refl _
  · exact .refl _

theorem releaseCrewLeft_advances (p : PanelIdx) (k : CrewNo) : s.ledger.Advances (releaseCrewLeft s c p k).1.ledger := by
  unfold releaseCrewLeft
  split
  · split
    · exact endRelease_advances s c _
    · exact .refl _
  · exact .refl _

theorem releaseReset_advances (l : LineId) : s.ledger.Advances (releaseReset s c l).1.ledger := by
  unfold releaseReset
  split
  · exact endRelease_advances s c _
  · exact .refl _

/-! ### The procedure engine (chapter 6) -/

theorem commandStep_advances (hopen : s.isOpen c = true) (limit : Nat) (cmd : CarCommand) :
    s.ledger.Advances (commandStep s c limit cmd).1.ledger :=
  .setCase { Case.Advances.refl (s.caseAt c) with pending := fun h => absurd (beq_iff_eq.mp hopen) h }

/-- A release starts with no repeat counted (R131). -/
theorem State.releaseStart_repeats {q : Release} (h : s.releaseStart c = .ok q) : q.repeats = 0 := by
  unfold State.releaseStart at h
  dsimp only at h
  split at h
  · cases h
  · split at h
    · cases h
    · split at h
      · cases h
      · split at h
        · cases h
        · split at h <;> cases h
          rfl

theorem releaseStep_advances (hopen : s.isOpen c = true) (begun : Nat) (sr : StepRecord) :
    s.ledger.Advances (releaseStep s c begun sr).1.ledger := by
  unfold releaseStep
  split
  · next q hq =>
    exact .setCase { Case.Advances.refl (s.caseAt c) with
      repeats := fun _ x hx => Option.some.inj hx ▸ (State.releaseStart_repeats hq).trans_le (Nat.zero_le _)
      release := fun h => absurd (beq_iff_eq.mp hopen) h }
  · exact endNotice_advances s c _

/-- A decoded SET_COUNT keeps the retry counter's range (R123). -/
theorem StepRecord.decoded_setCount {sr : StepRecord} {n : Nat} (h : sr.decoded = some (.setCount n)) : n ≤ 15 := by
  have htest (a : Nat) : decodeTest a ≠ some (.setCount n) := by
    unfold decodeTest
    split
    · split <;> exact nofun
    · exact nofun
  have hend (a : Nat) : decodeEnd a ≠ some (.setCount n) := by
    unfold decodeEnd
    split <;> exact nofun
  unfold StepRecord.decoded at h
  split at h
  case h_7 => exact absurd h (htest _)
  case h_8 =>
    obtain rfl : clampTo 1 15 sr.argument = n := by simpa using h
    exact Nat.max_le.mpr ⟨by decide, Nat.min_le_left _ _⟩
  case h_12 => exact absurd h (hend _)
  all_goals simp at h

theorem act_advances (hopen : s.isOpen c = true) (begun : Nat) (sr : StepRecord) {a : Action} (ha : sr.decoded = some a) :
    s.ledger.Advances (act s c begun sr a).1.ledger := by
  cases a with
  | command cmd => exact commandStep_advances hopen _ _
  | restore =>
    unfold act
    dsimp only
    split
    · exact commandStep_advances hopen _ _
    · exact .refl _
  | note code => exact s.notify_advances c _ _
  | bump => exact .setCase { Case.Advances.refl (s.caseAt c) with urgency := Nat.sub_le _ _ }
  | wait e =>
    unfold act
    dsimp only
    split
    · exact .refl _
    · exact .setProcedure rfl
  | test cond sense =>
    unfold act
    dsimp only
    split <;> exact .refl _
  | setCount n => exact .setCase { Case.Advances.refl (s.caseAt c) with retry := fun _ => StepRecord.decoded_setCount ha }
  | count => exact .setCase { Case.Advances.refl (s.caseAt c) with retry := fun h => (Nat.sub_le _ _).trans h }
  | goto => exact .refl _
  | release => exact releaseStep_advances hopen _ _
  | ending cleared =>
    cases cleared
    · exact handover_advances s c _
    · exact .setProcedure rfl

theorem goTo_advances (begun target : Nat) (common : Bool) : s.ledger.Advances (goTo s c begun target common).1.ledger := by
  unfold goTo
  dsimp only
  split
  · next hopen =>
    split
    · exact handover_advances s c _
    · next step _ =>
      have hmoved : s.ledger.Advances (s.setProcedure c { (s.caseAt c).procedure with step := step, onCommon := common }).ledger :=
        .setProcedure rfl
      split
      · exact hmoved.trans (handover_advances _ c _)
      · split
        · exact hmoved.trans (handover_advances _ c _)
        · next a ha =>
          refine hmoved.trans (act_advances ?_ _ _ ha)
          exact (hmoved.isOpen c).trans (Bool.and_eq_true_iff.mp hopen).1
  · exact .refl _

theorem commandDelivered_advances (p : PendingCommand) : s.ledger.Advances (commandDelivered s c p).1.ledger := by
  unfold commandDelivered
  split
  · split
    · exact completeWait_advances s c
    · exact .refl _
  · split
    · exact pulseDelivered_advances _
    all_goals exact .refl _

theorem commandLost_advances (owner : CommandOwner) : s.ledger.Advances (commandLost s c owner).1.ledger := by
  unfold commandLost
  split
  · split
    · exact failWait_advances s c
    · exact .refl _
  · exact .refl _

theorem stepExpired_advances : s.ledger.Advances (stepExpired s c).1.ledger := by
  unfold stepExpired
  dsimp only
  split
  · exact .refl _
  · exact failWait_advances s c
  · exact .trans (.setCase ((s.caseAt c).withdraw_advances .procedure)) (failWait_advances _ c)
  · split
    · exact (dropRelease_advances s c _).trans (failWait_advances _ c)
    · exact failWait_advances s c

end

end Sys2Proof.Machine
end

section
/-! SUPPORT. The case table through the arbiter, the panels, the lines and the trunk port (chapters 1, 3, 5, 9). -/

namespace Sys2Proof.Machine

variable (s : State)

/-! ### What an offer does to its case (R95 to R98, R104) -/

section

variable (k : CrewNo) (c : CaseNo)

theorem becomeLate_advances : s.ledger.Advances (becomeLate s c).ledger := by
  have hrecord : (s.caseAt c).Advances { s.caseAt c with urgency := improve (s.caseAt c).urgency, late := true } :=
    { Case.Advances.refl (s.caseAt c) with urgency := Nat.sub_le _ _ }
  exact .setCase_notify hrecord _ _

theorem State.assign_advances : s.ledger.Advances (s.assign k c).ledger :=
  .setCase { Case.Advances.refl (s.caseAt c) with record := rfl }

theorem State.declineOffer_advances : s.ledger.Advances (s.declineOffer k c).ledger :=
  .setCase (s := s.clearOffer k) { Case.Advances.refl ((s.clearOffer k).caseAt c) with record := rfl }

theorem givenUp_advances (kind : NoticeKind) : s.ledger.Advances (givenUp s k c kind).ledger :=
  (s.notify_advances c _ _).trans (.of_eq (State.call_ledger _ c))

theorem offerExpired_advances : s.ledger.Advances (offerExpired s k c).ledger :=
  (s.declineOffer_advances k c).trans (givenUp_advances _ k c _)

end

/-! ### Crew requests (R89 to R101) -/

section

variable {reply : Reply} (hreply : ∀ t code named info, (reply t code named info).ledger = t.ledger) (k : CrewNo)
include hreply

theorem dutyOffRequest_ledger : (dutyOffRequest s k reply).1.ledger = s.ledger := by
  unfold dutyOffRequest
  dsimp only
  split <;> exact hreply _ _ _ _

theorem noOfferReply_ledger : (noOfferReply s k reply).1.ledger = s.ledger := by
  unfold noOfferReply
  split <;> exact hreply _ _ _ _

theorem jobRequest_advances : s.ledger.Advances (jobRequest s k reply).1.ledger := by
  unfold jobRequest
  split
  · exact .of_eq (hreply _ _ _ _)
  · split
    · next c _ =>
      have hrecord : (s.caseAt c).Advances { s.caseAt c with dispatch := .offered, crew := some k } :=
        { Case.Advances.refl (s.caseAt c) with record := rfl }
      have hoffered : s.ledger.Advances (s.makeOffer k c).ledger := .setCase hrecord
      exact (hoffered.trans (.of_eq (hreply _ _ _ _))).notify c _ _
    · exact .of_eq (hreply _ _ _ _)

theorem acceptOffer_moves (c : CaseNo) : s.ledger.Moves 1 (acceptOffer s k c reply).1.ledger := by
  unfold acceptOffer
  dsimp only
  generalize hcleared : (if (s.clearOffer k).settings.tieMode = .rotate then
    (s.clearOffer k).toBottom ((s.clearOffer k).caseAt c).lift else s.clearOffer k) = t
  have ht : t.ledger = s.ledger := by
    rw [← hcleared]
    split <;> rfl
  split
  · exact (closeCase_moves _ c _).after (.of_eq ((hreply _ _ _ _).trans ht))
  · have haccepted := (Ledger.Advances.trans (.of_eq ht) (t.assign_advances k c)).trans (.of_eq (hreply (t.assign k c) .ok
      (some ((t.assign k c).serialOf c)) none))
    refine .advances ?_
    split
    · exact (haccepted.notify c _ _).trans (becomeLate_advances _ c)
    · exact haccepted.notify c _ _

theorem acceptRequest_moves (serial : Option (BitVec 16)) : s.ledger.Moves 1 (acceptRequest s k serial reply).1.ledger := by
  unfold acceptRequest
  split
  · split
    · exact acceptOffer_moves s hreply k _
    · exact .of_eq (hreply _ _ _ _)
  · exact .of_eq (noOfferReply_ledger s hreply k)

theorem declineRequest_advances (serial : Option (BitVec 16)) : s.ledger.Advances (declineRequest s k serial reply).1.ledger := by
  unfold declineRequest
  split
  · split
    · exact ((s.declineOffer_advances k _).trans (.of_eq (hreply _ _ _ _))).trans (givenUp_advances _ k _ _)
    · exact .of_eq (hreply _ _ _ _)
  · exact .of_eq (noOfferReply_ledger s hreply k)

/-! ### Arrival, voice and standing down (R103 to R106) -/

theorem judgeArrival_advances (c : CaseNo) : s.ledger.Advances (judgeArrival s k c reply).1.ledger := by
  unfold judgeArrival
  dsimp only
  split
  · have hrecord : (s.caseAt c).Advances { s.caseAt c with dispatch := .onSite, window := (s.caseAt c).window.halted } :=
      { Case.Advances.refl (s.caseAt c) with record := rfl }
    exact ((Ledger.Advances.setCase hrecord).trans (.of_eq (hreply _ _ _ _))).notify c _ _
  · exact (Ledger.Advances.of_eq ((hreply _ _ _ _).trans (s.setCrewDyn_ledger k _))).notify c _ _

theorem arrivedRequest_advances (serial : Option (BitVec 16)) : s.ledger.Advances (arrivedRequest s k serial reply).1.ledger := by
  unfold arrivedRequest
  dsimp only
  split
  · split
    · split
      · exact judgeArrival_advances s hreply k _
      · exact .of_eq (hreply _ _ _ _)
    · exact .of_eq (hreply _ _ _ _)
  · split
    · exact .of_eq (hreply _ _ _ _)
    · split
      · exact judgeArrival_advances s hreply k _
      · exact .of_eq (hreply _ _ _ _)

theorem voiceRequest_ledger (serial : Option (BitVec 16)) : (voiceRequest s k serial reply).1.ledger = s.ledger := by
  unfold voiceRequest
  split <;> exact hreply _ _ _ _

theorem standDownRequest_ledger (serial : Option (BitVec 16)) : (standDownRequest s k serial reply).1.ledger = s.ledger := by
  unfold standDownRequest
  split <;> exact hreply _ _ _ _

theorem requestKind_moves (request : CrewRequest) (serial : Option (BitVec 16)) :
    s.ledger.Moves 1 (requestKind s k request serial reply).1.ledger := by
  cases request with
  | dutyOn => exact .of_eq (hreply _ _ _ _)
  | dutyOff => exact .of_eq (dutyOffRequest_ledger s hreply k)
  | sweepOn => exact .of_eq (hreply _ _ _ _)
  | sweepOff => exact .of_eq (hreply _ _ _ _)
  | job => exact .advances (jobRequest_advances s hreply k)
  | accept => exact acceptRequest_moves s hreply k serial
  | decline => exact .advances (declineRequest_advances s hreply k serial)
  | arrived => exact .advances (arrivedRequest_advances s hreply k serial)
  | voice => exact .of_eq (voiceRequest_ledger s hreply k serial)
  | standDown => exact .of_eq (standDownRequest_ledger s hreply k serial)

end

theorem crewRequest_moves (route : Route) (tag : Nat) (request : Option CrewRequest) (serial : Option (BitVec 16)) :
    s.ledger.Moves 1 (crewRequest s route tag request serial).1.ledger := by
  unfold crewRequest
  split
  · exact .of_eq (s.respond_ledger _ _ _ _ _)
  · next k _ =>
    dsimp only
    split
    · exact .of_eq (s.reply_ledger _ _ _ _ _ _)
    · split
      · exact .of_eq (s.reply_ledger _ _ _ _ _ _)
      · exact requestKind_moves s (fun t code named info => t.reply_ledger k route code named info tag) k _ serial

/-! ### Panels (R9, R10, R88) -/

theorem loginArrival_advances (p : PanelIdx) (k : CrewNo) : s.ledger.Advances (loginArrival s p k).1.ledger := by
  unfold loginArrival
  dsimp only
  split
  · exact judgeArrival_advances s (fun _ _ _ _ => rfl) k _
  · exact .refl _

theorem crewLogin_ledger (p : PanelIdx) (tag : Nat) : (crewLogin s p tag).1.ledger = s.ledger := by
  unfold crewLogin
  split <;> rfl

theorem crewLeft_ledger (p : PanelIdx) (tag : Nat) : (crewLeft s p tag).1.ledger = s.ledger := by
  unfold crewLeft
  split
  · dsimp only
    split <;> rfl
  · rfl

theorem panelLogged_ledger (p : PanelIdx) (logged : Option Nat) : (panelLogged s p logged).1.ledger = s.ledger := by
  unfold panelLogged
  dsimp only
  split <;> rfl

theorem panelRequest_moves (p : PanelIdx) (toggle : Bool) (request : Option CrewRequest) (serial : Option (BitVec 16)) :
    s.ledger.Moves 1 (panelRequest s p toggle request serial).1.ledger := by
  unfold panelRequest
  dsimp only
  split
  · split
    · exact .of_eq rfl
    · exact crewRequest_moves (s.setPanelDyn p _) _ _ _ _
  · exact .of_eq rfl

/-! ### Slot outcomes (R48, R52, R54) -/

theorem sharedEval_ledger (i : LiftIdx) : (sharedEval s i).1.ledger = s.ledger := by
  unfold sharedEval
  dsimp only
  split <;> rfl

theorem enterLift_ledger (i : LiftIdx) (st : LiftState) : (enterLift s i st).1.ledger = s.ledger := by
  unfold enterLift
  split <;> rfl

theorem resetLift_ledger (i : LiftIdx) : (resetLift s i).1.ledger = s.ledger := by
  unfold resetLift
  dsimp only
  split <;> rfl

theorem summaryAfterReport_ledger (i : LiftIdx) (before : LiftState) (previous : Option CarRecord) :
    (summaryAfterReport s i before previous).ledger = s.ledger := by
  unfold summaryAfterReport
  dsimp only
  split
  · exact s.offerSummary_ledger _
  · split
    · exact s.offerSummary_ledger _
    · rfl
  · rfl

theorem summaryAfterChange_ledger (i : LiftIdx) : (summaryAfterChange s i).ledger = s.ledger := by
  rw [(summaryAfterChange_rest s i).1]; rfl

/-! ### START, STOP and polling (R6, R11, R13) -/

theorem startLine_advances (l : LineId) (wake : Option WakeSource) : s.ledger.Advances (startLine s l wake).1.ledger := by
  unfold startLine
  dsimp only
  split
  · next c _ _ =>
    exact .setCase (s := s.setLine l (s.startedLine l wake)) { Case.Advances.refl (s.caseAt c) with pending := fun _ _ => rfl }
  · exact .refl _

theorem stopLine_ledger (l : LineId) : (stopLine s l).1.ledger = s.ledger := by
  unfold stopLine
  dsimp only
  split <;> rfl

theorem lineWork_ledger (l : LineId) : (lineWork s l).1.ledger = s.ledger := by
  rcases lineWork_cases s l with ⟨_, h⟩ | ⟨_, h⟩ <;> rw [h]

theorem advance_ledger (l : LineId) (slot : Slot) : (advance s l slot).1.ledger = s.ledger := by
  unfold advance
  dsimp only
  split
  · split <;> rfl
  · rfl

/-! ### Transmitters and owed notices (R149, R154, R155) -/

theorem serveOwed_moves : s.ledger.Moves 0 (serveOwed s).1.ledger := by
  unfold serveOwed
  split
  · exact .of_eq rfl
  · next c _ =>
    split
    · next hopen =>
      exact .advances (.set (a := s.ledger) { Case.Advances.refl (s.caseAt c) with
        owed := fun hclosing => RecordState.noConfusion (hopen.symm.trans hclosing) })
    · next hclosing => exact .frees (a := s.ledger) c (hclosing.trans_ne RecordState.noConfusion)
    · exact .of_eq rfl

theorem kickNear_moves : s.ledger.Moves 0 (kickNear s).1.ledger := by
  have hsend : ∀ f rest turn, s.ledger.Moves 0 (sendOwn s f rest turn).1.ledger := fun f rest turn =>
    serveOwed_moves { s with trunk := { s.trunk with own := rest, nearTx := some (.own f), turn := turn } }
  unfold kickNear
  dsimp only
  split
  · split
    · exact .of_eq rfl
    · exact .of_eq rfl
    · exact hsend _ _ _
    · split
      · exact hsend _ _ _
      · split
        · exact .of_eq rfl
        · exact hsend _ _ _
  · exact .of_eq rfl

theorem kickFar_ledger : (kickFar s).ledger = s.ledger := by
  unfold kickFar
  dsimp only
  split
  · split <;> rfl
  · rfl

theorem kick_moves : s.ledger.Moves 0 (kick s).1.ledger := (kickNear_moves _).after (.of_eq (kickFar_ledger s))

/-! ### Every job, and a handling as a whole -/

/-- A job for a case that has closed meanwhile does nothing (log 17). -/
theorem State.isOpen_of_holds {c : CaseNo} {serial : BitVec 16} (h : s.holds c serial = true) : s.isOpen c = true :=
  (Bool.and_eq_true_iff.mp h).1

theorem Ledger.Advances.ite {b : Prop} [Decidable b] {w : Work} (h : b → s.ledger.Advances w.1.ledger) :
    s.ledger.Advances (if b then w else (s, [])).1.ledger := by
  split
  · next hb => exact h hb
  · exact .refl _

/-- A job opens at most one case. -/
theorem perform_moves (j : Job) : s.ledger.Moves 1 (perform s j).1.ledger := by
  cases j with
  | start l wake => exact .advances (startLine_advances s l wake)
  | stop l => exact .of_eq (stopLine_ledger s l)
  | lineWork l => exact .of_eq (lineWork_ledger s l)
  | advance l slot => exact .of_eq (advance_ledger s l slot)
  | delivered c serial p => exact .advances (.ite s fun _ => commandDelivered_advances p)
  | lost c serial owner => exact .advances (.ite s fun _ => commandLost_advances owner)
  | takenReport i r => exact .of_eq rfl
  | silentSlot i => exact .of_eq rfl
  | truthTold i => exact .of_eq (truthTold_ledger s i)
  | raise i causes => exact raise_moves s i causes
  | releaseReport c serial moves =>
    exact .advances (.ite s fun h => releaseReport_advances (s.isOpen_of_holds h) moves)
  | event c serial e => exact .advances (.ite s fun _ => caseEvent_advances s c e)
  | occupancy c serial => exact .advances (.ite s fun _ => occupancyChange_advances s c)
  | presses c serial n => exact .advances (.ite s fun _ => addPresses_advances s c n)
  | summaryReport i before previous => exact .of_eq (summaryAfterReport_ledger s i before previous)
  | summaryChange i => exact .of_eq (summaryAfterChange_ledger s i)
  | go c begun target common => exact .advances (goTo_advances begun target common)
  | handoverTest c => exact .advances (handoverTest_advances s c)
  | clearing c => exact .advances (.ite s fun _ => clearCase_advances s c .procedure)
  | close c reason => exact closeCase_moves s c reason
  | arbitrate => exact arbitrate_moves s
  | panelLogged p logged => exact .of_eq (panelLogged_ledger s p logged)
  | panelRequest p toggle request serial => exact panelRequest_moves s p toggle request serial
  | panelHold p hold press => exact .of_eq rfl
  | panelInputs p inputs => exact .of_eq rfl
  | panelSilent p => exact .of_eq rfl
  | clearPanel p => exact .of_eq rfl
  | crewLeft p tag => exact .of_eq (crewLeft_ledger s p tag)
  | crewLogin p tag => exact .of_eq (crewLogin_ledger s p tag)
  | loginArrival p k => exact .advances (loginArrival_advances s p k)
  | releaseCrewLeft c p k => exact .advances (releaseCrewLeft_advances p k)
  | holdChange c p was hold press => exact .advances (holdChange_advances p was hold press)
  | sharedEval i => exact .of_eq (sharedEval_ledger s i)
  | releaseReset c l => exact .advances (releaseReset_advances l)
  | resetLift i => exact .of_eq (resetLift_ledger s i)
  | enterLift i st => exact .of_eq (enterLift_ledger s i st)
  | restartLine l => exact .of_eq rfl

/-- A list of jobs opens at most one case for each unit of fuel. -/
theorem runJobs_moves (fuel : Nat) : ∀ (jobs : List Job) (s t : State), runJobs fuel jobs s = .next t →
    s.ledger.Moves fuel t.ledger := by
  induction fuel with
  | zero => exact fun _ _ _ h => nomatch h
  | succ fuel ih =>
    intro jobs s t h
    unfold runJobs at h
    dsimp only at h
    split at h
    · obtain rfl := Host.Outcome.next.inj h
      exact (kick_moves s).mono (Nat.zero_le _)
    · exact ((kick_moves s).trans ((perform_moves _ _).trans (ih _ _ _ h))).mono (by omega)

/-- A handling, its first work counted as one job. -/
theorem finish_moves {s t : State} {w : Work} (hw : s.ledger.Moves 1 w.1.ledger) (h : finish w = .next t) :
    s.ledger.Moves (1 + Config.cascadeBudget) t.ledger := hw.trans (runJobs_moves _ _ _ _ h)

end Sys2Proof.Machine
end

section
/-! SUPPORT. The case table through the requests (chapter 10), the frames, the tick, and every command. -/

namespace Sys2Proof.Machine

/-! ### Requests that leave the case table alone (R161 to R169) -/

section

variable (s : State) (o : Origin)

@[simp] theorem answered_ledger (kind : Byte) (code : AnswerCode) : (answered s o kind code).1.ledger = s.ledger :=
  s.answer_ledger o kind code .none

@[simp] theorem stored_ledger (clamped : Bool) (echo : AnswerData) : (stored s o clamped echo).ledger = s.ledger := by
  obtain ⟨t, ht⟩ := stored_trunk s o clamped echo
  rw [ht]; rfl

theorem readRequest_ledger (table index : Nat) : (readRequest s o table index).1.ledger = s.ledger := by
  unfold readRequest
  split
  · exact answered_ledger s o _ _
  · split
    · exact s.answer_ledger o _ _ _
    · exact answered_ledger s o _ _

theorem writeLiftRequest_ledger (index : Nat) (w : LiftWrite) : (writeLiftRequest s o index w).1.ledger = s.ledger := by
  unfold writeLiftRequest
  split
  · exact answered_ledger s o _ _
  · split
    · exact answered_ledger s o _ _
    · next i _ =>
      split
      · exact answered_ledger s o _ _
      · split
        · exact answered_ledger s o _ _
        · next g _ =>
          split
          · exact answered_ledger s o _ _
          · obtain ⟨d, hd, _⟩ := applyLift_cases (stored s o (w.clamps g) (.liftEcho g)) i g
            rw [hd]
            exact stored_ledger s o _ _

theorem writePanelRequest_ledger (index : Nat) (w : PanelWrite) : (writePanelRequest s o index w).1.ledger = s.ledger := by
  unfold writePanelRequest
  split
  · exact answered_ledger s o _ _
  · next p _ =>
    split
    · exact answered_ledger s o _ _
    · split
      · exact answered_ledger s o _ _
      · next g _ =>
        obtain ⟨r, hr, _⟩ := applyPanel_cases (s.answer o kindWrite .ok .none) p g
        rw [hr]
        exact s.answer_ledger o _ _ _

theorem writeCrewRequest_ledger (index : Nat) (w : CrewWrite) : (writeCrewRequest s o index w).1.ledger = s.ledger := by
  unfold writeCrewRequest
  split
  · exact answered_ledger s o _ _
  · split
    · exact answered_ledger s o _ _
    · split
      · exact answered_ledger s o _ _
      · split
        · exact answered_ledger s o _ _
        · split
          · exact answered_ledger s o _ _
          · exact stored_ledger s o _ _

theorem writeClassRequest_ledger (index : Nat) (w : ClassWrite) : (writeClassRequest s o index w).1.ledger = s.ledger := by
  unfold writeClassRequest
  split
  · exact answered_ledger s o _ _
  · split
    · exact answered_ledger s o _ _
    · split
      · exact answered_ledger s o _ _
      · exact stored_ledger _ o _ _

theorem writeTravelRequest_ledger (index lo hi : Nat) : (writeTravelRequest s o index lo hi).1.ledger = s.ledger := by
  unfold writeTravelRequest
  split
  · exact answered_ledger s o _ _
  · exact stored_ledger _ o _ _

theorem writeStepRequest_ledger (index : Nat) (w : StepWrite) : (writeStepRequest s o index w).1.ledger = s.ledger := by
  unfold writeStepRequest
  split
  · exact answered_ledger s o _ _
  · split
    · exact answered_ledger s o _ _
    · exact State.answer_ledger _ o _ _ _

theorem writeSettingsRequest_ledger (index : Nat) (w : SettingsWrite) :
    (writeSettingsRequest s o index w).1.ledger = s.ledger := by
  unfold writeSettingsRequest
  split
  · exact answered_ledger s o _ _
  · split
    · exact answered_ledger s o _ _
    · exact stored_ledger _ o _ _

theorem setForwardRequest_ledger (index mode : Nat) : (setForwardRequest s o index mode).1.ledger = s.ledger := by
  unfold setForwardRequest
  split <;> exact answered_ledger _ o _ _

theorem lineEnableRequest_ledger (line : Nat) : (lineEnableRequest s o line).1.ledger = s.ledger := by
  unfold lineEnableRequest
  split
  · exact answered_ledger s o _ _
  · exact s.answer_ledger o _ _ _

theorem lineDisableRequest_ledger (line : Nat) : (lineDisableRequest s o line).1.ledger = s.ledger := by
  unfold lineDisableRequest
  split
  · exact answered_ledger s o _ _
  · split
    · exact answered_ledger s o _ _
    · split
      · exact answered_ledger s o _ _
      · exact s.answer_ledger o _ _ _

theorem setBottomRequest_ledger (index : Nat) : (setBottomRequest s o index).1.ledger = s.ledger := by
  unfold setBottomRequest
  split <;> exact answered_ledger _ o _ _

theorem surveyRequest_ledger (crew : Nat) : (surveyRequest s o crew).1.ledger = s.ledger := by
  unfold surveyRequest
  split
  · exact answered_ledger s o _ _
  · exact s.answer_ledger o _ _ _

theorem readCaseRequest_ledger (record : Nat) : (readCaseRequest s o record).1.ledger = s.ledger := by
  unfold readCaseRequest
  split
  · exact answered_ledger s o _ _
  · exact s.answer_ledger o _ _ _

end

/-! ### Requests that move it (R165 to R171) -/

/-- Every record changes in place. -/
theorem Ledger.Advances.map {f : Case → Case} (a : Ledger) (h : ∀ r : Case, r.Advances (f r)) :
    a.Advances { a with cases := a.cases.map f } where
  lamp := rfl
  serial := rfl
  cases c := by
    rw [show Ledger.caseAt { a with cases := a.cases.map f } c = f (a.caseAt c) from Vector.getElem_map f c.isLt]
    exact h _

section

variable (s : State) (o : Origin)

theorem dropPending_advances (l : LineId) : s.ledger.Advances (dropPending s l).ledger :=
  .map s.ledger fun r => by
    split
    · exact { Case.Advances.refl r with pending := fun _ _ => rfl }
    · exact .refl r

theorem lineResetRequest_advances (line : Nat) : s.ledger.Advances (lineResetRequest s o line).1.ledger := by
  unfold lineResetRequest
  split
  · exact .of_eq (answered_ledger s o _ _)
  · next l _ =>
    split
    · exact .of_eq (answered_ledger s o _ _)
    · exact .trans (.of_eq (s.answer_ledger o _ _ _)) (dropPending_advances (abandonCycle _ l) l)

theorem caseOpenRequest_moves (identity : Nat) : s.ledger.Moves 1 (caseOpenRequest s o identity).1.ledger := by
  unfold caseOpenRequest
  split
  · exact .of_eq (answered_ledger s o _ _)
  · split
    · exact .of_eq (answered_ledger s o _ _)
    · exact (raise_moves _ _ _).after (.of_eq (s.answer_ledger o _ _ _))

theorem caseCloseRequest_moves (serial : BitVec 16) : s.ledger.Moves 1 (caseCloseRequest s o serial).1.ledger := by
  unfold caseCloseRequest
  split
  · exact .of_eq (answered_ledger s o _ _)
  · exact (closeCase_moves _ _ _).after (.of_eq (s.answer_ledger o _ _ _))

/-- A warm restart clears the case table; the serial counter stands (R81, R83). -/
theorem restart_moves : s.ledger.Moves 0 (restart s o).1.ledger := by
  have hledger : (restart s o).1.ledger = s.restarted.ledger := by simp [restart]
  rw [hledger]
  exact .clears (fun c => Vector.getElem_replicate c.isLt) rfl rfl

theorem warmRestartRequest_moves (force : Nat) : s.ledger.Moves 1 (warmRestartRequest s o force).1.ledger := by
  unfold warmRestartRequest
  split
  · exact .of_eq (answered_ledger s o _ _)
  · split
    · exact .of_eq (answered_ledger s o _ _)
    · exact (restart_moves s o).mono (Nat.zero_le _)

/-- A request opens at most one case at once. -/
theorem manage_moves (r : MgmtRequest) : s.ledger.Moves 1 (manage s o r).1.ledger := by
  cases r with
  | read table index => exact .of_eq (readRequest_ledger s o table index)
  | writeLift index w => exact .of_eq (writeLiftRequest_ledger s o index w)
  | writePanel index w => exact .of_eq (writePanelRequest_ledger s o index w)
  | writeCrew index w => exact .of_eq (writeCrewRequest_ledger s o index w)
  | writeClass index w => exact .of_eq (writeClassRequest_ledger s o index w)
  | writeTravel index lo hi => exact .of_eq (writeTravelRequest_ledger s o index lo hi)
  | writeStep index w => exact .of_eq (writeStepRequest_ledger s o index w)
  | writeSettings index w => exact .of_eq (writeSettingsRequest_ledger s o index w)
  | setForward index mode => exact .of_eq (setForwardRequest_ledger s o index mode)
  | lineEnable line => exact .of_eq (lineEnableRequest_ledger s o line)
  | lineDisable line => exact .of_eq (lineDisableRequest_ledger s o line)
  | lineReset line => exact .advances (lineResetRequest_advances s o line)
  | setBottom index => exact .of_eq (setBottomRequest_ledger s o index)
  | survey crew => exact .of_eq (surveyRequest_ledger s o crew)
  | caseOpen identity => exact caseOpenRequest_moves s o identity
  | caseClose serial => exact caseCloseRequest_moves s o serial
  | readCase record => exact .of_eq (readCaseRequest_ledger s o record)
  | readCounters => exact .of_eq (s.answer_ledger o _ _ _)
  | warmRestart force => exact warmRestartRequest_moves s o force

/-! ### Frames (R89, R147 to R150, R156) -/

@[simp] theorem answerControl_ledger (code : AnswerCode) : (answerControl s o code).ledger = s.ledger :=
  State.answer_ledger _ _ _ _ _

theorem controlRequest_ledger (identity : Nat) (cmd : CarCommand) : (controlRequest s o identity cmd).1.ledger = s.ledger := by
  unfold controlRequest
  dsimp only
  split <;> exact answerControl_ledger s o _

theorem controlFrame_ledger (body : List Byte) : (controlFrame s o body).1.ledger = s.ledger := by
  unfold controlFrame
  split
  · exact controlRequest_ledger s o _ _
  · exact answerControl_ledger s o _

theorem crewFrame_moves (body : List Byte) : s.ledger.Moves 1 (crewFrame s o body).1.ledger := by
  unfold crewFrame
  split
  · exact crewRequest_moves s _ _ _ _
  · exact .of_eq (State.offerAnswer_ledger _ _ _)

theorem mgmtFrame_moves (body : List Byte) : s.ledger.Moves 1 (mgmtFrame s o body).1.ledger := by
  unfold mgmtFrame
  split
  · exact manage_moves s o _
  · split <;> exact .of_eq (answered_ledger _ o _ _)

theorem takeFrame_moves (f : TrunkFrame) : s.ledger.Moves 1 (takeFrame s f).1.ledger := by
  unfold takeFrame
  dsimp only
  split
  · exact mgmtFrame_moves s _ _
  · exact .of_eq (controlFrame_ledger s _ _)
  · exact crewFrame_moves s _ _
  · exact .of_eq rfl

theorem offerForward_ledger (bytes : List Byte) : (offerForward s bytes).ledger = s.ledger := by
  unfold offerForward
  dsimp only
  split <;> rfl

theorem nearFrame_moves (bytes : List Byte) : s.ledger.Moves 1 (nearFrame s bytes).1.ledger := by
  unfold nearFrame
  split
  · split
    · exact .of_eq rfl
    · split
      · exact takeFrame_moves s _
      · split
        · exact (takeFrame_moves _ _).after (.of_eq (offerForward_ledger s bytes))
        · exact .of_eq (offerForward_ledger s bytes)
  · exact .of_eq rfl

theorem farFrame_ledger (bytes : List Byte) : (farFrame s bytes).ledger = s.ledger := by
  unfold farFrame
  split
  · split
    · rfl
    · unfold offerRelay
      dsimp only
      split <;> rfl
  · rfl

theorem setFar_ledger (up : Bool) : (setFar s up).ledger = s.ledger := by
  unfold setFar
  split
  · rfl
  · split <;> rfl

/-! ### Windows and ticks (R7, R14, R142) -/

theorem closeWindow_ledger (l : LineId) (slot : Slot) (a : SlotAnswer) : (closeWindow s l slot a).1.ledger = s.ledger := by
  unfold closeWindow
  dsimp only
  split <;> rfl

theorem collide_ledger (l : LineId) : (collide s l).ledger = s.ledger := by
  unfold collide
  dsimp only
  split <;> rfl

theorem Case.tick_advances (r : Case) : r.Advances r.tick :=
  { Case.Advances.refl r with
    repeats := fun h x hx => by
      obtain ⟨q, hq, rfl⟩ := Option.map_eq_some_iff.mp hx
      exact h q hq
    release := fun _ h => by rw [Case.tick, h]; rfl }

theorem State.tick_advances : s.ledger.Advances s.tick.ledger := .map s.ledger Case.tick_advances

theorem State.carry_advances : s.ledger.Advances s.carry.ledger := by
  unfold State.carry
  split
  · exact s.tick_advances
  · exact .refl _

theorem State.clockPeriod_advances : s.ledger.Advances s.clockPeriod.ledger := by
  unfold State.clockPeriod
  split
  · exact s.carry_advances
  · exact .refl _

end

/-! ### Every command -/

section

variable {s t : State}

/-- The most cases that one handling opens: one for its first work, one for each job. -/
def Config.openingBudget : Nat := 1 + Config.cascadeBudget

theorem moves_of_next {u : State} (h : (Host.Outcome.next u : Host.Outcome State Fault Refusal) = .next t)
    (hu : s.ledger.Advances u.ledger) : s.ledger.Moves Config.openingBudget t.ledger := by
  obtain rfl := Host.Outcome.next.inj h
  exact .advances hu

/-- An expiry that acts only where its timer is due (R145, log 1). -/
theorem moves_of_ite {b : Prop} [Decidable b] {w : Work} (hw : s.ledger.Advances w.1.ledger)
    (h : (if b then finish w else .next s) = .next t) : s.ledger.Moves Config.openingBudget t.ledger := by
  split at h
  · exact finish_moves (.advances hw) h
  · exact moves_of_next h (.refl _)

theorem exec_command_moves {o : Origin} {r : MgmtRequest} (h : exec (r.command o) s = .next t) :
    s.ledger.Moves Config.openingBudget t.ledger := finish_moves (manage_moves s o r) (exec_command s o r ▸ h)

theorem exec_control_moves {o : Origin} {identity : Nat} {cmd : CarCommand}
    (h : finish (controlRequest s o identity cmd) = .next t) : s.ledger.Moves Config.openingBudget t.ledger :=
  finish_moves (.of_eq (controlRequest_ledger s o identity cmd)) h

theorem exec_crew_moves {route : Route} {tag : Nat} {request : Option CrewRequest} {serial : Option (BitVec 16)}
    (h : finish (crewRequest s route tag request serial) = .next t) : s.ledger.Moves Config.openingBudget t.ledger :=
  finish_moves (crewRequest_moves s route tag request serial) h

theorem windowTimer_advances (s : State) (c : CaseNo) (w : Window) :
    s.ledger.Advances (s.setCase c { s.caseAt c with window := w }).ledger :=
  .setCase { Case.Advances.refl (s.caseAt c) with record := rfl }

/-- Every command but a power-on reset moves the case table. -/
theorem exec_moves {c : Instr} (h : exec c s = .next t) (hc : c ≠ .powerOnReset) :
    s.ledger.Moves Config.openingBudget t.ledger := by
  cases c with
  | powerOnReset => exact absurd rfl hc
  | strapChange address => exact moves_of_next h (.refl _)
  | tickEnd =>
    refine moves_of_next h ?_
    split
    · exact .refl _
    · exact s.tick_advances
  | intervalTimerExpiry l => exact moves_of_ite (.of_eq rfl) h
  | ceilingTimerExpiry l => exact moves_of_ite (.of_eq rfl) h
  | escalationTimerExpiry c => exact moves_of_ite (escalate_advances s c) h
  | offerTimerExpiry k =>
    change execOfferTimerExpiry k s = _ at h
    unfold execOfferTimerExpiry at h
    split at h
    · exact moves_of_ite (offerExpired_advances s k _) h
    · exact moves_of_next h (.refl _)
  | minTimerExpiry c =>
    change execMinTimerExpiry c s = _ at h
    unfold execMinTimerExpiry at h
    dsimp only at h
    split at h
    · exact moves_of_next h (windowTimer_advances s c _)
    · exact moves_of_next h (.refl _)
  | maxTimerExpiry c =>
    refine moves_of_ite ?_ h
    dsimp only
    split
    · exact (windowTimer_advances s c _).trans (becomeLate_advances _ c)
    · exact windowTimer_advances s c _
  | stepTimerExpiry c => exact moves_of_ite stepExpired_advances h
  | settleTimerExpiry c =>
    change execSettleTimerExpiry c s = _ at h
    unfold execSettleTimerExpiry at h
    split at h
    · exact moves_of_ite (endRelease_advances s c _) h
    · exact moves_of_next h (.refl _)
  | answerWindowClose l held =>
    change execAnswerWindowClose l held s = _ at h
    unfold execAnswerWindowClose at h
    dsimp only at h
    split at h
    · exact finish_moves (.of_eq (closeWindow_ledger s l _ _)) h
    · exact moves_of_next h (.refl _)
  | wake l burst =>
    change execWake l burst s = _ at h
    unfold execWake at h
    split at h
    · exact finish_moves (s := s) (.of_eq rfl) h
    · exact moves_of_next h (.of_eq (collide_ledger s l))
  | wakeBurstInCycle l => exact moves_of_next h (.of_eq (collide_ledger s l))
  | nearFrameReceived bytes => exact finish_moves (nearFrame_moves s bytes) h
  | farFrameReceived bytes => exact finish_moves (.of_eq (farFrame_ledger s bytes)) h
  | linkStateChange side up =>
    cases side with
    | near => exact finish_moves (s := s) (w := (setNear s up, [])) (.of_eq rfl) h
    | far => exact finish_moves (.of_eq (setFar_ledger s up)) h
  | nearTransmitComplete =>
    exact finish_moves (s := s) (w := ({ s with trunk := { s.trunk with nearTx := none } }, [])) (.of_eq rfl) h
  | farTransmitComplete =>
    exact finish_moves (s := s) (w := ({ s with trunk := { s.trunk with farTx := none } }, [])) (.of_eq rfl) h
  | read o table index => exact exec_command_moves (r := .read table index) h
  | writeLift o index w => exact exec_command_moves (r := .writeLift index w) h
  | writePanel o index w => exact exec_command_moves (r := .writePanel index w) h
  | writeCrew o index w => exact exec_command_moves (r := .writeCrew index w) h
  | writeClass o index w => exact exec_command_moves (r := .writeClass index w) h
  | writeTravel o index lo hi => exact exec_command_moves (r := .writeTravel index lo hi) h
  | writeStep o index w => exact exec_command_moves (r := .writeStep index w) h
  | writeSectorSettings o index w => exact exec_command_moves (r := .writeSettings index w) h
  | setForward o index mode => exact exec_command_moves (r := .setForward index mode) h
  | lineEnable o line => exact exec_command_moves (r := .lineEnable line) h
  | lineDisable o line => exact exec_command_moves (r := .lineDisable line) h
  | lineReset o line => exact exec_command_moves (r := .lineReset line) h
  | setBottom o index => exact exec_command_moves (r := .setBottom index) h
  | survey o crew => exact exec_command_moves (r := .survey crew) h
  | caseOpen o identity => exact exec_command_moves (r := .caseOpen identity) h
  | caseClose o serial => exact exec_command_moves (r := .caseClose serial) h
  | readCase o record => exact exec_command_moves (r := .readCase record) h
  | readCounters o => exact exec_command_moves (r := .readCounters) h
  | warmRestart o force => exact exec_command_moves (r := .warmRestart force) h
  | controlInhibit o identity => exact exec_control_moves h
  | controlRestore o identity => exact exec_control_moves h
  | controlAnnounce o identity message => exact exec_control_moves h
  | controlService o identity code => exact exec_control_moves h
  | dutyOn r tag => exact exec_crew_moves h
  | dutyOff r tag => exact exec_crew_moves h
  | sweepOn r tag => exact exec_crew_moves h
  | sweepOff r tag => exact exec_crew_moves h
  | job r tag => exact exec_crew_moves h
  | accept r tag serial => exact exec_crew_moves h
  | decline r tag serial => exact exec_crew_moves h
  | arrived r tag serial => exact exec_crew_moves h
  | voice r tag serial => exact exec_crew_moves h
  | standDown r tag serial => exact exec_crew_moves h
  | firstStageCarry => exact moves_of_next h s.carry_advances

end

end Sys2Proof.Machine
end

section
/-! SUPPORT. What every step keeps of the case records and the lamp (R68 to R71, R76, R77, R82, R83, R123, R127, R133). -/

namespace Sys2Proof.Machine

/-! ### The properties of one record -/

/-- A closed record's counts are those it had; it holds no release (R76). -/
theorem Case.Closes.inRange {r q : Case} (h : r.Closes q) (hr : r.InRange) : q.InRange := by
  rcases h with rfl | ⟨_, _, _, _, rfl⟩
  · exact Case.free_inRange
  · exact ⟨hr.urgency, hr.escalations, hr.presses, hr.retry, hr.pulses, nofun⟩

/-- A record that is not OPEN holds no release and no command (R76, R127). -/
def Case.HoldsNothingClosed (r : Case) : Prop := r.record ≠ .opened → r.release = none ∧ r.pending = none

theorem State.closedHoldNothing_iff {s : State} : s.ClosedHoldNothing ↔ ∀ c, (s.caseAt c).HoldsNothingClosed := by
  simp [State.ClosedHoldNothing, Case.HoldsNothingClosed, State.isOpen]

theorem Case.Closes.holdsNothingClosed {r q : Case} (h : r.Closes q) : q.HoldsNothingClosed := by
  rcases h with rfl | ⟨_, _, _, _, rfl⟩ <;> exact fun _ => ⟨rfl, rfl⟩

theorem Case.Advances.holdsNothingClosed {r q : Case} (h : r.Advances q) (hr : r.HoldsNothingClosed) : q.HoldsNothingClosed :=
  fun hclosed =>
    have hclosed : r.record ≠ .opened := h.record ▸ hclosed
    ⟨h.release hclosed (hr hclosed).1, h.pending hclosed (hr hclosed).2⟩

/-- A CLOSING record is owed its CLOSED notice, with what the notice is made with (R77, R82). -/
def Case.OwedClosing (r : Case) : Prop :=
  r.record = .closing → r.owed = true ∧ r.closeReason ≠ none ∧ r.closedIdentity ≠ none ∧ r.closedAt ≠ none

theorem Case.Closes.owedClosing {r q : Case} (h : r.Closes q) : q.OwedClosing := by
  rcases h with rfl | ⟨_, _, _, _, rfl⟩
  · exact fun h => RecordState.noConfusion h
  · exact fun _ => ⟨rfl, nofun, nofun, nofun⟩

theorem Case.Advances.owedClosing {r q : Case} (h : r.Advances q) (hr : r.OwedClosing) : q.OwedClosing := fun hclosing => by
  have hclosing : r.record = .closing := h.record ▸ hclosing
  obtain ⟨howed, hfields⟩ := hr hclosing
  rw [h.closeReason, h.closedIdentity, h.closedAt]
  exact ⟨h.owed hclosing howed, hfields⟩

/-! ### Every step -/

/-- The case table that a power-on reset sets up (R58, R83). -/
theorem State.powerOn_ledger (straps : BitVec 12) (nearUp farUp : Bool) (draws : Nat) (q : List Instr) :
    (∀ c, (State.powerOn straps nearUp farUp draws q).caseAt c = .free) ∧
      (State.powerOn straps nearUp farUp draws q).lamp = (State.powerOn straps nearUp farUp draws q).anyOpen := by
  have hfree : ∀ c, (State.powerOn straps nearUp farUp draws q).caseAt c = .free := fun c => Vector.getElem_replicate c.isLt
  refine ⟨hfree, Eq.symm (State.anyOpen_eq_false.mpr fun c => ?_)⟩
  rw [State.isOpen, hfree c]
  rfl

/-- A step moves the case table, or is a power-on reset. -/
theorem step_moves {s t : State} (h : step s = .next t) : s.ledger.Moves Config.openingBudget t.ledger ∨
    (∀ c, t.caseAt c = .free) ∧ t.lamp = t.anyOpen := by
  unfold step at h
  split at h
  · exact .inl (moves_of_next h s.clockPeriod_advances)
  · next c rest _ =>
    by_cases hc : c = .powerOnReset
    · subst hc
      obtain rfl := Host.Outcome.next.inj h
      exact .inr (State.powerOn_ledger _ _ _ _ _)
    · exact .inl (exec_moves (s := { s with pending := rest }) h hc)

/-- A property of records that changes in place keep, and that opened, closed and FREE records have, every step keeps. -/
theorem step_keeps_records {P : Case → Prop} (hadvances : ∀ r q : Case, r.Advances q → P r → P q)
    (hopens : ∀ r : Case, r.record = .opened → r.InRange → P r) (hcloses : ∀ r q : Case, r.Closes q → P r → P q)
    {s t : State} (hs : ∀ c, P (s.caseAt c)) (h : step s = .next t) (c : CaseNo) : P (t.caseAt c) := by
  rcases step_moves h with hmoves | ⟨hfree, _⟩
  · exact hmoves.keeps hadvances hopens hcloses hs c
  · exact hfree c ▸ hcloses _ _ (.inl rfl) (hs c)

/-- Settles O8: a step moves the case table by changes in place, openings, closes and departures, each of which keeps the four
properties. -/
theorem stepsKeepCaseRecordsSound : Obligations.StepsKeepCaseRecordsSound := by
  refine ⟨fun s t hs h => ?_, fun s t hs h => ?_, fun s t hs h => ?_, fun s t hs h => ?_⟩
  · exact step_keeps_records (fun _ _ h => h.inRange) (fun _ _ h => h) (fun _ _ h => h.inRange) hs h
  · exact State.closedHoldNothing_iff.mpr (step_keeps_records (fun _ _ h => h.holdsNothingClosed)
      (fun _ hopen _ hclosed => absurd hopen hclosed) (fun _ _ h _ => h.holdsNothingClosed) (State.closedHoldNothing_iff.mp hs) h)
  · exact step_keeps_records (P := Case.OwedClosing) (fun _ _ h => h.owedClosing)
      (fun _ hopen _ hclosing => RecordState.noConfusion (hopen.symm.trans hclosing)) (fun _ _ h _ => h.owedClosing) hs h
  · rcases step_moves h with hmoves | ⟨_, hlamp⟩
    · exact hmoves.lamp hs
    · exact hlamp

/-! ### A case that stays open (R68) -/

/-- Settles O10: where the serial counter stands no case has opened, since one handling opens far fewer than 65,536, so a record that is
OPEN at the end has only changed in place. -/
theorem openCasesOnlyImprove : Obligations.OpenCasesOnlyImprove := by
  intro c s t e h hserial _ hopen hrange
  by_cases hc : c = .powerOnReset
  · subst hc
    obtain rfl := Host.Outcome.next.inj h
    obtain ⟨hfree, _⟩ := State.powerOn_ledger s.straps s.trunk.nearUp s.trunk.farUp s.freeDraws s.pending
    rw [State.isOpen, hfree e] at hopen
    exact absurd hopen Bool.false_ne_true
  · obtain ⟨m, hm, hcounted, hadvances⟩ := (exec_moves h hc).serial
    have hnone : m = 0 := by
      have hadded : s.serial + BitVec.ofNat 16 m = s.serial := hcounted.symm.trans hserial
      have hbudget : m < 65536 := hm.trans_lt (by decide)
      bv_omega
    have hcase := hadvances hnone e hopen
    exact ⟨hcase.serial, hcase.lift, hcase.openedAt, hcase.urgency, hcase.causes, hcase.seen,
      (hcase.presses (hrange e).presses).1, (hcase.pulses (hrange e).pulses).1⟩

end Sys2Proof.Machine
end

section
/-! SUPPORT. What the arbiter's agreement speaks of: who holds and who is offered each open case (R95, R101). -/

namespace Sys2Proof.Machine

/-! ### The roster -/

/-- How a case record stands with the arbiter: not OPEN, or OPEN and waiting, offered, or held by a crew (R95, R101). -/
inductive Standing where
  | closed
  | waiting
  | offered (crew : Option CrewNo)
  | held (crew : Option CrewNo)

def Case.standing (r : Case) : Standing :=
  if r.record = .opened then
    match r.dispatch with
    | .waiting => .waiting
    | .offered => .offered r.crew
    | .assigned => .held r.crew
    | .onSite => .held r.crew
    | .cleared => .held r.crew
  else .closed

/-- The standing of every case record, and every crew's held list and outstanding offer. -/
structure Roster where
  standing : CaseNo → Standing
  held : CrewNo → List CaseNo
  offer : CrewNo → Option CaseNo

def State.roster (s : State) : Roster where
  standing := fun c => (s.caseAt c).standing
  held := fun k => (s.crew k).dyn.held
  offer := fun k => (s.crew k).dyn.offer.map Offer.case

namespace Roster

variable {a b : Roster} {c : CaseNo} {k : CrewNo}

/-- Offers, held lists and standings agree (R95, R101). -/
structure Sound (a : Roster) : Prop where
  offered : ∀ k c, a.offer k = some c → a.standing c = .offered (some k)
  named : ∀ c j, a.standing c = .offered j → ∃ k, a.offer k = some c
  held : ∀ k c, c ∈ a.held k → a.standing c = .held (some k)
  kept : ∀ c j, a.standing c = .held j → ∃ k, c ∈ a.held k
  once : ∀ k, (a.held k).Nodup
  room : ∀ k, (a.held k).length + (if (a.offer k).isSome then 1 else 0) ≤ 3

theorem Sound.of_eq (h : a.Sound) (hb : b = a) : b.Sound := hb ▸ h

/-- The roster with record `c` in another standing. -/
def stand (a : Roster) (c : CaseNo) (x : Standing) : Roster := { a with standing := Function.update a.standing c x }

/-- The roster with another held list and offer of crew `k`. -/
def deal (a : Roster) (k : CrewNo) (held : List CaseNo) (offer : Option CaseNo) : Roster :=
  { a with held := Function.update a.held k held, offer := Function.update a.offer k offer }

/-- The roster once record `c` has left the arbiter (R76). -/
def without (a : Roster) (c : CaseNo) : Roster where
  standing := Function.update a.standing c .closed
  held := fun k => (a.held k).filter (· != c)
  offer := fun k => (a.offer k).filter (· != c)

/-- A record that is not OPEN opens WAITING (R62). -/
theorem Sound.opens (h : a.Sound) (hc : a.standing c = .closed) : (a.stand c .waiting).Sound := by
  obtain ⟨offered, named, held, kept, once, room⟩ := h
  constructor <;> simp only [stand, Function.update_apply] <;> grind

/-- A case leaves the crews and its record (R76). -/
theorem Sound.without (h : a.Sound) (c : CaseNo) : (a.without c).Sound := by
  obtain ⟨offered, named, held, kept, once, room⟩ := h
  constructor <;> simp only [Roster.without, Function.update_apply, Option.filter_eq_some_iff, List.mem_filter]
  · grind
  · grind
  · grind
  · grind
  · exact fun k => (once k).filter _
  · intro k
    have hlen := List.length_filter_le (· != c) (a.held k)
    have hoffer : ((a.offer k).filter (· != c)).isSome = true → (a.offer k).isSome = true := fun h => by
      rw [Option.isSome_filter] at h
      exact Option.isSome_of_any h
    have := room k
    grind

/-- A WAITING case is offered to a crew that has an offer's room (R95). -/
theorem Sound.offers (h : a.Sound) (hc : a.standing c = .waiting) (hk : a.offer k = none) (hroom : (a.held k).length < 3) :
    ((a.stand c (.offered (some k))).deal k (a.held k) (some c)).Sound := by
  obtain ⟨offered, named, held, kept, once, room⟩ := h
  constructor <;> simp only [stand, deal, Function.update_apply] <;> grind

/-- An offered case returns to WAITING (R97, R98). -/
theorem Sound.returns (h : a.Sound) (hk : a.offer k = some c) : ((a.stand c .waiting).deal k (a.held k) none).Sound := by
  obtain ⟨offered, named, held, kept, once, room⟩ := h
  constructor <;> simp only [stand, deal, Function.update_apply] <;> grind

/-- An offered case enters the held list (R96, R101). -/
theorem Sound.accepts (h : a.Sound) (hk : a.offer k = some c) :
    ((a.stand c (.held (some k))).deal k (a.held k ++ [c]) none).Sound := by
  obtain ⟨offered, named, held, kept, once, room⟩ := h
  constructor <;> simp only [stand, deal, Function.update_apply] <;> grind

/-- No case is OPEN, and no crew holds or is offered one. -/
theorem Sound.empty (hstanding : ∀ c, a.standing c = .closed) (hheld : ∀ k, a.held k = []) (hoffer : ∀ k, a.offer k = none) :
    a.Sound := by
  constructor <;> simp [hstanding, hheld, hoffer]

end Roster

theorem Case.standing_offered_iff {r : Case} {j : Option CrewNo} :
    r.standing = .offered j ↔ r.record = .opened ∧ r.dispatch = .offered ∧ r.crew = j := by
  unfold Case.standing
  by_cases hopen : r.record = .opened
  · cases r.dispatch <;> simp [hopen]
  · simp [hopen]

theorem Case.standing_held_iff {r : Case} {j : Option CrewNo} :
    r.standing = .held j ↔ r.record = .opened ∧ r.dispatch.isHeld = true ∧ r.crew = j := by
  unfold Case.standing
  by_cases hopen : r.record = .opened
  · cases r.dispatch <;> simp [hopen, DispatchState.isHeld]
  · simp [hopen]

/-- Offers, held lists and dispatch states agree as the roster tells. -/
theorem State.dispatchSound_iff {s : State} : s.DispatchSound ↔ s.roster.Sound := by
  constructor
  · rintro ⟨offered, named, held, kept, once, room⟩
    refine ⟨fun k c h => ?_, fun c j h => ?_, fun k c h => ?_, fun c j h => ?_, once, fun k => ?_⟩
    · obtain ⟨o, ho, rfl⟩ := Option.map_eq_some_iff.mp h
      obtain ⟨hopen, hdispatch, hcrew⟩ := offered k o ho
      exact Case.standing_offered_iff.mpr ⟨beq_iff_eq.mp hopen, hdispatch, hcrew⟩
    · obtain ⟨hopen, hdispatch, -⟩ := Case.standing_offered_iff.mp h
      obtain ⟨k, o, ho, rfl⟩ := named c (beq_iff_eq.mpr hopen) hdispatch
      exact ⟨k, congrArg (Option.map Offer.case) ho⟩
    · obtain ⟨hopen, hheld, hcrew⟩ := held k c h
      exact Case.standing_held_iff.mpr ⟨beq_iff_eq.mp hopen, hheld, hcrew⟩
    · obtain ⟨hopen, hheld, -⟩ := Case.standing_held_iff.mp h
      exact kept c (beq_iff_eq.mpr hopen) hheld
    · simpa [State.roster] using room k
  · rintro ⟨offered, named, held, kept, once, room⟩
    refine ⟨fun k o h => ?_, fun c hopen hdispatch => ?_, fun k c h => ?_, fun c hopen hheld => ?_, once, fun k => ?_⟩
    · obtain ⟨hopen, hdispatch, hcrew⟩ := Case.standing_offered_iff.mp (offered k o.case (congrArg (Option.map Offer.case) h))
      exact ⟨beq_iff_eq.mpr hopen, hdispatch, hcrew⟩
    · obtain ⟨k, hk⟩ := named c _ (Case.standing_offered_iff.mpr ⟨beq_iff_eq.mp hopen, hdispatch, rfl⟩)
      obtain ⟨o, ho, hc⟩ := Option.map_eq_some_iff.mp hk
      exact ⟨k, o, ho, hc⟩
    · obtain ⟨hopen, hheld, hcrew⟩ := Case.standing_held_iff.mp (held k c h)
      exact ⟨beq_iff_eq.mpr hopen, hheld, hcrew⟩
    · exact kept c _ (Case.standing_held_iff.mpr ⟨beq_iff_eq.mp hopen, hheld, rfl⟩)
    · simpa [State.roster] using room k

end Sys2Proof.Machine
end

section
/-! SUPPORT. The roster through the updates of one record, the offerings and the notices. -/

namespace Sys2Proof.Machine

variable {s t : State} {c : CaseNo} {k : CrewNo}

/-! ### The roster after an update -/

/-- The roster is read from the standing of each case, and from each crew's held list and offered case, alone. -/
theorem State.roster_congr (hstanding : ∀ c, (t.caseAt c).standing = (s.caseAt c).standing)
    (hheld : ∀ k, (t.crew k).dyn.held = (s.crew k).dyn.held)
    (hoffer : ∀ k, (t.crew k).dyn.offer.map Offer.case = (s.crew k).dyn.offer.map Offer.case) : t.roster = s.roster := by
  simp only [State.roster, hstanding, hheld, hoffer]

theorem State.setCase_stands (s : State) (c : CaseNo) (r : Case) : (s.setCase c r).roster = s.roster.stand c r.standing := by
  have hstanding : (fun e => ((s.setCase c r).caseAt e).standing) =
      Function.update (fun e => (s.caseAt e).standing) c r.standing := funext fun e => by
    rw [State.caseAt_setCase_if, Function.update_apply]
    by_cases h : c = e
    · rw [if_pos h, if_pos h.symm]
    · rw [if_neg h, if_neg (Ne.symm h)]
  exact congrArg (Roster.mk · s.roster.held s.roster.offer) hstanding

theorem State.setCrew_deals (s : State) (k : CrewNo) (r : Crew) :
    (s.setCrew k r).roster = s.roster.deal k r.dyn.held (r.dyn.offer.map Offer.case) := by
  have hcrew (j : CrewNo) : (s.setCrew k r).crew j = if j = k then r else s.crew j := by
    rw [State.crew_setCrew_if]
    by_cases h : k = j
    · rw [if_pos h, if_pos h.symm]
    · rw [if_neg h, if_neg (Ne.symm h)]
  have hheld : (s.setCrew k r).roster.held = Function.update s.roster.held k r.dyn.held := funext fun j => by
    simp only [State.roster, hcrew, Function.update_apply]
    split <;> rfl
  have hoffer : (s.setCrew k r).roster.offer = Function.update s.roster.offer k (r.dyn.offer.map Offer.case) := funext fun j => by
    simp only [State.roster, hcrew, Function.update_apply]
    split <;> rfl
  exact congrArg₂ (Roster.mk s.roster.standing) hheld hoffer

theorem State.setCrewDyn_deals (s : State) (k : CrewNo) (d : CrewDynamic) :
    (s.setCrewDyn k d).roster = s.roster.deal k d.held (d.offer.map Offer.case) := s.setCrew_deals k _

/-- A record that stands as the one read. -/
theorem State.setCase_roster {r : Case} (h : r.standing = (s.caseAt c).standing) : (s.setCase c r).roster = s.roster := by
  rw [State.setCase_stands, h]
  exact congrArg (Roster.mk · s.roster.held s.roster.offer) (Function.update_eq_self c _)

@[simp] theorem State.setProcedure_roster (s : State) (c : CaseNo) (p : Procedure) : (s.setProcedure c p).roster = s.roster :=
  State.setCase_roster rfl
@[simp] theorem State.setRelease_roster (s : State) (c : CaseNo) (q : Release) : (s.setRelease c q).roster = s.roster :=
  State.setCase_roster rfl

/-- A crew record with the held list and the offered case of the one read. -/
theorem State.setCrew_roster {r : Crew} (hheld : r.dyn.held = (s.crew k).dyn.held)
    (hoffer : r.dyn.offer.map Offer.case = (s.crew k).dyn.offer.map Offer.case) : (s.setCrew k r).roster = s.roster := by
  rw [State.setCrew_deals, hheld, hoffer]
  exact congrArg₂ (Roster.mk s.roster.standing) (Function.update_eq_self k _) (Function.update_eq_self k _)

theorem State.setCrewDyn_roster {d : CrewDynamic} (hheld : d.held = (s.crew k).dyn.held)
    (hoffer : d.offer.map Offer.case = (s.crew k).dyn.offer.map Offer.case) : (s.setCrewDyn k d).roster = s.roster :=
  State.setCrew_roster hheld hoffer

/-! ### Offerings and notices -/

@[simp] theorem State.offerAnswer_roster (s : State) (o : Origin) (b : OwnBody) : (s.offerAnswer o b).roster = s.roster := by
  obtain ⟨t, ht⟩ := s.offerAnswer_trunk o b
  rw [ht]; rfl

@[simp] theorem State.answer_roster (s : State) (o : Origin) (kind : Byte) (code : AnswerCode) (data : AnswerData) :
    (s.answer o kind code data).roster = s.roster := s.offerAnswer_roster _ _

@[simp] theorem State.offerLoose_roster (s : State) (b : OwnBody) : (s.offerLoose b).roster = s.roster := by
  obtain ⟨t, ht⟩ := s.offerLoose_trunk b
  rw [ht]; rfl

@[simp] theorem State.offerSummary_roster (s : State) (m : Summary) : (s.offerSummary m).roster = s.roster := by
  obtain ⟨t, ht⟩ := s.offerSummary_trunk m
  rw [ht]; rfl

@[simp] theorem State.call_roster (s : State) (c : CaseNo) : (s.call c).roster = s.roster := s.offerLoose_roster _

/-- A notice changes at most the owed flag of its record (R153). -/
@[simp] theorem State.notify_roster (s : State) (c : CaseNo) (kind : NoticeKind) (arg : NoticeArg) :
    (s.notify c kind arg).roster = s.roster := by
  obtain ⟨t, ht | ht⟩ := s.notify_cases c kind arg
  · rw [ht]; rfl
  · rw [ht]; exact State.setCase_roster rfl

theorem State.setCase_notify_roster {r : Case} (h : r.standing = (s.caseAt c).standing) (kind : NoticeKind) (arg : NoticeArg) :
    ((s.setCase c r).notify c kind arg).roster = s.roster := (State.notify_roster _ c _ _).trans (State.setCase_roster h)

@[simp] theorem State.addLatch_roster (s : State) (i : LiftIdx) (causes : CauseSet) : (s.addLatch i causes).roster = s.roster := rfl

@[simp] theorem State.fullIf_roster (s : State) (before : Bool) (i : LiftIdx) : (s.fullIf before i).roster = s.roster := by
  unfold State.fullIf
  split
  · exact s.offerLoose_roster _
  · rfl

@[simp] theorem State.respond_roster (s : State) (route : Route) (tag : Nat) (code : AnswerCode) (named : Option (BitVec 16))
    (info : Option OfferInfo) : (s.respond route tag code named info).roster = s.roster := by
  cases route with
  | trunk o => exact s.offerAnswer_roster _ _
  | panel p => rfl

/-- An answer takes the offer lost mark alone (R99). -/
@[simp] theorem State.reply_roster (s : State) (k : CrewNo) (route : Route) (code : AnswerCode) (named : Option (BitVec 16))
    (info : Option OfferInfo) (tag : Nat) : (s.reply k route code named info tag).roster = s.roster := by
  have hmark (t : State) : (t.setCrewDyn k { (t.crew k).dyn with offerLost := none }).roster = t.roster :=
    State.setCrewDyn_roster rfl rfl
  exact (hmark _).trans (s.respond_roster _ _ _ _ _)

end Sys2Proof.Machine
end

section
/-! SUPPORT. The roster through the case manager, the procedure engine and the release controller (chapters 4, 6, 7). -/

namespace Sys2Proof.Machine

variable {s : State} {c : CaseNo} {i : LiftIdx}

/-! ### Openings and closes (R61 to R66, R76 to R78) -/

theorem Roster.Sound.openCase (h : s.roster.Sound) (hc : (s.caseAt c).record = .free) (causes : CauseSet) :
    (openCase s c i causes).1.roster.Sound := by
  have hclosed : s.roster.standing c = .closed := if_neg fun hopen => RecordState.noConfusion (hc.symm.trans hopen)
  have hseated : (s.seated c i causes).roster = s.roster.stand c .waiting := s.setCase_stands c (s.openingRecord i causes)
  refine (h.opens hclosed).of_eq (Eq.trans ?_ hseated)
  simp [Machine.openCase]

theorem State.record_of_lowestFree (h : s.lowestFree = some c) : (s.caseAt c).record = .free :=
  beq_iff_eq.mp (List.find?_some (p := fun c => (s.caseAt c).record == .free) h)

theorem joinCauses_roster (causes : CauseSet) : (joinCauses s c causes).1.roster = s.roster := by
  unfold joinCauses
  dsimp only
  split
  · rfl
  · exact State.setCase_notify_roster (r := s.joined (s.caseAt c) (causes.diff (s.caseAt c).causes)) rfl _ _

theorem Roster.Sound.raise (h : s.roster.Sound) (causes : CauseSet) : (raise s i causes).1.roster.Sound := by
  unfold Machine.raise
  split
  · exact h.of_eq (joinCauses_roster _)
  · split
    · next c hc => exact h.openCase (State.record_of_lowestFree hc) _
    · exact h.of_eq (State.fullIf_roster _ _ _)

theorem Roster.Sound.arbitrate (h : s.roster.Sound) : (arbitrate s).1.roster.Sound := by
  unfold Machine.arbitrate
  split
  · exact h
  · next c hc =>
    dsimp only
    split
    · exact Roster.Sound.openCase (s := { s with lifts := s.lifts.map Lift.prunedLatch }) h (State.record_of_lowestFree hc) _
    · exact h

theorem truthTold_roster (s : State) (i : LiftIdx) : (truthTold s i).1.roster = s.roster := by
  rcases (truthTold_cases s i).1 with h | h <;> rw [h]
  rfl

/-- A case that is shut leaves its record and the crews (R76). -/
theorem State.shut_roster (s : State) (c : CaseNo) (reason : CloseReason) : (s.shut c reason).roster = s.roster.without c := by
  let r := (s.caseAt c).closed reason (s.tagOf (s.caseAt c).crew) (s.identityOf (s.caseAt c).lift) s.stamp
  have hcrew (j : CrewNo) : (s.shut c reason).crew j = (s.crew j).freedOf c (s.caseAt c).serial :=
    (Vector.getElem_map _ j.isLt).trans (Crew.without_eq _ _ _)
  have hstanding : (s.setCase c r).roster.standing = Function.update s.roster.standing c .closed := by
    rw [State.setCase_stands]; rfl
  have hheld (j : CrewNo) : ((s.shut c reason).crew j).dyn.held = (s.crew j).dyn.held.filter (· != c) := by rw [hcrew]; rfl
  have hoffer (j : CrewNo) : ((s.shut c reason).crew j).dyn.offer.map Offer.case =
      ((s.crew j).dyn.offer.map Offer.case).filter (· != c) := by
    rw [hcrew, Crew.freedOf]
    cases (s.crew j).dyn.offer with
    | none => rfl
    | some o => by_cases ho : o.case = c <;> simp [Option.filter, ho]
  calc (s.shut c reason).roster
    _ = ⟨(s.setCase c r).roster.standing, fun j => ((s.shut c reason).crew j).dyn.held,
        fun j => ((s.shut c reason).crew j).dyn.offer.map Offer.case⟩ := rfl
    _ = s.roster.without c := by simp only [hstanding, hheld, hoffer]; rfl

/-- The notice of a record that is not OPEN is sent and the record FREE, or it is owed (R76, R77). -/
theorem State.offerCase_roster (hc : s.roster.standing c = .closed) (n : Notice) :
    let offered := s.offerCase c n
    let after := match offered.2 with
      | .entered => offered.1.setCase c .free
      | .kept => offered.1
    after.roster = s.roster := by
  unfold State.offerCase
  split
  · rfl
  · split
    · exact State.setCase_roster hc.symm
    · exact State.setCase_roster (s := s) rfl

/-- A close of a case whose record is OPEN leaves the others sound (R76), where they are sound without it. -/
theorem closeCase_sound (h : (s.roster.without c).Sound) (hopen : s.isOpen c = true) (reason : CloseReason) :
    (closeCase s c reason).1.roster.Sound := by
  have hclosed : (s.shut c reason).roster.standing c = .closed := by
    rw [State.shut_roster]; exact Function.update_self ..
  simp only [closeCase, hopen, if_true, State.fullIf_roster]
  refine Roster.Sound.arbitrate (h.of_eq ?_)
  exact (State.offerCase_roster hclosed _).trans (s.shut_roster c reason)

theorem Roster.Sound.closeCase (h : s.roster.Sound) (reason : CloseReason) : (closeCase s c reason).1.roster.Sound := by
  by_cases hopen : s.isOpen c = true
  · exact closeCase_sound (h.without c) hopen reason
  · rw [Machine.closeCase, if_neg hopen]; exact h

section

variable (s : State) (c : CaseNo)

/-! ### Urgency, escalation and clearing (R68 to R71, R75) -/

theorem occupancyChange_roster : (occupancyChange s c).roster = s.roster := by
  rw [occupancyChange_eq, State.setCase_roster]
  unfold Case.occupied
  split <;> rfl

theorem escalate_roster : (escalate s c).1.roster = s.roster := by
  let counted : Case := { s.caseAt c with
    urgency := improve (s.caseAt c).urgency, escalations := satInc 15 (s.caseAt c).escalations, declined := [] }
  have hcounted : ((s.setCase c counted).notify c .escalated (.count counted.escalations)).roster = s.roster :=
    State.setCase_notify_roster (s := s) (c := c) (r := counted) rfl _ _
  have hrestarted (t : State) : (t.setCase c { t.caseAt c with escalation := .running (s.caseAt c).interval }).roster = t.roster :=
    State.setCase_roster rfl
  exact (hrestarted _).trans hcounted

/-- A held case stays held as it is cleared (R75). -/
theorem clearCase_roster (source : ClearedSource) : (clearCase s c source).1.roster = s.roster := by
  have hcleared (h : (s.caseAt c).dispatch = .assigned ∨ (s.caseAt c).dispatch = .onSite) :
      ((s.setCase c { s.caseAt c with
        dispatch := .cleared, escalation := .stopped, window := (s.caseAt c).window.halted }).notify c .cleared
          (.source source)).roster = s.roster := by
    refine State.setCase_notify_roster ?_ _ _
    rcases h with h | h <;> simp [Case.standing, h]
  unfold clearCase
  dsimp only
  split
  · rfl
  · rfl
  · next h => exact hcleared (.inl h)
  · next h => exact hcleared (.inr h)
  · rfl

/-! ### Procedures (chapter 6) -/

@[simp] theorem Case.withdraw_standing (r : Case) (owner : CommandOwner) : (r.withdraw owner).standing = r.standing := by
  unfold Case.withdraw
  split
  · split <;> rfl
  · rfl

theorem completeWait_roster : (completeWait s c).1.roster = s.roster := State.setProcedure_roster s c _
theorem failWait_roster : (failWait s c).1.roster = s.roster := State.setProcedure_roster s c _

@[simp] theorem handover_roster (reason : HandoverReason) : (handover s c reason).roster = s.roster := by
  unfold handover
  dsimp only
  split
  · refine State.setCase_notify_roster ?_ _ _
    split
    · exact (s.caseAt c).withdraw_standing .procedure
    · rfl
  · rfl

theorem handoverTest_roster : (handoverTest s c).roster = s.roster := by
  unfold handoverTest
  dsimp only
  split
  · exact handover_roster s c _
  · rfl

theorem procedureEvent_roster (e : NamedEvent) : (procedureEvent s c e).1.roster = s.roster := by
  unfold procedureEvent
  split
  · exact completeWait_roster s c
  · rfl

theorem caseEvent_roster (e : NamedEvent) : (caseEvent s c e).1.roster = s.roster := by
  let met : Case := { s.caseAt c with seen := (s.caseAt c).seen.insert e, escalation := eventTimer (s.caseAt c) e }
  have hmet : (s.setCase c met).roster = s.roster := State.setCase_roster rfl
  unfold caseEvent
  dsimp only
  split
  · split
    · exact (clearCase_roster _ c _).trans hmet
    · exact ((procedureEvent_roster _ c e).trans (clearCase_roster _ c _)).trans hmet
  · exact (procedureEvent_roster _ c e).trans hmet

/-! ### Releases (chapter 7) -/

theorem endNotice_roster (e : ReleaseEnd) : (endNotice s c e).roster = s.roster := by
  cases e <;> exact s.notify_roster c _ _

theorem dropRelease_roster (e : ReleaseEnd) : (dropRelease s c e).roster = s.roster := by
  unfold dropRelease
  dsimp only
  refine (endNotice_roster _ c e).trans (State.setCase_roster ?_)
  split
  · exact (s.caseAt c).withdraw_standing .release
  · rfl

theorem endRelease_roster (e : ReleaseEnd) : (endRelease s c e).1.roster = s.roster := by
  unfold endRelease
  dsimp only
  split
  · cases e with
    | done p => exact (completeWait_roster _ c).trans (dropRelease_roster s c _)
    | aborted reason => exact (failWait_roster _ c).trans (dropRelease_roster s c _)
  · exact dropRelease_roster s c e

theorem holdAt_roster (q : Release) (wasActive hold : Bool) (press : Nat) :
    (holdAt s c q wasActive hold press).roster = s.roster := by
  unfold holdAt
  dsimp only
  split
  · split
    · exact s.setRelease_roster c _
    · rfl
  · split
    · exact s.setRelease_roster c _
    · split
      · exact s.setRelease_roster c _
      · rfl
  · split
    · exact s.setRelease_roster c _
    · split
      · exact State.setCase_roster ((s.caseAt c).withdraw_standing .release)
      · rfl
  · split
    · exact s.setRelease_roster c _
    · rfl

theorem holdChange_roster (p : PanelIdx) (wasActive hold : Bool) (press : Nat) :
    (holdChange s c p wasActive hold press).roster = s.roster := by
  unfold holdChange
  split
  · split
    · exact holdAt_roster s c _ _ _ _
    · rfl
  · rfl

theorem settle_roster (q : Release) (n : CarRecord) : (settle s c q n).1.roster = s.roster := by
  unfold settle
  dsimp only
  split
  · exact endRelease_roster s c _
  · exact s.setRelease_roster c _

theorem reportBySub_roster (q : Release) (n : CarRecord) (moves : Bool) : (reportBySub s c q n moves).1.roster = s.roster := by
  unfold reportBySub
  dsimp only
  split
  · rfl
  · split
    · exact State.setCase_roster rfl
    · rfl
  · split
    · rfl
    · exact State.setCase_roster ((s.caseAt c).withdraw_standing .release)
  · split
    · exact settle_roster s c q n
    · rfl

theorem releaseReport_roster (moves : Bool) : (releaseReport s c moves).1.roster = s.roster := by
  unfold releaseReport
  split
  · split
    · exact endRelease_roster s c _
    · split
      · exact endRelease_roster s c _
      · exact reportBySub_roster s c _ _ _
  · rfl
  · rfl

theorem pulseDelivered_roster (sequence : Nat) : (pulseDelivered s c sequence).roster = s.roster := by
  unfold pulseDelivered
  dsimp only
  split
  · split
    · rw [State.notify_roster]
      exact State.setCase_roster rfl
    · rfl
  · rfl

theorem releaseCrewLeft_roster (p : PanelIdx) (k : CrewNo) : (releaseCrewLeft s c p k).1.roster = s.roster := by
  unfold releaseCrewLeft
  split
  · split
    · exact endRelease_roster s c _
    · rfl
  · rfl

theorem releaseReset_roster (l : LineId) : (releaseReset s c l).1.roster = s.roster := by
  unfold releaseReset
  split
  · exact endRelease_roster s c _
  · rfl

/-! ### The procedure engine (chapter 6) -/

theorem commandStep_roster (limit : Nat) (cmd : CarCommand) : (commandStep s c limit cmd).1.roster = s.roster :=
  State.setCase_roster rfl

theorem releaseStep_roster (begun : Nat) (sr : StepRecord) : (releaseStep s c begun sr).1.roster = s.roster := by
  unfold releaseStep
  split
  · exact State.setCase_roster rfl
  · exact endNotice_roster s c _

theorem act_roster (begun : Nat) (sr : StepRecord) (a : Action) : (act s c begun sr a).1.roster = s.roster := by
  cases a with
  | command cmd => exact commandStep_roster s c _ _
  | restore =>
    unfold act
    dsimp only
    split
    · exact commandStep_roster s c _ _
    · rfl
  | note code => exact s.notify_roster c _ _
  | bump => exact State.setCase_roster rfl
  | wait e =>
    unfold act
    dsimp only
    split
    · rfl
    · exact s.setProcedure_roster c _
  | test cond sense =>
    unfold act
    dsimp only
    split <;> rfl
  | setCount n => exact s.setProcedure_roster c _
  | count => exact s.setProcedure_roster c _
  | goto => rfl
  | release => exact releaseStep_roster s c _ _
  | ending cleared =>
    cases cleared
    · exact handover_roster s c _
    · exact s.setProcedure_roster c _

theorem goTo_roster (begun target : Nat) (common : Bool) : (goTo s c begun target common).1.roster = s.roster := by
  unfold goTo
  dsimp only
  split
  · split
    · exact handover_roster s c _
    · split
      · exact (handover_roster _ c _).trans (s.setProcedure_roster c _)
      · split
        · exact (handover_roster _ c _).trans (s.setProcedure_roster c _)
        · exact (act_roster _ c _ _ _).trans (s.setProcedure_roster c _)
  · rfl

theorem commandDelivered_roster (p : PendingCommand) : (commandDelivered s c p).1.roster = s.roster := by
  unfold commandDelivered
  split
  · split
    · exact completeWait_roster s c
    · rfl
  · split
    · exact pulseDelivered_roster s c _
    all_goals rfl

theorem commandLost_roster (owner : CommandOwner) : (commandLost s c owner).1.roster = s.roster := by
  unfold commandLost
  split
  · split
    · exact failWait_roster s c
    · rfl
  · rfl

theorem stepExpired_roster : (stepExpired s c).1.roster = s.roster := by
  have hwithdrawn : (s.setCase c ((s.caseAt c).withdraw .procedure)).roster = s.roster :=
    State.setCase_roster ((s.caseAt c).withdraw_standing .procedure)
  unfold stepExpired
  dsimp only
  split
  · rfl
  · exact failWait_roster s c
  · exact (failWait_roster _ c).trans hwithdrawn
  · split
    · exact (failWait_roster _ c).trans (dropRelease_roster s c _)
    · exact failWait_roster s c

end

end Sys2Proof.Machine
end

section
/-! SUPPORT. The roster through the arbiter's offers and crew requests (chapter 5). -/

namespace Sys2Proof.Machine

variable {s : State} {c : CaseNo} {k : CrewNo}

/-! ### What an offer does to the roster (R95 to R98) -/

/-- The crew's offer, in the roster. -/
theorem State.roster_offer {x : Offer} (h : (s.crew k).dyn.offer = some x) : s.roster.offer k = some x.case :=
  congrArg (Option.map Offer.case) h

theorem State.clearOffer_deals (s : State) (k : CrewNo) :
    (s.clearOffer k).roster = s.roster.deal k (s.roster.held k) none := s.setCrewDyn_deals k _

/-- The choice is an OPEN case that is eligible for the crew (R94). -/
theorem State.choice_eligible (h : s.choice k = some c) : s.isOpen c = true ∧ s.eligible k c = true := by
  have hmem := pickBest_mem h
  simpa [State.openRecords, and_comm] using hmem

/-- What the choice finds is WAITING, and the crew has room for it (R94, R101). -/
theorem State.choice_waiting (h : s.choice k = some c) : s.roster.standing c = .waiting ∧ (s.roster.held k).length < 3 := by
  obtain ⟨hopen, heligible⟩ := State.choice_eligible h
  simp only [State.eligible, Bool.and_eq_true, beq_iff_eq, decide_eq_true_eq] at heligible
  obtain ⟨⟨⟨⟨hwaiting, -⟩, -⟩, hroom⟩, -⟩ := heligible
  refine ⟨?_, hroom⟩
  simp only [State.roster, Case.standing, beq_iff_eq.mp hopen, if_true, hwaiting]

/-- An offered case is OPEN and names the crew. -/
theorem Roster.Sound.offered_record (h : s.roster.Sound) {x : Offer} (hx : (s.crew k).dyn.offer = some x) :
    (s.caseAt x.case).record = .opened ∧ (s.caseAt x.case).crew = some k := by
  obtain ⟨hopen, -, hcrew⟩ := Case.standing_offered_iff.mp (h.offered k _ (State.roster_offer hx))
  exact ⟨hopen, hcrew⟩

theorem Roster.Sound.makeOffer (h : s.roster.Sound) (hnone : (s.crew k).dyn.offer = none) (hc : s.choice k = some c) :
    (s.makeOffer k c).roster.Sound := by
  obtain ⟨hwaiting, hroom⟩ := State.choice_waiting hc
  have hopen : (s.caseAt c).record = .opened := beq_iff_eq.mp (State.choice_eligible hc).1
  have hstanding : ({ s.caseAt c with dispatch := .offered, crew := some k } : Case).standing = .offered (some k) :=
    Case.standing_offered_iff.mpr ⟨hopen, rfl, rfl⟩
  refine (h.offers hwaiting (congrArg (Option.map Offer.case) hnone) hroom).of_eq ?_
  rw [State.makeOffer, State.setCrewDyn_deals, State.setCase_stands, hstanding]
  rfl

/-- An accepted case enters the held list (R96, R101); the rotation order is no part of the roster. -/
theorem Roster.Sound.assign {t : State} (h : s.roster.Sound) {x : Offer} (hx : (s.crew k).dyn.offer = some x)
    (hcase : t.caseAt x.case = s.caseAt x.case) (ht : t.roster = (s.clearOffer k).roster) : (t.assign k x.case).roster.Sound := by
  obtain ⟨hopen, hcrew⟩ := h.offered_record hx
  have hstanding (at_ : Option (BitVec 32)) (w : Window) :
      ({ s.caseAt x.case with dispatch := .assigned, acceptedAt := at_, window := w } : Case).standing = .held (some k) :=
    Case.standing_held_iff.mpr ⟨hopen, rfl, hcrew⟩
  have hheld : (t.crew k).dyn.held = s.roster.held k := by
    refine (congrArg (Roster.held · k) ht).trans ?_
    rw [State.clearOffer_deals]; exact Function.update_self ..
  have hoffer : (t.crew k).dyn.offer.map Offer.case = none := by
    refine (congrArg (Roster.offer · k) ht).trans ?_
    rw [State.clearOffer_deals]; exact Function.update_self ..
  refine (h.accepts (State.roster_offer hx)).of_eq ?_
  rw [State.assign]
  dsimp only
  rw [State.setCrewDyn_deals, State.setCase_stands, ht, State.clearOffer_deals, hcase, hstanding, State.setCase_crew, hoffer, hheld]
  simp only [Roster.deal, Roster.stand, Function.update_idem]

/-- An offer given up: its case returns to WAITING (R97, R98). -/
theorem Roster.Sound.declineOffer (h : s.roster.Sound) {x : Offer} (hx : (s.crew k).dyn.offer = some x) :
    (s.declineOffer k x.case).roster.Sound := by
  have hstanding (declined : List CrewNo) :
      ({ s.caseAt x.case with dispatch := .waiting, crew := none, declined := declined } : Case).standing = .waiting := by
    simp only [Case.standing, (h.offered_record hx).1, if_true]
  refine (h.returns (State.roster_offer hx)).of_eq ?_
  rw [State.declineOffer, State.setCase_stands, State.clearOffer_deals, State.clearOffer, State.setCrewDyn_caseAt, hstanding]
  rfl

/-- A case that is offered to a crew leaves the roster the same whether its offer is cleared before or not. -/
theorem Roster.without_deal {a : Roster} (h : a.offer k = some c) : (a.deal k (a.held k) none).without c = a.without c := by
  have hoffer : (fun j => (Function.update a.offer k none j).filter (· != c)) = fun j => (a.offer j).filter (· != c) :=
    funext fun j => by
      by_cases hj : j = k
      · subst hj; simp [h, Option.filter]
      · rw [Function.update_of_ne hj]
  simp only [Roster.without, Roster.deal, Function.update_eq_self]
  exact congrArg _ hoffer

theorem givenUp_roster (s : State) (k : CrewNo) (c : CaseNo) (kind : NoticeKind) : (givenUp s k c kind).roster = s.roster :=
  (State.call_roster _ c).trans (s.notify_roster c _ _)

theorem Roster.Sound.offerExpired (h : s.roster.Sound) {x : Offer} (hx : (s.crew k).dyn.offer = some x) :
    (offerExpired s k x.case).roster.Sound := (h.declineOffer hx).of_eq (givenUp_roster _ k _ _)

theorem becomeLate_roster (s : State) (c : CaseNo) : (becomeLate s c).roster = s.roster :=
  State.setCase_notify_roster (r := { s.caseAt c with urgency := improve (s.caseAt c).urgency, late := true }) rfl _ _

/-! ### Crew requests (R89 to R106) -/

section

variable {reply : Reply} (hreply : ∀ t code named info, (reply t code named info).roster = t.roster)
include hreply

theorem dutyOffRequest_roster (s : State) (k : CrewNo) : (dutyOffRequest s k reply).1.roster = s.roster := by
  unfold dutyOffRequest
  dsimp only
  split
  · exact (hreply _ _ _ _).trans (State.setCrewDyn_roster rfl rfl)
  · exact hreply _ _ _ _

theorem noOfferReply_roster (s : State) (k : CrewNo) : (noOfferReply s k reply).1.roster = s.roster := by
  unfold noOfferReply
  split <;> exact hreply _ _ _ _

theorem Roster.Sound.jobRequest (h : s.roster.Sound) (k : CrewNo) : (jobRequest s k reply).1.roster.Sound := by
  unfold Machine.jobRequest
  split
  · exact h.of_eq (hreply _ _ _ _)
  · next hnone =>
    split
    · next c hc => exact (h.makeOffer hnone hc).of_eq ((State.notify_roster _ c _ _).trans (hreply _ _ _ _))
    · exact h.of_eq (hreply _ _ _ _)

theorem Roster.Sound.acceptOffer (h : s.roster.Sound) {x : Offer} (hx : (s.crew k).dyn.offer = some x) :
    (acceptOffer s k x.case reply).1.roster.Sound := by
  unfold Machine.acceptOffer
  dsimp only
  generalize hcleared : (if (s.clearOffer k).settings.tieMode = .rotate then
    (s.clearOffer k).toBottom ((s.clearOffer k).caseAt x.case).lift else s.clearOffer k) = t
  have ht : t.roster = (s.clearOffer k).roster := by
    rw [← hcleared]
    split <;> rfl
  have hcase : t.caseAt x.case = s.caseAt x.case := by
    rw [← hcleared]
    split <;> rfl
  split
  · generalize hu : reply t .ok (some (t.serialOf x.case)) none = u
    have hroster : u.roster = s.roster.deal k (s.roster.held k) none := by
      rw [← hu, hreply, ht, State.clearOffer_deals]
    have hoffered : u.roster.standing x.case = .offered (some k) := by
      rw [hroster]; exact h.offered k _ (State.roster_offer hx)
    have hopen : u.isOpen x.case = true := beq_iff_eq.mpr (Case.standing_offered_iff.mp hoffered).1
    refine closeCase_sound ((h.without x.case).of_eq ?_) hopen _
    rw [hroster, Roster.without_deal (State.roster_offer hx)]
  · have haccepted := (h.assign hx hcase ht).of_eq (hreply (t.assign k x.case) .ok (some ((t.assign k x.case).serialOf x.case)) none)
    split
    · exact haccepted.of_eq ((becomeLate_roster _ _).trans (State.notify_roster _ _ _ _))
    · exact haccepted.of_eq (State.notify_roster _ _ _ _)

theorem Roster.Sound.acceptRequest (h : s.roster.Sound) (k : CrewNo) (serial : Option (BitVec 16)) :
    (acceptRequest s k serial reply).1.roster.Sound := by
  unfold Machine.acceptRequest
  split
  · next x hx =>
    split
    · exact h.acceptOffer hreply hx
    · exact h.of_eq (hreply _ _ _ _)
  · exact h.of_eq (noOfferReply_roster hreply s k)

theorem Roster.Sound.declineRequest (h : s.roster.Sound) (k : CrewNo) (serial : Option (BitVec 16)) :
    (declineRequest s k serial reply).1.roster.Sound := by
  unfold Machine.declineRequest
  split
  · next x hx =>
    split
    · exact (h.declineOffer hx).of_eq ((givenUp_roster _ k _ _).trans (hreply _ _ _ _))
    · exact h.of_eq (hreply _ _ _ _)
  · exact h.of_eq (noOfferReply_roster hreply s k)

/-- An ASSIGNED case that is arrived at stays held (R103). -/
theorem judgeArrival_roster (hc : (s.caseAt c).dispatch = .assigned) (k : CrewNo) :
    (judgeArrival s k c reply).1.roster = s.roster := by
  have hstanding (w : Window) : ({ s.caseAt c with dispatch := .onSite, window := w } : Case).standing = (s.caseAt c).standing := by
    simp only [Case.standing, hc]
  unfold judgeArrival
  dsimp only
  split
  · exact ((State.notify_roster _ c _ _).trans (hreply _ _ _ _)).trans (State.setCase_roster (hstanding _))
  · exact ((State.notify_roster _ c _ _).trans (hreply _ _ _ _)).trans (State.setCrewDyn_roster rfl rfl)

theorem arrivedRequest_roster (s : State) (k : CrewNo) (serial : Option (BitVec 16)) :
    (arrivedRequest s k serial reply).1.roster = s.roster := by
  unfold arrivedRequest
  dsimp only
  split
  · split
    · split
      · next hc => exact judgeArrival_roster hreply (beq_iff_eq.mp hc) k
      · exact hreply _ _ _ _
    · exact hreply _ _ _ _
  · split
    · exact hreply _ _ _ _
    · split
      · next c hc => exact judgeArrival_roster hreply (beq_iff_eq.mp (List.find?_some (p := fun c => (s.caseAt c).dispatch == .assigned) hc)) k
      · exact hreply _ _ _ _

theorem voiceRequest_roster (s : State) (k : CrewNo) (serial : Option (BitVec 16)) :
    (voiceRequest s k serial reply).1.roster = s.roster := by
  unfold voiceRequest
  split <;> exact hreply _ _ _ _

theorem standDownRequest_roster (s : State) (k : CrewNo) (serial : Option (BitVec 16)) :
    (standDownRequest s k serial reply).1.roster = s.roster := by
  unfold standDownRequest
  split <;> exact hreply _ _ _ _

theorem Roster.Sound.requestKind (h : s.roster.Sound) (k : CrewNo) (request : CrewRequest) (serial : Option (BitVec 16)) :
    (requestKind s k request serial reply).1.roster.Sound := by
  have hduty (d : CrewDynamic) (hheld : d.held = (s.crew k).dyn.held) (hoffer : d.offer = (s.crew k).dyn.offer) :
      (reply (s.setCrewDyn k d) .ok none none).roster.Sound :=
    h.of_eq ((hreply _ _ _ _).trans (State.setCrewDyn_roster hheld (congrArg _ hoffer)))
  cases request with
  | dutyOn => exact hduty _ rfl rfl
  | dutyOff => exact h.of_eq (dutyOffRequest_roster hreply s k)
  | sweepOn => exact hduty _ rfl rfl
  | sweepOff => exact hduty _ rfl rfl
  | job => exact h.jobRequest hreply k
  | accept => exact h.acceptRequest hreply k serial
  | decline => exact h.declineRequest hreply k serial
  | arrived => exact h.of_eq (arrivedRequest_roster hreply s k serial)
  | voice => exact h.of_eq (voiceRequest_roster hreply s k serial)
  | standDown => exact h.of_eq (standDownRequest_roster hreply s k serial)

end

theorem Roster.Sound.crewRequest (h : s.roster.Sound) (route : Route) (tag : Nat) (request : Option CrewRequest)
    (serial : Option (BitVec 16)) : (crewRequest s route tag request serial).1.roster.Sound := by
  unfold Machine.crewRequest
  split
  · exact h.of_eq (s.respond_roster _ _ _ _ _)
  · next k _ =>
    dsimp only
    split
    · exact h.of_eq (s.reply_roster _ _ _ _ _ _)
    · split
      · exact h.of_eq (s.reply_roster _ _ _ _ _ _)
      · exact h.requestKind (fun t code named info => t.reply_roster k route code named info tag) k _ serial

end Sys2Proof.Machine
end

section
/-! SUPPORT. The roster through the panels, the lines and the trunk port (chapters 1, 3, 5, 9), and through every job. -/

namespace Sys2Proof.Machine

variable (s : State)

/-! ### Panels (R9, R10, R88) -/

theorem loginArrival_roster (p : PanelIdx) (k : CrewNo) : (loginArrival s p k).1.roster = s.roster := by
  rw [loginArrival_eq]
  split
  · next c hc =>
    obtain ⟨hassigned, -⟩ := Bool.and_eq_true_iff.mp (List.find?_some
      (p := fun c => (s.caseAt c).dispatch == .assigned && lineOf (s.caseAt c).lift == panelLine p) hc)
    exact judgeArrival_roster (reply := fun t _ _ _ => t) (fun _ _ _ _ => rfl) (beq_iff_eq.mp hassigned) k
  · rfl

theorem crewLogin_roster (p : PanelIdx) (tag : Nat) : (crewLogin s p tag).1.roster = s.roster := by
  unfold crewLogin
  split
  · exact State.setCrewDyn_roster rfl rfl
  · rfl

theorem crewLeft_roster (p : PanelIdx) (tag : Nat) : (crewLeft s p tag).1.roster = s.roster := by
  unfold crewLeft
  split
  · dsimp only
    split
    · exact State.setCrewDyn_roster rfl rfl
    · rfl
  · rfl

theorem panelLogged_roster (p : PanelIdx) (logged : Option Nat) : (panelLogged s p logged).1.roster = s.roster := by
  rw [panelLogged_eq]; rfl

theorem Roster.Sound.panelRequest {s : State} (h : s.roster.Sound) (p : PanelIdx) (toggle : Bool) (request : Option CrewRequest)
    (serial : Option (BitVec 16)) : (panelRequest s p toggle request serial).1.roster.Sound := by
  unfold Machine.panelRequest
  dsimp only
  split
  · split
    · exact h
    · exact Roster.Sound.crewRequest (s := s.setPanelDyn p _) h _ _ _ _
  · exact h

/-! ### Slot outcomes (R48, R52, R54) -/

theorem sharedEval_roster (i : LiftIdx) : (sharedEval s i).1.roster = s.roster := by
  unfold sharedEval
  dsimp only
  split <;> rfl

theorem enterLift_roster (i : LiftIdx) (st : LiftState) : (enterLift s i st).1.roster = s.roster := by
  unfold enterLift
  split <;> rfl

theorem resetLift_roster (i : LiftIdx) : (resetLift s i).1.roster = s.roster := by
  unfold resetLift
  dsimp only
  split <;> rfl

theorem summaryAfterReport_roster (i : LiftIdx) (before : LiftState) (previous : Option CarRecord) :
    (summaryAfterReport s i before previous).roster = s.roster := by
  unfold summaryAfterReport
  dsimp only
  split
  · exact s.offerSummary_roster _
  · split
    · exact s.offerSummary_roster _
    · rfl
  · rfl

theorem summaryAfterChange_roster (i : LiftIdx) : (summaryAfterChange s i).roster = s.roster := by
  rw [(summaryAfterChange_rest s i).1]; rfl

/-! ### START, STOP and polling (R6, R11, R13) -/

theorem startLine_roster (l : LineId) (wake : Option WakeSource) : (startLine s l wake).1.roster = s.roster := by
  unfold startLine
  dsimp only
  split
  · exact State.setCase_roster (s := s.setLine l (s.startedLine l wake)) rfl
  · rfl

theorem stopLine_roster (l : LineId) : (stopLine s l).1.roster = s.roster := by
  unfold stopLine
  dsimp only
  split <;> rfl

theorem lineWork_roster (l : LineId) : (lineWork s l).1.roster = s.roster := by
  rcases lineWork_cases s l with ⟨_, h⟩ | ⟨_, h⟩ <;> rw [h]

theorem advance_roster (l : LineId) (slot : Slot) : (advance s l slot).1.roster = s.roster := by
  unfold advance
  dsimp only
  split
  · split <;> rfl
  · rfl

/-! ### Transmitters and owed notices (R149, R154, R155) -/

theorem serveOwed_roster : (serveOwed s).1.roster = s.roster := by
  unfold serveOwed
  split
  · rfl
  · next c _ =>
    split
    · exact State.setCase_roster (s := s.appendOwn _) rfl
    · next hclosing =>
      refine State.setCase_roster (s := s.appendOwn _) (Eq.symm (if_neg fun hopen => ?_))
      exact RecordState.noConfusion (hclosing.symm.trans hopen)
    · rfl

theorem kickNear_roster : (kickNear s).1.roster = s.roster := by
  have hsend : ∀ f rest turn, (sendOwn s f rest turn).1.roster = s.roster := fun f rest turn =>
    serveOwed_roster { s with trunk := { s.trunk with own := rest, nearTx := some (.own f), turn := turn } }
  unfold kickNear
  dsimp only
  split
  · split
    · rfl
    · rfl
    · exact hsend _ _ _
    · split
      · exact hsend _ _ _
      · split
        · rfl
        · exact hsend _ _ _
  · rfl

theorem kick_roster : (kick s).1.roster = s.roster := by
  refine (kickNear_roster _).trans ?_
  unfold kickFar
  dsimp only
  split
  · split <;> rfl
  · rfl

/-! ### Every job, and a handling as a whole -/

theorem Roster.Sound.ite {s : State} {b : Prop} [Decidable b] {w : Work} (h : s.roster.Sound) (hw : w.1.roster = s.roster) :
    (if b then w else (s, [])).1.roster.Sound := by
  split
  · exact h.of_eq hw
  · exact h

/-- Every job keeps the roster sound: all but openings, closes and crew requests leave it as it is. -/
theorem Roster.Sound.perform {s : State} (h : s.roster.Sound) (j : Job) : (perform s j).1.roster.Sound := by
  cases j with
  | start l wake => exact h.of_eq (startLine_roster s l wake)
  | stop l => exact h.of_eq (stopLine_roster s l)
  | lineWork l => exact h.of_eq (lineWork_roster s l)
  | advance l slot => exact h.of_eq (advance_roster s l slot)
  | delivered c serial p => exact h.ite (commandDelivered_roster s c p)
  | lost c serial owner => exact h.ite (commandLost_roster s c owner)
  | takenReport i r => exact h
  | silentSlot i => exact h
  | truthTold i => exact h.of_eq (truthTold_roster s i)
  | raise i causes => exact h.raise causes
  | releaseReport c serial moves => exact h.ite (releaseReport_roster s c moves)
  | event c serial e => exact h.ite (caseEvent_roster s c e)
  | occupancy c serial => exact h.ite (w := (occupancyChange s c, [])) (occupancyChange_roster s c)
  | presses c serial n => exact h.ite (w := (addPresses s c n, [])) (State.setCase_roster rfl)
  | summaryReport i before previous => exact h.of_eq (summaryAfterReport_roster s i before previous)
  | summaryChange i => exact h.of_eq (summaryAfterChange_roster s i)
  | go c begun target common => exact h.of_eq (goTo_roster s c begun target common)
  | handoverTest c => exact h.of_eq (handoverTest_roster s c)
  | clearing c => exact h.ite (clearCase_roster s c .procedure)
  | close c reason => exact h.closeCase reason
  | arbitrate => exact h.arbitrate
  | panelLogged p logged => exact h.of_eq (panelLogged_roster s p logged)
  | panelRequest p toggle request serial => exact h.panelRequest p toggle request serial
  | panelHold p hold press => exact h
  | panelInputs p inputs => exact h
  | panelSilent p => exact h
  | clearPanel p => exact h
  | crewLeft p tag => exact h.of_eq (crewLeft_roster s p tag)
  | crewLogin p tag => exact h.of_eq (crewLogin_roster s p tag)
  | loginArrival p k => exact h.of_eq (loginArrival_roster s p k)
  | releaseCrewLeft c p k => exact h.of_eq (releaseCrewLeft_roster s c p k)
  | holdChange c p was hold press => exact h.of_eq (holdChange_roster s c p was hold press)
  | sharedEval i => exact h.of_eq (sharedEval_roster s i)
  | releaseReset c l => exact h.of_eq (releaseReset_roster s c l)
  | resetLift i => exact h.of_eq (resetLift_roster s i)
  | enterLift i st => exact h.of_eq (enterLift_roster s i st)
  | restartLine l => exact h

/-- A handling keeps the roster sound where its first work leaves it so. -/
theorem Roster.Sound.finish {t : State} {w : Work} (hw : w.1.roster.Sound) (h : finish w = .next t) : t.roster.Sound :=
  finish_keeps (fun u => u.roster.Sound) (fun u hu => hu.of_eq (kick_roster u)) (fun _ j hu => hu.perform j) w t hw h

end Sys2Proof.Machine
end

section
/-! SUPPORT. The roster through the requests (chapter 10), the frames and the ticks. -/

namespace Sys2Proof.Machine

section

variable (s : State) (o : Origin)

/-! ### Requests that leave the roster alone (R161 to R169) -/

@[simp] theorem answered_roster (kind : Byte) (code : AnswerCode) : (answered s o kind code).1.roster = s.roster :=
  s.answer_roster o kind code .none

@[simp] theorem stored_roster (clamped : Bool) (echo : AnswerData) : (stored s o clamped echo).roster = s.roster := by
  obtain ⟨t, ht⟩ := stored_trunk s o clamped echo
  rw [ht]; rfl

theorem readRequest_roster (table index : Nat) : (readRequest s o table index).1.roster = s.roster := by
  unfold readRequest
  split
  · exact answered_roster s o _ _
  · split
    · exact s.answer_roster o _ _ _
    · exact answered_roster s o _ _

theorem writeLiftRequest_roster (index : Nat) (w : LiftWrite) : (writeLiftRequest s o index w).1.roster = s.roster := by
  unfold writeLiftRequest
  split
  · exact answered_roster s o _ _
  · split
    · exact answered_roster s o _ _
    · next i _ =>
      split
      · exact answered_roster s o _ _
      · split
        · exact answered_roster s o _ _
        · next g _ =>
          split
          · exact answered_roster s o _ _
          · obtain ⟨d, hd, _⟩ := applyLift_cases (stored s o (w.clamps g) (.liftEcho g)) i g
            rw [hd]
            exact stored_roster s o _ _

theorem writePanelRequest_roster (index : Nat) (w : PanelWrite) : (writePanelRequest s o index w).1.roster = s.roster := by
  unfold writePanelRequest
  split
  · exact answered_roster s o _ _
  · next p _ =>
    split
    · exact answered_roster s o _ _
    · split
      · exact answered_roster s o _ _
      · next g _ =>
        obtain ⟨r, hr, _⟩ := applyPanel_cases (s.answer o kindWrite .ok .none) p g
        rw [hr]
        exact s.answer_roster o _ _ _

/-- A crew write changes neither the held list nor the offer (R87). -/
theorem applyCrew_roster (k : CrewNo) (g : CrewConfig) : (applyCrew s k g).roster = s.roster := by
  unfold applyCrew
  refine State.setCrew_roster ?_ ?_ <;> dsimp only
  · split <;> [rfl; rfl; rfl; (split <;> rfl)]
  · split <;> [rfl; rfl; rfl; (split <;> rfl)]

theorem writeCrewRequest_roster (index : Nat) (w : CrewWrite) : (writeCrewRequest s o index w).1.roster = s.roster := by
  unfold writeCrewRequest
  split
  · exact answered_roster s o _ _
  · split
    · exact answered_roster s o _ _
    · split
      · exact answered_roster s o _ _
      · split
        · exact answered_roster s o _ _
        · split
          · exact answered_roster s o _ _
          · exact (applyCrew_roster _ _ _).trans (stored_roster s o _ _)

theorem writeClassRequest_roster (index : Nat) (w : ClassWrite) : (writeClassRequest s o index w).1.roster = s.roster := by
  unfold writeClassRequest
  split
  · exact answered_roster s o _ _
  · split
    · exact answered_roster s o _ _
    · split
      · exact answered_roster s o _ _
      · exact stored_roster _ o _ _

theorem writeTravelRequest_roster (index lo hi : Nat) : (writeTravelRequest s o index lo hi).1.roster = s.roster := by
  unfold writeTravelRequest
  split
  · exact answered_roster s o _ _
  · exact stored_roster _ o _ _

theorem writeStepRequest_roster (index : Nat) (w : StepWrite) : (writeStepRequest s o index w).1.roster = s.roster := by
  unfold writeStepRequest
  split
  · exact answered_roster s o _ _
  · split
    · exact answered_roster s o _ _
    · exact State.answer_roster _ o _ _ _

theorem writeSettingsRequest_roster (index : Nat) (w : SettingsWrite) :
    (writeSettingsRequest s o index w).1.roster = s.roster := by
  unfold writeSettingsRequest
  split
  · exact answered_roster s o _ _
  · split
    · exact answered_roster s o _ _
    · exact stored_roster _ o _ _

theorem setForwardRequest_roster (index mode : Nat) : (setForwardRequest s o index mode).1.roster = s.roster := by
  unfold setForwardRequest
  split <;> exact answered_roster _ o _ _

theorem lineEnableRequest_roster (line : Nat) : (lineEnableRequest s o line).1.roster = s.roster := by
  unfold lineEnableRequest
  split
  · exact answered_roster s o _ _
  · exact s.answer_roster o _ _ _

theorem lineDisableRequest_roster (line : Nat) : (lineDisableRequest s o line).1.roster = s.roster := by
  unfold lineDisableRequest
  split
  · exact answered_roster s o _ _
  · split
    · exact answered_roster s o _ _
    · split
      · exact answered_roster s o _ _
      · exact s.answer_roster o _ _ _

theorem dropPending_roster (l : LineId) : (dropPending s l).roster = s.roster := by
  refine State.roster_congr (fun c => ?_) (fun _ => rfl) (fun _ => rfl)
  rw [show (dropPending s l).caseAt c = _ from Vector.getElem_map _ c.isLt]
  split <;> rfl

theorem lineResetRequest_roster (line : Nat) : (lineResetRequest s o line).1.roster = s.roster := by
  unfold lineResetRequest
  split
  · exact answered_roster s o _ _
  · next l _ =>
    split
    · exact answered_roster s o _ _
    · exact (dropPending_roster (abandonCycle _ l) l).trans (s.answer_roster o _ _ _)

theorem setBottomRequest_roster (index : Nat) : (setBottomRequest s o index).1.roster = s.roster := by
  unfold setBottomRequest
  split <;> exact answered_roster _ o _ _

theorem surveyRequest_roster (crew : Nat) : (surveyRequest s o crew).1.roster = s.roster := by
  unfold surveyRequest
  split
  · exact answered_roster s o _ _
  · exact s.answer_roster o _ _ _

theorem readCaseRequest_roster (record : Nat) : (readCaseRequest s o record).1.roster = s.roster := by
  unfold readCaseRequest
  split
  · exact answered_roster s o _ _
  · exact s.answer_roster o _ _ _

end

/-! ### Requests that open or close cases, and the warm restart (R165 to R171) -/

section

variable {s : State}

theorem Roster.Sound.caseOpenRequest (h : s.roster.Sound) (o : Origin) (identity : Nat) :
    (caseOpenRequest s o identity).1.roster.Sound := by
  unfold Machine.caseOpenRequest
  split
  · exact h.of_eq (answered_roster s o _ _)
  · split
    · exact h.of_eq (answered_roster s o _ _)
    · exact (h.of_eq (s.answer_roster o _ _ _)).raise _

theorem Roster.Sound.caseCloseRequest (h : s.roster.Sound) (o : Origin) (serial : BitVec 16) :
    (caseCloseRequest s o serial).1.roster.Sound := by
  unfold Machine.caseCloseRequest
  split
  · exact h.of_eq (answered_roster s o _ _)
  · exact (h.of_eq (s.answer_roster o _ _ _)).closeCase _

/-- A state whose records are all FREE and whose crews hold nothing. -/
theorem Roster.sound_of_free (hcase : ∀ c, s.caseAt c = .free) (hheld : ∀ k, (s.crew k).dyn.held = [])
    (hoffer : ∀ k, (s.crew k).dyn.offer = none) : s.roster.Sound :=
  .empty (fun c => congrArg Case.standing (hcase c)) hheld fun k => congrArg (Option.map Offer.case) (hoffer k)

/-- A warm restart leaves no case and no crew with one (R81, R84). -/
theorem restart_sound (s : State) (o : Origin) : (restart s o).1.roster.Sound := by
  have hroster : (restart s o).1.roster = s.restarted.roster := by simp [restart]
  have hcrew (k : CrewNo) : s.restarted.crew k = (s.crew k).restarted := Vector.getElem_map _ k.isLt
  refine Roster.Sound.of_eq (Roster.sound_of_free (s := s.restarted) (fun c => Vector.getElem_replicate c.isLt) ?_ ?_) hroster
  · exact fun k => by rw [hcrew]; rfl
  · exact fun k => by rw [hcrew]; rfl

theorem Roster.Sound.warmRestartRequest (h : s.roster.Sound) (o : Origin) (force : Nat) :
    (warmRestartRequest s o force).1.roster.Sound := by
  unfold Machine.warmRestartRequest
  split
  · exact h.of_eq (answered_roster s o _ _)
  · split
    · exact h.of_eq (answered_roster s o _ _)
    · exact restart_sound s o

theorem Roster.Sound.manage (h : s.roster.Sound) (o : Origin) (r : MgmtRequest) : (manage s o r).1.roster.Sound := by
  cases r with
  | read table index => exact h.of_eq (readRequest_roster s o table index)
  | writeLift index w => exact h.of_eq (writeLiftRequest_roster s o index w)
  | writePanel index w => exact h.of_eq (writePanelRequest_roster s o index w)
  | writeCrew index w => exact h.of_eq (writeCrewRequest_roster s o index w)
  | writeClass index w => exact h.of_eq (writeClassRequest_roster s o index w)
  | writeTravel index lo hi => exact h.of_eq (writeTravelRequest_roster s o index lo hi)
  | writeStep index w => exact h.of_eq (writeStepRequest_roster s o index w)
  | writeSettings index w => exact h.of_eq (writeSettingsRequest_roster s o index w)
  | setForward index mode => exact h.of_eq (setForwardRequest_roster s o index mode)
  | lineEnable line => exact h.of_eq (lineEnableRequest_roster s o line)
  | lineDisable line => exact h.of_eq (lineDisableRequest_roster s o line)
  | lineReset line => exact h.of_eq (lineResetRequest_roster s o line)
  | setBottom index => exact h.of_eq (setBottomRequest_roster s o index)
  | survey crew => exact h.of_eq (surveyRequest_roster s o crew)
  | caseOpen identity => exact h.caseOpenRequest o identity
  | caseClose serial => exact h.caseCloseRequest o serial
  | readCase record => exact h.of_eq (readCaseRequest_roster s o record)
  | readCounters => exact h.of_eq (s.answer_roster o _ _ _)
  | warmRestart force => exact h.warmRestartRequest o force

/-! ### Frames (R89, R147 to R150, R156) -/

@[simp] theorem answerControl_roster (s : State) (o : Origin) (code : AnswerCode) : (answerControl s o code).roster = s.roster :=
  State.answer_roster _ _ _ _ _

theorem controlRequest_roster (s : State) (o : Origin) (identity : Nat) (cmd : CarCommand) :
    (controlRequest s o identity cmd).1.roster = s.roster := by
  unfold controlRequest
  dsimp only
  split <;> exact answerControl_roster s o _

theorem Roster.Sound.takeFrame (h : s.roster.Sound) (f : TrunkFrame) : (takeFrame s f).1.roster.Sound := by
  unfold Machine.takeFrame
  dsimp only
  split
  · unfold mgmtFrame
    split
    · exact h.manage _ _
    · split <;> exact h.of_eq (answered_roster _ _ _ _)
  · unfold controlFrame
    split
    · exact h.of_eq (controlRequest_roster s _ _ _)
    · exact h.of_eq (answerControl_roster s _ _)
  · unfold crewFrame
    split
    · exact h.crewRequest _ _ _ _
    · exact h.of_eq (State.offerAnswer_roster _ _ _)
  · exact h

theorem offerForward_roster (s : State) (bytes : List Byte) : (offerForward s bytes).roster = s.roster := by
  unfold offerForward
  dsimp only
  split <;> rfl

theorem Roster.Sound.nearFrame (h : s.roster.Sound) (bytes : List Byte) : (nearFrame s bytes).1.roster.Sound := by
  have hforward := h.of_eq (offerForward_roster s bytes)
  unfold Machine.nearFrame
  split
  · split
    · exact h
    · split
      · exact h.takeFrame _
      · split
        · exact hforward.takeFrame _
        · exact hforward
  · exact h

theorem farFrame_roster (s : State) (bytes : List Byte) : (farFrame s bytes).roster = s.roster := by
  unfold farFrame
  split
  · split
    · rfl
    · unfold offerRelay
      dsimp only
      split <;> rfl
  · rfl

theorem setFar_roster (s : State) (up : Bool) : (setFar s up).roster = s.roster := by
  unfold setFar
  split
  · rfl
  · split <;> rfl

/-! ### Windows and ticks (R7, R14, R142) -/

theorem closeWindow_roster (s : State) (l : LineId) (slot : Slot) (a : SlotAnswer) :
    (closeWindow s l slot a).1.roster = s.roster := by
  unfold closeWindow
  dsimp only
  split <;> rfl

theorem collide_roster (s : State) (l : LineId) : (collide s l).roster = s.roster := by
  unfold collide
  dsimp only
  split <;> rfl

/-- An offer's timer counts on, its case being the same (R145). -/
theorem State.tick_roster (s : State) : s.tick.roster = s.roster := by
  refine State.roster_congr (fun c => ?_) (fun k => ?_) (fun k => ?_)
  · rw [State.tick_caseAt]; rfl
  · rw [State.tick_crew]; rfl
  · rw [State.tick_crew, Crew.tick, Option.map_map]; rfl

theorem State.carry_roster (s : State) : s.carry.roster = s.roster := by
  rcases s.carry_cases with ⟨_, h⟩ | ⟨_, h⟩ <;> rw [h]
  · rfl
  · exact s.tick_roster

theorem State.clockPeriod_roster (s : State) : s.clockPeriod.roster = s.roster := by
  rcases s.clockPeriod_cases with ⟨_, h⟩ | ⟨_, h⟩ <;> rw [h]
  · rfl
  · exact s.carry_roster

end

end Sys2Proof.Machine
end

section
/-! SUPPORT. What every step keeps of offers, held lists and dispatch states (R95, R101). -/

namespace Sys2Proof.Machine

section

variable {s t : State}

theorem Roster.Sound.of_next {u : State} (h : s.roster.Sound)
    (hu : (Host.Outcome.next u : Host.Outcome State Fault Refusal) = .next t) (hroster : u.roster = s.roster) : t.roster.Sound := by
  obtain rfl := Host.Outcome.next.inj hu
  exact h.of_eq hroster

/-- An expiry that acts only where its timer is due (R145, log 1). -/
theorem Roster.Sound.of_expiry {b : Prop} [Decidable b] {w : Work} (h : s.roster.Sound) (hw : w.1.roster.Sound)
    (ht : (if b then Machine.finish w else .next s) = .next t) : t.roster.Sound := by
  split at ht
  · exact hw.finish ht
  · exact h.of_next ht rfl

theorem Roster.Sound.exec_command (h : s.roster.Sound) {o : Origin} {r : MgmtRequest} (ht : exec (r.command o) s = .next t) :
    t.roster.Sound := (h.manage o r).finish (Machine.exec_command s o r ▸ ht)

theorem Roster.Sound.exec_control (h : s.roster.Sound) {o : Origin} {identity : Nat} {cmd : CarCommand}
    (ht : Machine.finish (controlRequest s o identity cmd) = .next t) : t.roster.Sound :=
  (h.of_eq (controlRequest_roster s o identity cmd)).finish ht

theorem Roster.Sound.exec_crew (h : s.roster.Sound) {route : Route} {tag : Nat} {request : Option CrewRequest}
    {serial : Option (BitVec 16)} (ht : Machine.finish (Machine.crewRequest s route tag request serial) = .next t) :
    t.roster.Sound := (h.crewRequest route tag request serial).finish ht

theorem windowTimer_roster (s : State) (c : CaseNo) (w : Window) :
    (s.setCase c { s.caseAt c with window := w }).roster = s.roster := State.setCase_roster rfl

/-- Every command keeps the roster sound. -/
theorem Roster.Sound.exec (h : s.roster.Sound) {c : Instr} (ht : exec c s = .next t) : t.roster.Sound := by
  cases c with
  | powerOnReset =>
    obtain rfl := Host.Outcome.next.inj ht
    have hcrew (k : CrewNo) : (State.powerOn s.straps s.trunk.nearUp s.trunk.farUp s.freeDraws s.pending).crew k = .reset k :=
      getElem_tab Crew.reset k.val k.isLt
    exact sound_of_free (State.powerOn_ledger _ _ _ _ _).1 (fun k => by rw [hcrew]; rfl) (fun k => by rw [hcrew]; rfl)
  | strapChange address => exact h.of_next ht rfl
  | tickEnd =>
    refine h.of_next ht ?_
    split
    · rfl
    · exact s.tick_roster
  | intervalTimerExpiry l => exact h.of_expiry (w := (s.setLine l _, _)) h ht
  | ceilingTimerExpiry l => exact h.of_expiry (w := (s.setLine l _, _)) h ht
  | escalationTimerExpiry c => exact h.of_expiry (h.of_eq (escalate_roster s c)) ht
  | offerTimerExpiry k =>
    change execOfferTimerExpiry k s = _ at ht
    unfold execOfferTimerExpiry at ht
    split at ht
    · next x hx => exact h.of_expiry (w := (Machine.offerExpired s k x.case, [])) (h.offerExpired hx) ht
    · exact h.of_next ht rfl
  | minTimerExpiry c =>
    change execMinTimerExpiry c s = _ at ht
    unfold execMinTimerExpiry at ht
    dsimp only at ht
    split at ht
    · exact h.of_next ht (windowTimer_roster s c _)
    · exact h.of_next ht rfl
  | maxTimerExpiry c =>
    refine h.of_expiry (h.of_eq ?_) ht
    dsimp only
    split
    · exact (becomeLate_roster _ c).trans (windowTimer_roster s c _)
    · exact windowTimer_roster s c _
  | stepTimerExpiry c => exact h.of_expiry (h.of_eq (stepExpired_roster s c)) ht
  | settleTimerExpiry c =>
    change execSettleTimerExpiry c s = _ at ht
    unfold execSettleTimerExpiry at ht
    split at ht
    · exact h.of_expiry (h.of_eq (endRelease_roster s c _)) ht
    · exact h.of_next ht rfl
  | answerWindowClose l held =>
    change execAnswerWindowClose l held s = _ at ht
    unfold execAnswerWindowClose at ht
    dsimp only at ht
    split at ht
    · exact (h.of_eq (closeWindow_roster s l _ _)).finish ht
    · exact h.of_next ht rfl
  | wake l burst =>
    change execWake l burst s = _ at ht
    unfold execWake at ht
    split at ht
    · exact finish (w := (s, _)) h ht
    · exact h.of_next ht (collide_roster s l)
  | wakeBurstInCycle l => exact h.of_next ht (collide_roster s l)
  | nearFrameReceived bytes => exact (h.nearFrame bytes).finish ht
  | farFrameReceived bytes => exact finish (w := (farFrame s bytes, [])) (h.of_eq (farFrame_roster s bytes)) ht
  | linkStateChange side up =>
    cases side with
    | near => exact finish (w := (setNear s up, [])) h ht
    | far => exact finish (w := (setFar s up, [])) (h.of_eq (setFar_roster s up)) ht
  | nearTransmitComplete => exact finish (w := ({ s with trunk := { s.trunk with nearTx := none } }, [])) h ht
  | farTransmitComplete => exact finish (w := ({ s with trunk := { s.trunk with farTx := none } }, [])) h ht
  | read o table index => exact h.exec_command (r := .read table index) ht
  | writeLift o index w => exact h.exec_command (r := .writeLift index w) ht
  | writePanel o index w => exact h.exec_command (r := .writePanel index w) ht
  | writeCrew o index w => exact h.exec_command (r := .writeCrew index w) ht
  | writeClass o index w => exact h.exec_command (r := .writeClass index w) ht
  | writeTravel o index lo hi => exact h.exec_command (r := .writeTravel index lo hi) ht
  | writeStep o index w => exact h.exec_command (r := .writeStep index w) ht
  | writeSectorSettings o index w => exact h.exec_command (r := .writeSettings index w) ht
  | setForward o index mode => exact h.exec_command (r := .setForward index mode) ht
  | lineEnable o line => exact h.exec_command (r := .lineEnable line) ht
  | lineDisable o line => exact h.exec_command (r := .lineDisable line) ht
  | lineReset o line => exact h.exec_command (r := .lineReset line) ht
  | setBottom o index => exact h.exec_command (r := .setBottom index) ht
  | survey o crew => exact h.exec_command (r := .survey crew) ht
  | caseOpen o identity => exact h.exec_command (r := .caseOpen identity) ht
  | caseClose o serial => exact h.exec_command (r := .caseClose serial) ht
  | readCase o record => exact h.exec_command (r := .readCase record) ht
  | readCounters o => exact h.exec_command (r := .readCounters) ht
  | warmRestart o force => exact h.exec_command (r := .warmRestart force) ht
  | controlInhibit o identity => exact h.exec_control ht
  | controlRestore o identity => exact h.exec_control ht
  | controlAnnounce o identity message => exact h.exec_control ht
  | controlService o identity code => exact h.exec_control ht
  | dutyOn r tag => exact h.exec_crew ht
  | dutyOff r tag => exact h.exec_crew ht
  | sweepOn r tag => exact h.exec_crew ht
  | sweepOff r tag => exact h.exec_crew ht
  | job r tag => exact h.exec_crew ht
  | accept r tag serial => exact h.exec_crew ht
  | decline r tag serial => exact h.exec_crew ht
  | arrived r tag serial => exact h.exec_crew ht
  | voice r tag serial => exact h.exec_crew ht
  | standDown r tag serial => exact h.exec_crew ht
  | firstStageCarry => exact h.of_next ht s.carry_roster

end

/-- Settles O7: openings, closes, offers, answers to offers and arrivals each keep the roster sound, and every other job leaves it as
it is. -/
theorem stepsKeepDispatchSound : Obligations.StepsKeepDispatchSound := by
  intro s t hs h
  have hroster := State.dispatchSound_iff.mp hs
  refine State.dispatchSound_iff.mpr ?_
  unfold step at h
  split at h
  · exact hroster.of_next h s.clockPeriod_roster
  · next c rest _ => exact Roster.Sound.exec (s := { s with pending := rest }) hroster h

end Sys2Proof.Machine
end

section
/-! SUPPORT. The lowest entry that meets a test, and the names that requests carry (R58, R87). -/

namespace Sys2Proof.Machine

/-- The first index that meets `p` is the lowest one. -/
theorem finRange_find?_eq_some {n : Nat} {p : Fin n → Bool} {c : Fin n} :
    (List.finRange n).find? p = some c ↔ p c = true ∧ ∀ d < c, p d = false := by
  rw [List.find?_eq_some_iff_getElem]
  constructor
  · rintro ⟨hp, i, hi, hc, hlow⟩
    obtain rfl : (⟨i, by simpa using hi⟩ : Fin n) = c := by simpa using hc
    exact ⟨hp, fun d hd => by simpa using hlow d.val hd⟩
  · rintro ⟨hp, hlow⟩
    exact ⟨hp, c.val, by simp, by simp, fun j hj => by simpa using hlow ⟨j, hj.trans c.isLt⟩ hj⟩

/-- A serial names the lowest OPEN record that holds it (R58). -/
theorem State.resolveSerial_eq_some {s : State} {n : BitVec 16} {c : CaseNo} : s.resolveSerial n = some c ↔
    s.isOpen c = true ∧ (s.caseAt c).serial = n ∧ ∀ e < c, s.isOpen e = true → (s.caseAt e).serial ≠ n := by
  rw [State.resolveSerial, State.openRecords, List.find?_filter, finRange_find?_eq_some]
  simp [and_assoc]

/-- The logged panel found is the lowest enabled one whose logged crew is the tag (R87). -/
theorem State.findLogged_eq_some {s : State} {tag : Nat} {p : PanelIdx} : s.findLogged tag = some p ↔
    ((s.panel p).config.enabled = true ∧ (s.panel p).dyn.logged = some tag ∧
      ∀ q < p, ¬ ((s.panel q).config.enabled = true ∧ (s.panel q).dyn.logged = some tag)) := by
  rw [State.findLogged, finRange_find?_eq_some]
  simp [and_assoc]

/-! ### Offers given up (R97, R98, R100) -/

section

variable {s : State} {k : CrewNo} {c : CaseNo}

/-- The record of a case whose offer is given up (R97, R98). -/
def Case.returned (r : Case) (k : CrewNo) : Case :=
  { r with
    dispatch := .waiting
    crew := none
    declined := if k ∈ r.declined then r.declined else r.declined ++ [k] }

theorem State.declineOffer_eq (s : State) (k : CrewNo) (c : CaseNo) :
    s.declineOffer k c = (s.setCrewDyn k { (s.crew k).dyn with offer := none }).setCase c ((s.caseAt c).returned k) := by
  have hcontains (r : Case) : (if r.declined.contains k then r.declined else r.declined ++ [k]) =
      if k ∈ r.declined then r.declined else r.declined ++ [k] := if_congr List.contains_iff_mem rfl rfl
  simp only [State.declineOffer, hcontains]
  rfl

/-- The notices of an offer given up, with room for both (R97, R98, R100). -/
theorem givenUp_room {kind : NoticeKind} (hroom : s.trunk.own.length + 2 ≤ 32) (howed : (s.caseAt c).owed = false) :
    givenUp s k c kind =
      (s.withNotice c (s.caseAt c) kind (.tag (s.crew k).config.tag)).withCall c (s.caseAt c) := by
  rw [givenUp, State.notify_room s c _ _ (by omega) howed]
  refine State.call_room _ c ?_
  simp only [State.withNotice, State.withBroadcast_length]
  omega

/-- Settles O17: the offer is given up by the steps it shares with a decline, and its two notices find room. -/
theorem offerExpiryReturnsTheCase : Obligations.OfferExpiryReturnsTheCase := by
  intro s k c hready hoffer howed r u
  have hexec : exec (.offerTimerExpiry k) s = finish (offerExpired s k c, []) := by
    change execOfferTimerExpiry k s = _
    simp only [execOfferTimerExpiry, hoffer, if_true]
  have hcase : u.caseAt c = r := State.caseAt_setCase _ c r
  have hcrew : (u.crew k).config = (s.crew k).config := by
    rw [State.setCase_crew, State.crew_setCrewDyn]
  have hgiven := givenUp_room (s := u) (k := k) (c := c) (kind := .offerExpired) hready.room (by rw [hcase]; exact howed)
  rw [hcase, hcrew] at hgiven
  rw [hexec, offerExpired, State.declineOffer_eq]
  change finish (givenUp u k c .offerExpired, []) = _
  rw [hgiven]
  exact finish_busy hready.busy

end

end Sys2Proof.Machine
end

section
/-! SUPPORT. Crew writes (R85 to R87). -/

namespace Sys2Proof

open Machine

/-! ### What a crew write carries (R86) -/

/-- The configuration that a crew record stores (R86). -/
def CrewWrite.stored (w : CrewWrite) : CrewConfig :=
  ⟨w.enabled == 1, w.tag, tab fun l => (BitVec.ofNat 4 w.coverage).getLsbD l.val, ⟨min 3 w.post, by omega⟩⟩

theorem CrewWrite.config_eq {w : CrewWrite} (htag : 0 < w.tag) (htop : w.tag < 255) (hcoverage : w.coverage ≠ 0)
    (henabled : w.enabled ≤ 1) : w.config = some w.stored := by
  rw [CrewWrite.config, decodeYesNo_eq henabled]
  have hbounds : 1 ≤ w.tag ∧ w.tag ≤ 254 := by omega
  exact if_pos (by simp [hbounds, hcoverage])

theorem CrewWrite.config_none {w : CrewWrite} (h : w.tag = 0 ∨ 255 ≤ w.tag ∨ w.coverage = 0 ∨ 1 < w.enabled) :
    w.config = none := by
  unfold CrewWrite.config
  split
  · next enabled hdecodes =>
    have henabled : ¬ 1 < w.enabled := fun hlt => by
      rw [decodeYesNo_none hlt] at hdecodes
      exact nomatch hdecodes
    exact if_neg (by simp; omega)
  · rfl

end Sys2Proof

namespace Sys2Proof.Machine

section

variable {s : State} {k : CrewNo}

theorem Crew.locked_eq_true {w : Crew} : w.locked = true ↔ w.dyn.held ≠ [] ∨ w.dyn.offer ≠ none := by
  simp [Crew.locked, Option.isSome_iff_ne_none]

theorem State.tagTaken_eq_true {tag : Nat} : s.tagTaken k tag = true ↔
    ∃ j, j ≠ k ∧ (s.crew j).config.enabled = true ∧ (s.crew j).config.tag = tag := by
  simp [State.tagTaken, and_assoc]

/-- What a stored crew write makes of the crew's dynamic part, `found` being the logged panel found (R87). -/
theorem applyCrew_eq (s : State) (k : CrewNo) (g : CrewConfig) :
    let d := (s.crew k).dyn
    applyCrew s k g = s.setCrew k ⟨g, match (s.crew k).config.enabled, g.enabled with
      | false, false => d
      | false, true => { d with onDuty := false, sweep := false, logged := s.findLogged g.tag }
      | true, false => { d with onDuty := false, sweep := false, logged := none, offerLost := none }
      | true, true => { d with logged := if (s.crew k).config.tag = g.tag then d.logged else s.findLogged g.tag }⟩ := by
  unfold applyCrew
  dsimp only
  cases (s.crew k).config.enabled <;> cases g.enabled <;> dsimp only
  split <;> rfl

/-- Settles O32: a write refused is answered at once, and one stored leaves what R87 says of the crew. -/
theorem crewWritesAreLockedOrStored : Obligations.CrewWritesAreLockedOrStored := by
  have hexec (s : State) (o : Origin) (n : Nat) (w : CrewWrite) :
      exec (.writeCrew o n w) s = finish (writeCrewRequest s o n w) := rfl
  refine ⟨fun s o n w hready hcoverage => ?_, fun s o k w hready hcoverage => ?_⟩
  · have hdecodes : w.decodes = false := by simpa [CrewWrite.decodes] using hcoverage
    rw [hexec, writeCrewRequest, hdecodes]
    exact finish_answered hready o _ _
  have hdecodes : w.decodes = true := by simpa [CrewWrite.decodes] using hcoverage
  replace hexec := hexec s o k.val w
  rw [writeCrewRequest, hdecodes, toIdx_val] at hexec
  rw [if_neg (show ¬ (!true) = true by decide)] at hexec
  dsimp only at hexec
  intro d
  refine ⟨fun hlocked => ?_, fun hheld hoffer => ?_⟩
  · rw [hexec, if_pos (Crew.locked_eq_true.mpr hlocked)]
    exact finish_answered hready o _ _
  have hfree : (s.crew k).locked = false := Bool.eq_false_iff.mpr fun h => by
    rcases Crew.locked_eq_true.mp h with h | h
    · exact h hheld
    · exact h hoffer
  rw [if_neg (by rw [hfree]; exact Bool.false_ne_true)] at hexec
  refine ⟨fun hfault => ?_, fun htag htop hcover henabled hapart => ?_⟩
  · rw [hexec]
    by_cases hown : w.tag = 0 ∨ 255 ≤ w.tag ∨ w.coverage = 0 ∨ 1 < w.enabled
    · rw [CrewWrite.config_none hown]
      exact finish_answered hready o _ _
    · have htaken : s.tagTaken k w.tag = true := State.tagTaken_eq_true.mpr (by tauto)
      split
      · exact finish_answered hready o _ _
      · rw [if_pos htaken]
        exact finish_answered hready o _ _
  · have hroom : s.trunk.own.length < 32 := hready.room
    have hapart' : s.tagTaken k w.tag = false := State.tagTaken_eq_false.mpr hapart
    have hclamps : (w.stored.post.val != w.post) = false ↔ ¬ 3 < w.post := by
      rw [bne_eq_false_iff_eq]
      change min 3 w.post = w.post ↔ _
      omega
    rw [CrewWrite.config_eq htag htop hcover henabled] at hexec
    dsimp only at hexec
    rw [if_neg (by rw [hapart']; exact Bool.false_ne_true), stored_room o _ _ hroom, if_congr hclamps rfl rfl, ite_not] at hexec
    refine ⟨w.stored, s.findLogged w.tag, rfl, rfl, rfl, fun l => ?_, fun p => State.findLogged_eq_some, ?_⟩
    · have hcell : w.stored.coverage[l.val] = (BitVec.ofNat 4 w.coverage).getLsbD l.val := by simp [CrewWrite.stored]
      rw [hcell, BitVec.getLsbD_ofNat, decide_eq_true l.isLt, Bool.true_and]
    · rw [hexec, applyCrew_eq]
      split
      · exact finish_busy hready.busy
      · exact finish_busy hready.busy

end

end Sys2Proof.Machine
end

section
/-! SUPPORT. The choice of a case for a crew (R94) and the order of a held list (R101). -/

namespace Sys2Proof.Machine

/-! ### The least entry of a list -/

section

variable {α β : Type} [LinearOrder α] [LinearOrder β] {better : α → α → Bool} {f : α → β}

/-- An ascending list that is not empty has an entry of least `f`, and the lowest such entry is the one chosen. -/
theorem pickBest_least (hf : ∀ x y, better x y = true ↔ f x < f y) {xs : List α} (hs : xs.Pairwise (· < ·)) (hne : xs ≠ []) :
    ∃ a, pickBest better xs = some a ∧ ∀ b ∈ xs, f a < f b ∨ (f a = f b ∧ a ≤ b) := by
  obtain ⟨a, ha, hleast⟩ := xs.toFinset.exists_min_image (fun b => toLex (f b, b)) (List.toFinset_nonempty_iff xs |>.mpr hne)
  have hbest : ∀ b ∈ xs, f a < f b ∨ (f a = f b ∧ a ≤ b) := fun b hb => by
    simpa [Prod.Lex.toLex_le_toLex] using hleast b (List.mem_toFinset.mpr hb)
  exact ⟨a, pickBest_eq_some hf hs (List.mem_toFinset.mp ha) hbest, hbest⟩

end

/-! ### Insertion into an ordered list -/

section

variable {β : Type} [LinearOrder β] {before : CaseNo → CaseNo → Bool} {key : CaseNo → β}

theorem insertOrdered_perm (before : CaseNo → CaseNo → Bool) (c : CaseNo) (xs : List CaseNo) :
    (insertOrdered before c xs).Perm (c :: xs) := by
  induction xs with
  | nil => exact .refl _
  | cons d rest ih =>
    rw [insertOrdered]
    split
    · exact .refl _
    · exact (ih.cons d).trans (.swap c d rest)

/-- Insertion keeps a list in the order of `key`. -/
theorem insertOrdered_ordered (hkey : ∀ a b, before a b = true ↔ key a < key b) (c : CaseNo) (xs : List CaseNo)
    (hs : xs.Pairwise (key · ≤ key ·)) : (insertOrdered before c xs).Pairwise (key · ≤ key ·) := by
  induction xs with
  | nil => exact List.pairwise_singleton _ _
  | cons d rest ih =>
    obtain ⟨hd, hrest⟩ := List.pairwise_cons.mp hs
    rw [insertOrdered]
    split
    · next hlt =>
      have hcd : key c ≤ key d := ((hkey c d).mp hlt).le
      refine List.pairwise_cons.mpr ⟨fun e he => ?_, hs⟩
      rcases List.mem_cons.mp he with rfl | he
      · exact hcd
      · exact hcd.trans (hd e he)
    · next hge =>
      have hdc : key d ≤ key c := not_lt.mp fun hlt => hge ((hkey c d).mpr hlt)
      refine List.pairwise_cons.mpr ⟨fun e he => ?_, ih hrest⟩
      rcases List.mem_cons.mp ((insertOrdered_perm before c rest).mem_iff.mp he) with rfl | he
      · exact hdc
      · exact hd e he

theorem foldr_insertOrdered_perm (before : CaseNo → CaseNo → Bool) (xs : List CaseNo) :
    (xs.foldr (insertOrdered before) []).Perm xs := by
  induction xs with
  | nil => exact .refl _
  | cons c xs ih => exact (insertOrdered_perm before c _).trans (ih.cons c)

theorem foldr_insertOrdered_ordered (hkey : ∀ a b, before a b = true ↔ key a < key b) (xs : List CaseNo) :
    (xs.foldr (insertOrdered before) []).Pairwise (key · ≤ key ·) := by
  induction xs with
  | nil => exact .nil
  | cons c xs ih => exact insertOrdered_ordered hkey c _ ih

end

section

variable {s : State} {k : CrewNo} {c : CaseNo}

/-! ### The held list (R101) -/

/-- How long ago the case was accepted (R101, log 16). -/
def State.acceptedAge (s : State) (c : CaseNo) : Nat := (s.stamp - (s.caseAt c).acceptedAt.getD 0).toNat

/-- The place of a case in a held list: urgency, then the earlier acceptance, then the lower record (R101). -/
def State.heldKey (s : State) (c : CaseNo) : Nat ×ₗ Natᵒᵈ ×ₗ CaseNo :=
  toLex ((s.caseAt c).urgency, toLex (OrderDual.toDual (s.acceptedAge c), c))

theorem State.heldBefore_iff (s : State) (a b : CaseNo) : s.heldBefore a b = true ↔ s.heldKey a < s.heldKey b := by
  simp only [State.heldBefore, State.heldKey, State.acceptedAge, Prod.Lex.toLex_lt_toLex, OrderDual.toDual_lt_toDual,
    Bool.or_eq_true, Bool.and_eq_true, decide_eq_true_eq, beq_iff_eq, EmbeddingLike.apply_eq_iff_eq]

theorem State.heldKey_le {a b : CaseNo} : s.heldKey a ≤ s.heldKey b ↔
    (s.caseAt a).urgency < (s.caseAt b).urgency ∨ ((s.caseAt a).urgency = (s.caseAt b).urgency ∧
      (s.acceptedAge b < s.acceptedAge a ∨ (s.acceptedAge a = s.acceptedAge b ∧ a ≤ b))) := by
  simp only [State.heldKey, Prod.Lex.toLex_le_toLex, OrderDual.toDual_lt_toDual, EmbeddingLike.apply_eq_iff_eq]

/-! ### The choice (R94) -/

theorem State.eligible_iff : s.eligible k c = true ↔
    (s.caseAt c).dispatch = .waiting ∧ (s.crew k).config.coverage[(lineOf (s.caseAt c).lift).val] = true ∧
      k ∉ (s.caseAt c).declined ∧ (s.crew k).dyn.held.length < 3 ∧
      ((∀ h ∈ (s.crew k).dyn.held, (s.caseAt c).urgency < (s.caseAt h).urgency) ∨
        ((s.crew k).dyn.sweep = true ∧
          ∃ p, (s.crew k).dyn.logged = some p ∧ panelLine p = lineOf (s.caseAt c).lift)) := by
  simp only [State.eligible, Bool.and_eq_true, Bool.or_eq_true, beq_iff_eq, decide_eq_true_eq,
    Bool.not_eq_true', List.contains_eq_mem, decide_eq_false_iff_not, List.all_eq_true, Option.any_eq_true, and_assoc]
  exact Iff.rfl

/-- The cases the choice compares: the OPEN ones that are eligible. -/
theorem State.mem_candidates : c ∈ s.openRecords.filter (s.eligible k) ↔ s.isOpen c = true ∧ s.eligible k c = true := by
  simp [State.openRecords, and_comm]

/-- How long the case has been open (R94). -/
def State.openAge (s : State) (c : CaseNo) : Nat := (s.stamp - (s.caseAt c).openedAt).toNat

/-- The place of a lift in the rotation order (R92). -/
def State.turnOf (s : State) (c : CaseNo) : Nat := s.rotation.idxOf (s.caseAt c).lift

/-- In OLDEST mode the choice goes by urgency, then by the longer time open. -/
theorem State.offeredBefore_oldest (h : s.settings.tieMode = .oldest) (a b : CaseNo) : s.offeredBefore a b = true ↔
    toLex ((s.caseAt a).urgency, OrderDual.toDual (s.openAge a)) <
      toLex ((s.caseAt b).urgency, OrderDual.toDual (s.openAge b)) := by
  simp [State.offeredBefore, h, State.openAge, Prod.Lex.toLex_lt_toLex]

/-- In ROTATE mode the choice goes by urgency, then by the rotation order. -/
theorem State.offeredBefore_rotate (h : s.settings.tieMode = .rotate) (a b : CaseNo) : s.offeredBefore a b = true ↔
    toLex ((s.caseAt a).urgency, s.turnOf a) < toLex ((s.caseAt b).urgency, s.turnOf b) := by
  simp [State.offeredBefore, h, State.turnOf, Prod.Lex.toLex_lt_toLex]

/-- Where an OPEN case is eligible, one is chosen that is of the least urgency and, between equals, first by the tie
mode (R94). -/
theorem State.choice_least (hne : s.openRecords.filter (s.eligible k) ≠ []) :
    ∃ c, s.choice k = some c ∧ ∀ e, s.isOpen e = true → s.eligible k e = true →
      (s.caseAt c).urgency ≤ (s.caseAt e).urgency ∧ ((s.caseAt c).urgency = (s.caseAt e).urgency →
        (s.settings.tieMode = .oldest → s.openAge e < s.openAge c ∨ (s.openAge e = s.openAge c ∧ c ≤ e)) ∧
        (s.settings.tieMode = .rotate → s.turnOf c ≤ s.turnOf e)) := by
  have hascending : (s.openRecords.filter (s.eligible k)).Pairwise (· < ·) := (finRange_filter_ascending _).filter _
  cases hmode : s.settings.tieMode with
  | oldest =>
    obtain ⟨c, hc, hbest⟩ := pickBest_least (s.offeredBefore_oldest hmode) hascending hne
    refine ⟨c, hc, fun e hopen heligible => ?_⟩
    have he := hbest e (State.mem_candidates.mpr ⟨hopen, heligible⟩)
    simp only [Prod.Lex.toLex_lt_toLex, OrderDual.toDual_lt_toDual, EmbeddingLike.apply_eq_iff_eq, Prod.mk.injEq] at he
    rcases he with (hurgency | ⟨hurgency, hage⟩) | ⟨⟨hurgency, hage⟩, hrecord⟩
    · exact ⟨hurgency.le, fun heq => absurd heq hurgency.ne⟩
    · exact ⟨hurgency.le, fun _ => ⟨fun _ => .inl hage, nofun⟩⟩
    · exact ⟨hurgency.le, fun _ => ⟨fun _ => .inr ⟨hage.symm, hrecord⟩, nofun⟩⟩
  | rotate =>
    obtain ⟨c, hc, hbest⟩ := pickBest_least (s.offeredBefore_rotate hmode) hascending hne
    refine ⟨c, hc, fun e hopen heligible => ?_⟩
    have he := hbest e (State.mem_candidates.mpr ⟨hopen, heligible⟩)
    simp only [Prod.Lex.toLex_lt_toLex, EmbeddingLike.apply_eq_iff_eq, Prod.mk.injEq] at he
    refine ⟨by omega, fun heq => ⟨nofun, fun _ => by omega⟩⟩

end

/-- Settles O46: the choice is the least candidate by urgency and tie mode, and insertion keeps the held list in the
order of its keys. -/
theorem choicesAndHeldListsGoByUrgency : Obligations.ChoicesAndHeldListsGoByUrgency := by
  constructor
  · intro s k eligible age
    have hcandidate (c : CaseNo) : eligible c ↔ s.isOpen c = true ∧ s.eligible k c = true :=
      and_congr_right' State.eligible_iff.symm
    constructor
    · intro c hc
      have hmem := State.choice_eligible hc
      refine ⟨(hcandidate c).mpr hmem, fun e he => ?_⟩
      obtain ⟨b, hb, hbest⟩ := State.choice_least (List.ne_nil_of_mem (State.mem_candidates.mpr hmem))
      obtain rfl : b = c := Option.some.inj (hb.symm.trans hc)
      exact hbest e ((hcandidate e).mp he).1 ((hcandidate e).mp he).2
    · rintro ⟨c, hc⟩
      obtain ⟨b, hb, -⟩ := State.choice_least (List.ne_nil_of_mem (State.mem_candidates.mpr ((hcandidate c).mp hc)))
      rw [hb]
      exact Option.some_ne_none b
  · intro s k age
    exact ⟨foldr_insertOrdered_perm _ _,
      (foldr_insertOrdered_ordered s.heldBefore_iff _).imp State.heldKey_le.mp⟩

end Sys2Proof.Machine
end

section
/-! SUPPORT. Answers to crew requests (R16, R89): what an answer touches, and how a line in QUIET_IDLE sends it (R13). -/

namespace Sys2Proof.Machine

section

variable {s u v : State} {k : CrewNo} {c : CaseNo} {l : LineId} {p : PanelIdx} {r : Route} {tag : Nat} {code : AnswerCode}
  {named : Option (BitVec 16)} {info : Option OfferInfo}

/-! ### What an answer touches -/

/-- An answer touches the port, or one line. -/
theorem State.respond_touches (u : State) (r : Route) (tag : Nat) (code : AnswerCode) (named : Option (BitVec 16))
    (info : Option OfferInfo) :
    ∃ trunk lines, u.respond r tag code named info = { u with trunk := trunk, lines := lines } := by
  cases r with
  | trunk o =>
    simp only [State.respond, State.offerAnswer]
    split <;> exact ⟨_, u.lines, rfl⟩
  | panel p => exact ⟨u.trunk, _, rfl⟩

@[simp] theorem State.respond_caseAt : (u.respond r tag code named info).caseAt c = u.caseAt c := by
  obtain ⟨_, _, h⟩ := u.respond_touches r tag code named info
  rw [h]
  rfl

@[simp] theorem State.respond_crew : (u.respond r tag code named info).crew k = u.crew k := by
  obtain ⟨_, _, h⟩ := u.respond_touches r tag code named info
  rw [h]
  rfl

/-- An answer takes at most one place in the own queue (R151). -/
theorem State.Ready.respond {n : Nat} (h : u.Ready (n + 1)) : (u.respond r tag code named info).Ready n := by
  have hroom := h.room
  cases r with
  | trunk o =>
    rw [State.respond, State.offerAnswer_room _ _ _ (by omega)]
    exact ⟨h.busy, by simp only [State.withOwn_length]; omega⟩
  | panel p => exact ⟨h.busy, by change u.trunk.own.length + n ≤ 32; omega⟩

/-- A reply is an answer of the crew without its offer lost mark (R89, R99). -/
theorem State.reply_eq (s : State) (k : CrewNo) (r : Route) (tag : Nat) (code : AnswerCode) (named : Option (BitVec 16))
    (info : Option OfferInfo) : s.reply k r code named info tag =
      (s.setCrewDyn k { (s.crew k).dyn with offerLost := none }).respond r tag code named info := by
  cases r with
  | trunk o =>
    simp only [State.reply, State.respond, State.offerAnswer]
    cases hjoin : s.trunk.join ⟨o.source, s.sector, o.tag, .crewAnswer code (BitVec.ofNat 8 tag) named info⟩ with
    | some t =>
      rw [show (s.setCrewDyn k { (s.crew k).dyn with offerLost := none }).trunk.join
        ⟨o.source, (s.setCrewDyn k { (s.crew k).dyn with offerLost := none }).sector, o.tag, _⟩ = some t from hjoin]
      rfl
    | none =>
      rw [show (s.setCrewDyn k { (s.crew k).dyn with offerLost := none }).trunk.join
        ⟨o.source, (s.setCrewDyn k { (s.crew k).dyn with offerLost := none }).sector, o.tag, _⟩ = none from hjoin]
      rfl
  | panel p => rfl

/-! ### Commands that wait for a line -/

/-- Every pending command of an OPEN case of `u` is one of `s`, for the same lift. -/
def State.CommandsWithin (u s : State) : Prop := ∀ c, u.isOpen c = true → (u.caseAt c).pending = none ∨
  (s.isOpen c = true ∧ (u.caseAt c).lift = (s.caseAt c).lift ∧ (u.caseAt c).pending = (s.caseAt c).pending)

theorem State.CommandsWithin.of_cases (h : u.cases = s.cases) : u.CommandsWithin s := by
  intro c hopen
  have hcase : u.caseAt c = s.caseAt c := State.caseAt_congr h c
  exact .inr ⟨by simpa only [State.isOpen, hcase] using hopen, congrArg Case.lift hcase, congrArg Case.pending hcase⟩

/-- A case record that is written brings no command of its own. -/
theorem State.CommandsWithin.setCase {q : Case} (h : u.CommandsWithin s)
    (hq : q.pending = none ∨ (q.record = (u.caseAt c).record ∧ q.lift = (u.caseAt c).lift ∧
      q.pending = (u.caseAt c).pending)) : (u.setCase c q).CommandsWithin s := by
  intro e hopen
  by_cases he : c = e
  · subst he
    rw [State.isOpen, State.caseAt_setCase] at hopen
    rw [State.caseAt_setCase]
    rcases hq with hnone | ⟨hrecord, hlift, hpending⟩
    · exact .inl hnone
    · rw [hlift, hpending]
      exact h c (by rw [State.isOpen, ← hrecord]; exact hopen)
  · have hother : (u.setCase c q).caseAt e = u.caseAt e := State.caseAt_setCase_ne _ c e q he
    rw [State.isOpen, hother] at hopen
    rw [hother]
    exact h e hopen

/-- Nothing waits to be sent on the line where nothing waited, and its line record is as it was. -/
theorem State.NothingToSend.of_within (h : s.NothingToSend l) (hcases : u.CommandsWithin s) (hline : u.line l = s.line l) :
    u.NothingToSend l where
  cases c hopen hl := by
    rcases hcases c hopen with hnone | ⟨hopens, hlift, hpending⟩
    · exact hnone
    · rw [hpending]
      exact h.cases c hopens (hlift ▸ hl)
  answers k := by rw [hline]; exact h.answers k
  routine := by rw [hline]; exact h.routine

/-- An answer can be made where it could before a change of other records. -/
theorem State.Answers.of_within {n m : Nat} (h : s.Answers r n) (hroom : u.trunk.own.length + m ≤ s.trunk.own.length + n)
    (hbusy : u.Busy) (hlines : u.lines = s.lines) (hpanels : u.panels = s.panels) (hcases : u.CommandsWithin s) :
    u.Answers r m where
  ready := ⟨hbusy, hroom.trans h.ready.room⟩
  line p hp hidle := by
    have hline : u.line (panelLine p) = s.line (panelLine p) := by simp only [State.line, hlines]
    obtain ⟨hnothing, henabled⟩ := h.line p hp (hline ▸ hidle)
    exact ⟨hnothing.of_within hcases hline, by simpa only [State.panel, hpanels] using henabled⟩

theorem State.Answers.setCrewDyn {n : Nat} (h : s.Answers r n) (k : CrewNo) (d : CrewDynamic) :
    (s.setCrewDyn k d).Answers r n := h.of_within le_rfl h.ready.busy rfl rfl (.of_cases rfl)

theorem State.Answers.mono {n m : Nat} (h : s.Answers r n) (hm : m ≤ n) : s.Answers r m :=
  h.of_within (by omega) h.ready.busy rfl rfl (.of_cases rfl)

/-! ### An answer sent by a line in QUIET_IDLE (R13, R15) -/

/-- The record of a line with a pending answer. -/
def Line.answering (x : Line) (place : Fin 4) (answer : PanelAnswer) : Line :=
  { x with answers := x.answers.set place.val (some answer) }

/-- Where nothing waited, the only pending answer is chosen, and the places are as they were before it (R15 step 2). -/
theorem State.NothingToSend.select_answering (h : s.NothingToSend l) {slots : List Slot} {place : Fin 4}
    (answer : PanelAnswer) (hslot : panelSlot place ∈ slots) :
    (s.setLine l ((s.line l).answering place answer)).select l slots =
      ⟨some (.toPanel place answer), none, (s.line l).answers, (s.line l).routine⟩ := by
  have hcase : (s.setLine l ((s.line l).answering place answer)).caseCommand l slots = none :=
    State.caseCommand_none fun c hc => hc.2.2.1 (h.cases c hc.1 hc.2.1)
  have hkept : polledAnswers slots ((s.line l).answering place answer).answers = (s.line l).answers.set place.val (some answer) := by
    ext1 k hk
    rw [polledAnswers_get slots _ ⟨k, hk⟩]
    by_cases hplace : place.val = k
    · subst hplace
      simp [Line.answering, hslot]
    · have hnone : (s.line l).answers[k] = none := h.answers ⟨k, hk⟩
      simp [Line.answering, Vector.getElem_set_ne, hplace, hnone]
  have hget (j : Fin 4) : ((s.line l).answers.set place.val (some answer))[j.val] = if j = place then some answer else none := by
    by_cases hj : j = place
    · subst hj
      simp
    · rw [Vector.getElem_set_ne _ _ (fun heq => hj (Fin.ext heq.symm)), if_neg hj, h.answers j]
  have hearliest : earliestAnswer (s.setLine l ((s.line l).answering place answer)).stamp
      (polledAnswers slots ((s.setLine l ((s.line l).answering place answer)).line l).answers) = some place := by
    rw [State.line_setLine, hkept]
    refine earliestAnswer_eq (by simp [hget]) fun j hj => ?_
    obtain rfl : j = place := by simpa [hget] using hj
    exact .inr ⟨rfl, le_rfl⟩
  rw [State.select_answer hcase hearliest, State.line_setLine, hkept]
  have hback : ((s.line l).answers.set place.val (some answer)).set place.val none = (s.line l).answers := by
    ext1 k hk
    by_cases hplace : place.val = k
    · subst hplace
      simpa using (h.answers place).symm
    · simp [Vector.getElem_set_ne, hplace]
  rw [hback]
  simp [Line.answering]

/-- The panel's answer is sent at once by a line in QUIET_IDLE where nothing else waits, and waits elsewhere (R13, R16). -/
theorem Runs.sendAnswer (hbusy : v.Busy) (answer : PanelAnswer)
    (hidle : (v.line (panelLine p)).state = .quietIdle → v.NothingToSend (panelLine p) ∧ (v.panel p).config.enabled = true) :
    Runs 2 (v.setLine (panelLine p) ((v.line (panelLine p)).answering (panelPlace p) answer)) [.lineWork (panelLine p)]
      (v.setLine (panelLine p) (if (v.line (panelLine p)).state = .quietIdle
        then v.startedWith (panelLine p) none (some (.toPanel (panelPlace p) answer)) (v.slotSet (panelLine p))
        else (v.line (panelLine p)).answering (panelPlace p) answer)) := by
  let l := panelLine p
  let w := v.setLine l ((v.line l).answering (panelPlace p) answer)
  have hwline : w.line l = (v.line l).answering (panelPlace p) answer := State.line_setLine _ _ _
  by_cases hstate : (v.line l).state = .quietIdle
  · obtain ⟨hnothing, henabled⟩ := hidle hstate
    have hslot : panelSlot (panelPlace p) ∈ v.slotSet l := by
      rw [State.panelSlot_mem_slotSet, panelAt_panelLine]
      exact henabled
    have hselect := hnothing.select_answering answer hslot
    have hstart : startLine w l none = (w.setLine l (w.startedLine l none), []) := by
      rw [startLine_undelivered none (congrArg Selection.delivered hselect), if_neg]
      rw [List.isEmpty_iff]
      exact List.ne_nil_of_mem hslot
    have hstarted : w.startedLine l none =
        v.startedWith l none (some (.toPanel (panelPlace p) answer)) (v.slotSet l) := by
      rw [State.startedLine_eq, State.setLine_slotSet, hselect]
      simp only [State.startedWith, hwline]
      rfl
    have hwork : perform w (.lineWork l) = (w, [.start l none]) := by
      change lineWork w l = _
      rw [lineWork, if_pos (by rw [hwline]; exact hstate)]
    rw [if_pos hstate]
    refine Runs.step hbusy hwork (Runs.one hbusy ?_ hbusy)
    change startLine w l none = _
    rw [hstart, hstarted, State.setLine_setLine]
  · have hwork : perform w (.lineWork l) = (w, []) := by
      change lineWork w l = _
      rw [lineWork, if_neg (by rw [hwline]; exact hstate)]
    rw [if_neg hstate]
    exact (Runs.one (s := w) hbusy hwork hbusy).mono (Nat.le_succ 1)

/-! ### What is done between the answer and its sending -/

/-- What `F` does to `u` it does beside the lines: it reads no line and writes none, leaves the polled slots and the lines'
settings as they are, and gives no case a command. -/
structure State.Beside (u : State) (F : State → State) : Prop where
  setLine : ∀ v l x, F (v.setLine l x) = (F v).setLine l x
  busy : u.Busy → (F u).Busy
  lines : (F u).lines = u.lines
  settings : (F u).settings = u.settings
  lifts : ∀ i, ((F u).lift i).config = (u.lift i).config
  panels : (F u).panels = u.panels
  commands : (F u).CommandsWithin u

theorem State.Beside.id (u : State) : u.Beside fun v => v :=
  ⟨fun _ _ _ => rfl, fun h => h, rfl, rfl, fun _ => rfl, rfl, .of_cases rfl⟩

theorem State.Beside.line {F : State → State} (h : u.Beside F) (l : LineId) : (F u).line l = u.line l := by
  simp only [State.line, h.lines]

theorem State.Beside.panel {F : State → State} (h : u.Beside F) (p : PanelIdx) : (F u).panel p = u.panel p := by
  simp only [State.panel, h.panels]

theorem State.Beside.startedWith {F : State → State} (h : u.Beside F) (l : LineId) (w : Option WakeSource)
    (command : Option LineCommand) :
    (F u).startedWith l w command ((F u).slotSet l) = u.startedWith l w command (u.slotSet l) := by
  have hslots : (F u).slotSet l = u.slotSet l := State.slotSet_congr h.lifts fun p => by rw [h.panel]
  have hsettings : (F u).lineSettings l = u.lineSettings l := by simp only [State.lineSettings, h.settings]
  simp only [State.startedWith, hslots, hsettings, h.line]

/-- The answer reaches its route, whatever was done beside the lines since it was made (R13, R16, R89). -/
theorem Runs.answer {F : State → State} (hF : u.Beside F) (h : u.Answers r 1)
    (hbusy : (F (u.withCrewAnswer r tag code named info)).Busy) :
    Runs 2 (F (u.respond r tag code named info)) (routeJobs r) (F (u.withCrewAnswer r tag code named info)) := by
  have hroom := h.ready.room
  cases r with
  | trunk o =>
    rw [State.respond_room u _ tag code named info (by omega) (by rintro p ⟨⟩)]
    exact Runs.nil hbusy
  | panel p =>
    let answer : PanelAnswer := ⟨code, tag, named, u.time.stamp⟩
    have hidle (hstate : ((F u).line (panelLine p)).state = .quietIdle) :
        (F u).NothingToSend (panelLine p) ∧ ((F u).panel p).config.enabled = true := by
      rw [hF.line] at hstate
      obtain ⟨hnothing, henabled⟩ := h.line p rfl hstate
      exact ⟨hnothing.of_within hF.commands (hF.line _), by rw [hF.panel]; exact henabled⟩
    have hsent := Runs.sendAnswer (hF.busy h.ready.busy) answer hidle
    rw [hF.startedWith, hF.line, ← hF.setLine, ← hF.setLine] at hsent
    exact hsent

end

end Sys2Proof.Machine
end

section
/-! SUPPORT. Crew requests as a whole (R89): what is judged first, and duty, sweep and JOB (R90, R93, R95). -/

namespace Sys2Proof.Machine

section

variable {s u : State} {k : CrewNo} {c : CaseNo} {r : Route} {tag : Nat} {code : AnswerCode} {named serial : Option (BitVec 16)}
  {info : Option OfferInfo} {q : CrewRequest}

/-! ### The offer lost mark (R99) -/

/-- The crew without its offer lost mark, which every answer clears (R99). -/
def State.unmark (s : State) (k : CrewNo) : State := s.setCrewDyn k { (s.crew k).dyn with offerLost := none }

theorem State.setCrewDyn_setCrewDyn (s : State) (k : CrewNo) (d e : CrewDynamic) :
    (s.setCrewDyn k d).setCrewDyn k e = s.setCrewDyn k e := by
  simp only [State.setCrewDyn, State.crew_setCrew, State.setCrew_setCrew]

theorem State.unmark_setCrewDyn (s : State) (k : CrewNo) (d : CrewDynamic) :
    (s.setCrewDyn k d).unmark k = s.setCrewDyn k { d with offerLost := none } := by
  rw [State.unmark, State.setCrewDyn_setCrewDyn, State.crew_setCrewDyn]

theorem State.Answers.unmark {n : Nat} (h : s.Answers r n) (k : CrewNo) : (s.unmark k).Answers r n := h.setCrewDyn k _

/-- The replies of a crew request: on its route, under its tag (R89). -/
def repliesOn (r : Route) (tag : Nat) (k : CrewNo) : Reply := fun t code named info => t.reply k r code named info tag

theorem repliesOn_apply (r : Route) (tag : Nat) (k : CrewNo) (u : State) (code : AnswerCode) (named : Option (BitVec 16))
    (info : Option OfferInfo) : repliesOn r tag k u code named info = (u.unmark k).respond r tag code named info :=
  u.reply_eq k r tag code named info

/-! ### The handling of a crew request (R89) -/

theorem State.Busy.withCrewAnswer (h : u.Busy) : (u.withCrewAnswer r tag code named info).Busy := by
  cases r with
  | trunk o => exact h
  | panel p => exact h

/-- What remains once the answer has reached its route. -/
theorem finish_answer {F : State → State} {jobs : List Job} {t : State} {n : Nat} (hF : u.Beside F) (h : u.Answers r 1)
    (hruns : Runs n (F (u.withCrewAnswer r tag code named info)) jobs t) (hn : n < 9000) :
    finish (F (u.respond r tag code named info), routeJobs r ++ jobs) = .next t :=
  ((Runs.answer hF h hruns.busy).append hruns).finish_eq (by omega)

/-- A request that is answered and does nothing more. -/
theorem finish_answered_only (h : u.Answers r 1) : finish (u.respond r tag code named info, routeJobs r) =
    .next (u.withCrewAnswer r tag code named info) :=
  (Runs.answer (.id u) h h.ready.busy.withCrewAnswer).finish_eq (by omega)

/-- A request under a tag that no enabled record holds (R89). -/
theorem finish_unresolved (h : s.Answers r 1) (hnone : s.resolveTag tag = none) (q : CrewRequest)
    (serial : Option (BitVec 16)) :
    finish (crewRequest s r tag (some q) serial) = .next (s.withCrewAnswer r tag .badIndex none none) := by
  have hwork : crewRequest s r tag (some q) serial = (s.respond r tag .badIndex none none, routeJobs r) := by
    simp only [crewRequest, hnone]
  rw [hwork]
  exact finish_answered_only h

/-- A request of a crew off duty (R89). -/
theorem finish_offDuty (h : s.Answers r 1) (hk : s.resolveTag tag = some k) (hduty : (s.crew k).dyn.onDuty = false)
    (hq : q ≠ .dutyOn) (serial : Option (BitVec 16)) :
    finish (crewRequest s r tag (some q) serial) =
      .next ((s.unmark k).withCrewAnswer r tag .wrongState none none) := by
  have hwork : crewRequest s r tag (some q) serial =
      (repliesOn r tag k s .wrongState none none, routeJobs r) := by
    simp only [crewRequest, hk]
    rw [if_pos (by simp [hduty, hq])]
    rfl
  rw [hwork, repliesOn_apply]
  exact finish_answered_only (h.unmark k)

/-- A request that passes the duty test is dealt with by the rule of its kind (R89). -/
theorem crewRequest_taken (hk : s.resolveTag tag = some k) (hduty : (s.crew k).dyn.onDuty = true ∨ q = .dutyOn)
    (serial : Option (BitVec 16)) : crewRequest s r tag (some q) serial =
      ((requestKind s k q serial (repliesOn r tag k)).1, routeJobs r ++ (requestKind s k q serial (repliesOn r tag k)).2) := by
  simp only [crewRequest, hk]
  rw [if_neg (by rcases hduty with h | h <;> simp [h])]
  rfl

/-- A request whose kind answers and leaves jobs. -/
theorem finish_taken {F : State → State} {jobs : List Job} {t : State} {n : Nat} (hk : s.resolveTag tag = some k)
    (hduty : (s.crew k).dyn.onDuty = true ∨ q = .dutyOn)
    (hkind : requestKind s k q serial (repliesOn r tag k) = (F (repliesOn r tag k u code named info), jobs))
    (hF : (u.unmark k).Beside F) (h : u.Answers r 1)
    (hruns : Runs n (F ((u.unmark k).withCrewAnswer r tag code named info)) jobs t) (hn : n < 9000) :
    finish (crewRequest s r tag (some q) serial) = .next t := by
  rw [crewRequest_taken hk hduty, hkind, repliesOn_apply]
  exact finish_answer hF (h.unmark k) hruns hn

/-- A request whose kind answers and does nothing more. -/
theorem finish_taken_only (hk : s.resolveTag tag = some k) (hduty : (s.crew k).dyn.onDuty = true ∨ q = .dutyOn)
    (hkind : requestKind s k q serial (repliesOn r tag k) = (repliesOn r tag k u code named info, [])) (h : u.Answers r 1) :
    finish (crewRequest s r tag (some q) serial) = .next ((u.unmark k).withCrewAnswer r tag code named info) := by
  rw [crewRequest_taken hk hduty, hkind, repliesOn_apply, List.append_nil]
  exact finish_answered_only (h.unmark k)

/-! ### Held cases by serial (R58, R105, R106) -/

theorem State.heldSerial_eq_some {n : BitVec 16} :
    s.heldSerial k n = some c ↔ s.resolveSerial n = some c ∧ c ∈ (s.crew k).dyn.held := by
  simp [State.heldSerial, Option.filter_eq_some_iff]

/-- A serial that no held OPEN case has names none (R103, R105). -/
theorem State.heldSerial_eq_none {n : BitVec 16}
    (h : ∀ c ∈ (s.crew k).dyn.held, ¬ (s.isOpen c = true ∧ (s.caseAt c).serial = n)) : s.heldSerial k n = none := by
  refine Option.eq_none_iff_forall_ne_some.mpr fun c hc => ?_
  obtain ⟨hresolves, hheld⟩ := State.heldSerial_eq_some.mp hc
  obtain ⟨hopen, hserial, -⟩ := State.resolveSerial_eq_some.mp hresolves
  exact h c hheld ⟨hopen, hserial⟩

/-- The request means no held case: its serial is none of theirs, or it carries none and the list is empty. -/
def State.NamesNone (s : State) (k : CrewNo) (serial : Option (BitVec 16)) : Prop :=
  (serial = none ∧ (s.crew k).dyn.held = []) ∨
    (∃ n, serial = some n ∧ ∀ c ∈ (s.crew k).dyn.held, ¬ (s.isOpen c = true ∧ (s.caseAt c).serial = n))

theorem State.NamesNone.heldNamed (h : s.NamesNone k serial) : s.heldNamed k serial = none := by
  rcases h with ⟨rfl, hempty⟩ | ⟨n, rfl, hnone⟩
  · simp only [State.heldNamed, State.heldOrder, hempty]
    rfl
  · exact State.heldSerial_eq_none hnone

theorem State.NamesNone.arrivedRequest (h : s.NamesNone k serial) (reply : Reply) :
    arrivedRequest s k serial reply = (reply s .notHeld none none, []) := by
  rcases h with ⟨rfl, hempty⟩ | ⟨n, rfl, hnone⟩
  · simp only [Machine.arrivedRequest, hempty]
    rfl
  · simp only [Machine.arrivedRequest, State.heldSerial_eq_none hnone]

end

/-- Settles O43: the tag and the duty are judged before the kind, and a held case is looked for before it is dealt with. -/
theorem crewRequestsAreJudgedFirst : Obligations.CrewRequestsAreJudgedFirst := by
  constructor
  · intro s r tag h
    simp only [List.forall_mem_cons, List.not_mem_nil, false_implies, implies_true, and_true]
    refine ⟨fun hnone => ?_, fun hnone n => ?_, fun k hk hduty => ⟨?_, fun n => ?_⟩⟩
    · have hrefused (q : CrewRequest) := finish_unresolved h hnone q none
      exact ⟨hrefused .dutyOn, hrefused .dutyOff, hrefused .sweepOn, hrefused .sweepOff, hrefused .job⟩
    · have hrefused (q : CrewRequest) := finish_unresolved h hnone q n
      exact ⟨hrefused .accept, hrefused .decline, hrefused .arrived, hrefused .voice, hrefused .standDown⟩
    · have hrefused (q : CrewRequest) (hq : q ≠ .dutyOn) := finish_offDuty h hk hduty hq none
      exact ⟨hrefused .dutyOff nofun, hrefused .sweepOn nofun, hrefused .sweepOff nofun, hrefused .job nofun⟩
    · have hrefused (q : CrewRequest) (hq : q ≠ .dutyOn) := finish_offDuty h hk hduty hq n
      exact ⟨hrefused .accept nofun, hrefused .decline nofun, hrefused .arrived nofun, hrefused .voice nofun,
        hrefused .standDown nofun⟩
  · intro s r tag k serial h hduty only
    have hanswered {q : CrewRequest} {code : AnswerCode}
        (hkind : requestKind s k q serial (repliesOn r tag k) = (repliesOn r tag k s code none none, [])) :
        finish (crewRequest s r tag (some q) serial) = .next (only code) :=
      finish_taken_only hduty.resolves (.inl hduty.duty) hkind h
    refine ⟨fun hnone => ?_, fun n c hserial hheld hstate => ?_⟩
    · have hnone : s.NamesNone k serial := hnone
      refine ⟨hanswered (q := .arrived) (hnone.arrivedRequest _), hanswered (q := .voice) ?_,
        hanswered (q := .standDown) ?_⟩
      · simp only [requestKind, voiceRequest, hnone.heldNamed]
      · simp only [requestKind, standDownRequest, hnone.heldNamed]
    · refine hanswered (q := .arrived) ?_
      subst hserial
      simp only [requestKind, arrivedRequest, hheld]
      exact if_neg (by simpa using hstate)

/-! ### Duty and sweep (R90) -/

/-- Settles O44: each kind changes the crew's dynamic part and is answered. -/
theorem dutyAndSweepRequests : Obligations.DutyAndSweepRequests := by
  intro s r tag k h hk d
  have hanswered {q : CrewRequest} (d' : CrewDynamic) {code : AnswerCode} (hduty : (s.crew k).dyn.onDuty = true ∨ q = .dutyOn)
      (hkind : requestKind s k q none (repliesOn r tag k) = (repliesOn r tag k (s.setCrewDyn k d') code none none, [])) :
      finish (crewRequest s r tag (some q) none) =
        .next ((s.setCrewDyn k { d' with offerLost := none }).withCrewAnswer r tag code none none) := by
    rw [← State.unmark_setCrewDyn]
    exact finish_taken_only hk hduty hkind (h.setCrewDyn k d')
  refine ⟨hanswered (q := .dutyOn) { d with onDuty := true } (.inr rfl) rfl, fun hduty => ⟨fun hbusy => ?_, fun hheld hoffer => ?_,
    hanswered (q := .sweepOn) { d with sweep := true } (.inl hduty) rfl,
    hanswered (q := .sweepOff) { d with sweep := false } (.inl hduty) rfl⟩⟩
  · refine finish_taken_only (q := .dutyOff) hk (.inl hduty) ?_ h
    simp only [requestKind, dutyOffRequest]
    exact if_neg (by simpa [Option.isNone_iff_eq_none, imp_iff_not_or] using hbusy)
  · refine hanswered (q := .dutyOff) { d with onDuty := false, sweep := false } (.inl hduty) ?_
    simp only [requestKind, dutyOffRequest]
    exact if_pos (by simp [show (s.crew k).dyn.held = [] from hheld, show (s.crew k).dyn.offer = none from hoffer])

/-! ### JOB (R93, R95) -/

section

variable {u : State} {c : CaseNo}

/-- A notice is made beside the lines. -/
theorem State.Beside.withNotice (u : State) (c : CaseNo) (q : Case) (kind : NoticeKind) (arg : NoticeArg) :
    u.Beside fun v => v.withNotice c q kind arg :=
  ⟨fun _ _ _ => rfl, fun h => h, rfl, rfl, fun _ => rfl, rfl, .of_cases rfl⟩

/-- A notice after an answer, with room for both. -/
theorem State.respond_notify {r : Route} {tag : Nat} {code : AnswerCode} {named : Option (BitVec 16)}
    {info : Option OfferInfo} {q : Case} (h : u.Ready 2) (kind : NoticeKind) (arg : NoticeArg) (hq : u.caseAt c = q)
    (howed : q.owed = false) : (u.respond r tag code named info).notify c kind arg =
      (u.respond r tag code named info).withNotice c q kind arg := by
  have hroom := (h.respond (r := r) (tag := tag) (code := code) (named := named) (info := info)).room
  rw [State.notify_room _ c kind arg hroom (by rw [State.respond_caseAt, hq]; exact howed), State.respond_caseAt, hq]

end

/-- Settles O45: the offer that stands is answered again, or the choice is offered, or nothing is found. -/
theorem jobAnswersTheOfferOrMakesOne : Obligations.JobAnswersTheOfferOrMakesOne := by
  intro s r tag k h hduty d info
  have hk := hduty.resolves
  have h1 := h.mono (Nat.le_succ 1)
  refine ⟨fun x hx => ?_, fun hoffer hchoice => ?_, fun c hoffer hchoice howed => ?_⟩
  · refine finish_taken_only (q := .job) hk (.inl hduty.duty) ?_ h1
    simp only [requestKind, jobRequest, show (s.crew k).dyn.offer = some x from hx]
    rfl
  · refine finish_taken_only (q := .job) hk (.inl hduty.duty) ?_ h1
    simp only [requestKind, jobRequest, show (s.crew k).dyn.offer = none from hoffer, hchoice]
  · intro q
    let u := s.makeOffer k c
    have hu : u.unmark k = (s.setCase c q).setCrewDyn k
        { d with offer := some ⟨c, .running s.settings.offerTimeout⟩, offerLost := none } := State.unmark_setCrewDyn _ _ _
    have hq : u.caseAt c = q := State.caseAt_setCase _ _ _
    have hanswers : u.Answers r 2 := h.of_within le_rfl h.ready.busy rfl rfl
      ((State.CommandsWithin.of_cases rfl).setCase (u := s) (.inr ⟨rfl, rfl, rfl⟩))
    have hinfo : u.offerInfo c = info c := by
      simp only [State.offerInfo, hq]
      rfl
    rw [← hu]
    refine finish_taken (q := .job) (F := fun v => v.withNotice c q .offered .none) hk (.inl hduty.duty) ?_ (.withNotice _ _ _ _ _)
      (hanswers.mono (Nat.le_succ 1)) (Runs.nil (n := 0) (hanswers.unmark k).ready.busy.withCrewAnswer) (by omega)
    have hmade : (repliesOn r tag k u .offer (some q.serial) (some (info c))).notify c .offered .none =
        (repliesOn r tag k u .offer (some q.serial) (some (info c))).withNotice c q .offered .none := by
      rw [repliesOn_apply]
      exact State.respond_notify (hanswers.unmark k).ready _ _ hq howed
    simp only [requestKind, jobRequest, show (s.crew k).dyn.offer = none from hoffer, hchoice, State.serialOf]
    rw [hq, hinfo, hmade]

end Sys2Proof.Machine
end

section
/-! SUPPORT. ACCEPT and DECLINE (R92, R96, R97, R99 to R102, R104). -/

namespace Sys2Proof.Machine

section

variable {s u : State} {k : CrewNo} {c : CaseNo} {r : Route} {tag : Nat} {code : AnswerCode} {named serial : Option (BitVec 16)}
  {info : Option OfferInfo} {x : Offer}

/-! ### Which case a request names (R58, R96, R97) -/

/-- A request names the offered case where it carries no serial, or one that the case is the lowest OPEN record to hold. -/
theorem State.namesOffer_iff : s.namesOffer x serial = true ↔ s.NamesCase serial x.case := by
  cases serial with
  | none => simp [State.namesOffer, State.NamesCase]
  | some n =>
    simp only [State.namesOffer, Option.all_some, beq_iff_eq, State.resolveSerial_eq_some, State.NamesCase]
    constructor
    · exact fun h => .inr ⟨n, rfl, h⟩
    · rintro (hnone | ⟨m, hm, h⟩)
      · exact nomatch hnone
      · obtain rfl := Option.some.inj hm
        exact h

/-! ### More that is done beside the lines -/

theorem State.Beside.comp {F G : State → State} (hF : u.Beside F) (hG : (F u).Beside G) : u.Beside fun v => G (F v) where
  setLine v l y := by rw [hF.setLine, hG.setLine]
  busy h := hG.busy (hF.busy h)
  lines := hG.lines.trans hF.lines
  settings := hG.settings.trans hF.settings
  lifts i := (hG.lifts i).trans (hF.lifts i)
  panels := hG.panels.trans hF.panels
  commands e hopen := by
    rcases hG.commands e hopen with hnone | ⟨hopens, hlift, hpending⟩
    · exact .inl hnone
    · rw [hlift, hpending]
      exact hF.commands e hopens

theorem State.Beside.withCall (u : State) (c : CaseNo) (q : Case) : u.Beside fun v => v.withCall c q :=
  ⟨fun _ _ _ => rfl, fun h => h, rfl, rfl, fun _ => rfl, rfl, .of_cases rfl⟩

/-- A case record is written beside the lines where it brings no command of its own. -/
theorem State.Beside.setCase {q : Case} (hq : q.pending = none ∨ (q.record = (u.caseAt c).record ∧
    q.lift = (u.caseAt c).lift ∧ q.pending = (u.caseAt c).pending)) : u.Beside fun v => v.setCase c q :=
  ⟨fun _ _ _ => rfl, fun h => h, rfl, rfl, fun _ => rfl, rfl, (State.CommandsWithin.of_cases rfl).setCase hq⟩

/-! ### DECLINE (R97) -/

theorem declineRequest_taken (hoffer : (s.crew k).dyn.offer = some x) (hnames : s.NamesCase serial x.case) (reply : Reply) :
    declineRequest s k serial reply = (givenUp (reply (s.declineOffer k x.case) .ok
      (some ((s.caseAt x.case).returned k).serial) none) k x.case .declined, []) := by
  have hserial : (s.declineOffer k x.case).serialOf x.case = ((s.caseAt x.case).returned k).serial := by
    rw [State.serialOf, State.declineOffer_eq, State.caseAt_setCase]
  simp only [declineRequest, hoffer, if_pos (State.namesOffer_iff.mpr hnames), hserial]

end

/-- Settles O49: the offer is given up by the steps it shares with its expiry, the answer going before the notices. -/
theorem declineReturnsTheCase : Obligations.DeclineReturnsTheCase := by
  intro s r tag k x serial h hduty hoffer hnames howed c q
  let u := s.declineOffer k c
  have hdecline : u = (s.setCrewDyn k { (s.crew k).dyn with offer := none }).setCase c q := State.declineOffer_eq s k c
  have hunmark : u.unmark k = (s.setCase c q).setCrewDyn k { (s.crew k).dyn with offer := none, offerLost := none } := by
    rw [hdecline]
    exact State.unmark_setCrewDyn (s.setCase c q) k { (s.crew k).dyn with offer := none }
  have hanswers : u.Answers r 3 := by
    rw [hdecline]
    exact h.of_within le_rfl h.ready.busy rfl rfl ((State.CommandsWithin.of_cases rfl).setCase (u := s) (.inr ⟨rfl, rfl, rfl⟩))
  have hq : (u.unmark k).caseAt c = q := by
    rw [hunmark]
    exact State.caseAt_setCase s c q
  have hcrew : ((u.unmark k).crew k).config = (s.crew k).config := by
    rw [hunmark, State.crew_setCrewDyn]
    rfl
  intro v
  have hv : v = (u.unmark k).withCrewAnswer r tag .ok (some q.serial) none := by rw [hunmark]
  rw [hv]
  have hnotices : givenUp (repliesOn r tag k u .ok (some q.serial) none) k c .declined =
      ((repliesOn r tag k u .ok (some q.serial) none).withNotice c q .declined (.tag (s.crew k).config.tag)).withCall c q := by
    rw [repliesOn_apply, givenUp_room (hanswers.unmark k).ready.respond.room (by rw [State.respond_caseAt, hq]; exact howed),
      State.respond_caseAt, State.respond_crew, hq, hcrew]
  refine finish_taken (q := .decline) (u := u) (n := 0)
    (F := fun v => (v.withNotice c q .declined (.tag (s.crew k).config.tag)).withCall c q)
    hduty.resolves (.inl hduty.duty) ?_ ((State.Beside.withNotice _ _ _ _ _).comp (.withCall _ _ _))
    (hanswers.mono (by omega)) (.nil (hanswers.unmark k).ready.busy.withCrewAnswer) (by omega)
  exact (declineRequest_taken hoffer hnames _).trans (congrArg (·, []) hnotices)

/-! ### ACCEPT (R92, R96, R101, R102) -/

section

variable {s u : State} {k : CrewNo} {c : CaseNo} {serial : Option (BitVec 16)} {x : Offer}

/-- The state once the lift of an accepted case is at the bottom of the rotation order, in ROTATE mode alone (R92). -/
def State.turned (s : State) (i : LiftIdx) : State :=
  { s with rotation := if s.settings.tieMode = .rotate then s.rotation.erase i ++ [i] else s.rotation }

/-- The state in which an accepted offer is judged: the offer cleared, the rotation order turned (R92, R96). -/
def State.accepting (s : State) (k : CrewNo) (c : CaseNo) : State :=
  (s.turned (s.caseAt c).lift).setCrewDyn k { (s.crew k).dyn with offer := none }

/-- The record of a case that is accepted by a crew that travels `v` (R96, R102). -/
def Case.assignedAt (a : Case) (now : BitVec 32) (v : Travel) : Case :=
  { a with dispatch := .assigned, acceptedAt := some now, window := .started v }

theorem acceptOffer_eq (s : State) (k : CrewNo) (c : CaseNo) (reply : Reply) :
    let t := s.accepting k c
    let assigned := t.assign k c
    let noted := (reply assigned .ok (some (assigned.serialOf c)) none).notify c .accepted .none
    acceptOffer s k c reply = if t.closesOnAccept c then closeCase (reply t .ok (some (t.serialOf c)) none) c .acknowledged
      else (if (noted.caseAt c).window.maxRunOut then becomeLate noted c else noted, []) := by
  have hturned : (if (s.clearOffer k).settings.tieMode = .rotate then (s.clearOffer k).toBottom ((s.clearOffer k).caseAt c).lift
      else s.clearOffer k) = s.accepting k c := by
    change (if s.settings.tieMode = .rotate then _ else _) = _
    by_cases hmode : s.settings.tieMode = .rotate
    · rw [if_pos hmode, State.accepting, State.turned, if_pos hmode]
      rfl
    · rw [if_neg hmode, State.accepting, State.turned, if_neg hmode]
      rfl
  simp only [acceptOffer, hturned]

theorem acceptRequest_taken (hoffer : (s.crew k).dyn.offer = some x) (hnames : s.NamesCase serial x.case) (reply : Reply) :
    acceptRequest s k serial reply = acceptOffer s k x.case reply := by
  simp only [acceptRequest, hoffer, if_pos (State.namesOffer_iff.mpr hnames)]

theorem State.closesOnAccept_iff : s.closesOnAccept c = true ↔
    ∀ y, (s.caseAt c).causes.has y = true → (s.classes[y.index.val]).closeOnAccept = true := by
  have hall (y : Cause) : y ∈ causeOrder := by cases y <;> decide
  simp only [State.closesOnAccept, CauseSet.toList, List.all_eq_true, List.mem_filter, hall, true_and]
  rfl

/-- The accepted case stands in the held list, its window started from the crew's line (R101, R102). -/
theorem State.accepting_assign (s : State) (k : CrewNo) (c : CaseNo) : (s.accepting k c).assign k c =
    ((s.turned (s.caseAt c).lift).setCase c ((s.caseAt c).assignedAt s.time.stamp
      (s.travelOf (s.startLine k) (lineOf (s.caseAt c).lift)))).setCrewDyn k
        { (s.crew k).dyn with offer := none, held := (s.crew k).dyn.held ++ [c] } := by
  have hcrew : (s.accepting k c).crew k = ⟨(s.crew k).config, { (s.crew k).dyn with offer := none }⟩ :=
    State.crew_setCrewDyn _ _ _
  have hstart : (s.accepting k c).startLine k = s.startLine k := by simp only [State.startLine, hcrew]
  simp only [State.assign, State.setCase_crew, hstart, hcrew]
  exact State.setCrewDyn_setCrewDyn ((s.turned _).setCase c _) k _ _

/-- The notices of an accepted case, with room for both: ACCEPTED, and LATE where the window's max is 0 (R96, R102, R104). -/
def State.acceptedNotices (u : State) (c : CaseNo) (q : Case) : State :=
  if q.window.maxRunOut then
    ((u.withNotice c q .accepted .none).setCase c q.madeLate).withNotice c q.madeLate .late .none
  else u.withNotice c q .accepted .none

theorem acceptedNotices_room {q : Case} (hq : u.caseAt c = q) (howed : q.owed = false)
    (hroom : u.trunk.own.length + 2 ≤ 32) :
    (if ((u.notify c .accepted .none).caseAt c).window.maxRunOut then becomeLate (u.notify c .accepted .none) c
      else u.notify c .accepted .none) = u.acceptedNotices c q := by
  have hcase : (u.withNotice c q .accepted .none).caseAt c = q := hq
  have hlate := becomeLate_room (s := u.withNotice c q .accepted .none) (c := c)
    (by simp only [State.withNotice, State.withBroadcast_length]; omega) (by rw [hcase]; exact howed)
  rw [State.notify_room u c .accepted .none (by omega) (by rw [hq]; exact howed), hq, hlate, hcase]
  rfl

/-- The notices of an accepted case are made beside the lines. -/
theorem State.Beside.acceptedNotices {q : Case} (hq : u.caseAt c = q) : u.Beside fun v => v.acceptedNotices c q := by
  unfold State.acceptedNotices
  split
  · refine ((State.Beside.withNotice u c q .accepted .none).comp (.setCase ?_)).comp (.withNotice _ _ _ _ _)
    refine .inr ⟨?_, ?_, ?_⟩ <;> exact hq ▸ rfl
  · exact .withNotice u c q .accepted .none

end

/-- Settles O47: the accepted case is put into the held list, answered, and noted; a max of 0 has run out at once. -/
theorem acceptAssignsTheCase : Obligations.AcceptAssignsTheCase := by
  intro s r tag k x serial h hduty hoffer hnames howed hkeeps c v q late order moved w
  let u := (s.accepting k c).assign k c
  have hu : u = (moved.setCase c q).setCrewDyn k { (s.crew k).dyn with offer := none, held := (s.crew k).dyn.held ++ [c] } :=
    s.accepting_assign k c
  have hunmark : u.unmark k = (moved.setCase c q).setCrewDyn k { (s.crew k).dyn with
      offer := none, held := (s.crew k).dyn.held ++ [c], offerLost := none } := by
    rw [hu]
    exact State.unmark_setCrewDyn _ _ _
  have hq : u.caseAt c = q := by
    rw [hu]
    exact State.caseAt_setCase moved c q
  have hanswers : u.Answers r 3 := by
    rw [hu]
    exact h.of_within le_rfl h.ready.busy rfl rfl ((State.CommandsWithin.of_cases rfl).setCase (u := moved) (.inr ⟨rfl, rfl, rfl⟩))
  have hopen : (s.accepting k c).closesOnAccept c = false := by
    refine Bool.eq_false_iff.mpr fun hcloses => ?_
    obtain ⟨y, hy, hstays⟩ := hkeeps
    exact Bool.false_ne_true (hstays.symm.trans (State.closesOnAccept_iff.mp hcloses y hy))
  have hkind : requestKind s k .accept serial (repliesOn r tag k) =
      ((repliesOn r tag k u .ok (some q.serial) none).acceptedNotices c q, []) := by
    have hroom : (repliesOn r tag k u .ok (some q.serial) none).trunk.own.length + 2 ≤ 32 := by
      rw [repliesOn_apply]
      exact (hanswers.unmark k).ready.respond.room
    have hcase : (repliesOn r tag k u .ok (some q.serial) none).caseAt c = q := by
      rw [repliesOn_apply, State.respond_caseAt]
      exact hq
    rw [← acceptedNotices_room hcase howed hroom]
    have hserial : u.serialOf c = q.serial := congrArg Case.serial hq
    refine (acceptRequest_taken hoffer hnames _).trans ((acceptOffer_eq s k c _).trans ?_)
    rw [if_neg (by rw [hopen]; exact Bool.false_ne_true), show ((s.accepting k c).assign k c).serialOf c = q.serial from hserial]
  have hexec : exec (.accept r tag serial) s =
      .next (((u.unmark k).withCrewAnswer r tag .ok (some q.serial) none).acceptedNotices c q) := by
    have hF := State.Beside.acceptedNotices (u := u.unmark k) (c := c) (q := q) hq
    have hbusy : (((u.unmark k).withCrewAnswer r tag .ok (some q.serial) none).acceptedNotices c q).Busy := by
      unfold State.acceptedNotices
      split <;> exact (hanswers.unmark k).ready.busy.withCrewAnswer
    exact finish_taken (q := .accept) (F := fun v => v.acceptedNotices c q) (n := 0) hduty.resolves (.inl hduty.duty) hkind hF
      (hanswers.mono (by omega)) (.nil hbusy) (by omega)
  rw [hexec, hunmark, State.acceptedNotices]
  exact congrArg Host.Outcome.next (if_congr beq_iff_eq rfl rfl)

end Sys2Proof.Machine
end

section
/-! SUPPORT. ARRIVED, VOICE and STAND_DOWN (R103, R105, R106), and closes that crew requests make (R76 to R78). -/

namespace Sys2Proof.Machine

/-! ### What a sent answer touches -/

section

variable {u : State} {k : CrewNo} {c : CaseNo} {i : LiftIdx} {r : Route} {tag : Nat} {code : AnswerCode}
  {named : Option (BitVec 16)} {info : Option OfferInfo}

/-- An answer on its route touches the port, or one line. -/
theorem State.withCrewAnswer_touches (u : State) (r : Route) (tag : Nat) (code : AnswerCode) (named : Option (BitVec 16))
    (info : Option OfferInfo) :
    ∃ trunk lines, u.withCrewAnswer r tag code named info = { u with trunk := trunk, lines := lines } := by
  cases r with
  | trunk o => exact ⟨_, u.lines, rfl⟩
  | panel p => exact ⟨u.trunk, _, rfl⟩

@[simp] theorem State.withCrewAnswer_cases : (u.withCrewAnswer r tag code named info).cases = u.cases := by
  obtain ⟨_, _, h⟩ := u.withCrewAnswer_touches r tag code named info
  rw [h]

@[simp] theorem State.withCrewAnswer_lifts : (u.withCrewAnswer r tag code named info).lifts = u.lifts := by
  obtain ⟨_, _, h⟩ := u.withCrewAnswer_touches r tag code named info
  rw [h]

@[simp] theorem State.withCrewAnswer_store : (u.withCrewAnswer r tag code named info).store = u.store := by
  obtain ⟨_, _, h⟩ := u.withCrewAnswer_touches r tag code named info
  rw [h]

@[simp] theorem State.withCrewAnswer_caseAt : (u.withCrewAnswer r tag code named info).caseAt c = u.caseAt c :=
  State.caseAt_congr State.withCrewAnswer_cases c

theorem State.Ready.withCrewAnswer {n : Nat} (h : u.Ready (n + 1)) : (u.withCrewAnswer r tag code named info).Ready n := by
  have hroom := h.room
  cases r with
  | trunk o => exact ⟨h.busy, by simp only [State.withCrewAnswer, State.withOwn_length]; omega⟩
  | panel p => exact ⟨h.busy, by change u.trunk.own.length + n ≤ 32; omega⟩

end

/-! ### ARRIVED (R103) -/

section

variable {s : State} {k : CrewNo} {c : CaseNo} {serial : Option (BitVec 16)}

/-- The ARRIVED means the ASSIGNED case `c`: the one of its serial, or the first such of the crew's held list (R103). -/
def State.ArrivesFor (s : State) (k : CrewNo) (serial : Option (BitVec 16)) (c : CaseNo) : Prop :=
  (serial = none ∧ (s.crew k).dyn.held ≠ [] ∧
      (s.heldOrder k).find? (fun e => (s.caseAt e).dispatch == .assigned) = some c) ∨
    ∃ n, serial = some n ∧ s.heldSerial k n = some c

theorem State.ArrivesFor.arrivedRequest (h : s.ArrivesFor k serial c) (hassigned : (s.caseAt c).dispatch = .assigned)
    (reply : Reply) : arrivedRequest s k serial reply = judgeArrival s k c reply := by
  rcases h with ⟨rfl, hheld, hfirst⟩ | ⟨n, rfl, hserial⟩
  · simp only [Machine.arrivedRequest, hfirst]
    exact if_neg (by simpa using hheld)
  · simp only [Machine.arrivedRequest, hserial]
    exact if_pos (by simpa using hassigned)

end

/-- Settles O50: the arrival is judged by the mark of the min timer, and its event marks the case. -/
theorem arrivalIsJudgedByTheMinTimer : Obligations.ArrivalIsJudgedByTheMinTimer := by
  intro s r tag k c serial h hduty hopen howed hassigned harrives hwait d a q q1
  have hjudged (reply : Reply) : requestKind s k .arrived serial reply = judgeArrival s k c reply :=
    State.ArrivesFor.arrivedRequest harrives hassigned reply
  constructor
  · intro hmin
    let u := s.setCase c q
    have hanswers : u.Answers r 2 := h.of_within le_rfl h.ready.busy rfl rfl
      ((State.CommandsWithin.of_cases rfl).setCase (u := s) (.inr ⟨rfl, rfl, rfl⟩))
    have hq : u.caseAt c = q := State.caseAt_setCase s c q
    let v := ((u.unmark k).withCrewAnswer r tag .ok (some a.serial) none).withNotice c q .arrived .none
    have hv : v.caseAt c = q := by
      change ((u.unmark k).withCrewAnswer r tag .ok (some a.serial) none).caseAt c = q
      rw [State.withCrewAnswer_caseAt]
      exact hq
    have hbusy : v.Busy := State.Busy.withCrewAnswer (u := u.unmark k) h.ready.busy
    have hevent := perform_event_unawaited (s := v) (c := c) (serial := a.serial) (e := .crewArrived)
      (by rw [State.isOpen, hv]; exact hopen) (by rw [hv]) (by decide) (by rw [hv]; exact hwait)
    rw [hv] at hevent
    refine finish_taken (q := .arrived) (F := fun v => v.withNotice c q .arrived .none) hduty.resolves (.inl hduty.duty)
      ((hjudged _).trans ?_) (.withNotice _ _ _ _ _) (hanswers.mono (by omega)) (Runs.one hbusy hevent hbusy) (by omega)
    have hnotice := State.respond_notify (r := r) (tag := tag) (code := .ok) (named := some a.serial) (info := none)
      (hanswers.unmark k).ready .arrived .none (c := c) (q := q) hq howed
    rw [← repliesOn_apply] at hnotice
    simp only [judgeArrival, show (s.caseAt c).window.minRunOut = true from hmin, if_true]
    exact congrArg (·, _) hnotice
  · intro hmin
    let n := min 15 (d.implausible + 1)
    let u := s.setCrewDyn k { d with implausible := n }
    have hanswers : u.Answers r 2 := h.setCrewDyn k _
    have hu : u.unmark k = s.setCrewDyn k { d with implausible := n, offerLost := none } := State.unmark_setCrewDyn _ _ _
    have hbusy : (((u.unmark k).withCrewAnswer r tag .implausible (some a.serial) none).withNotice c a .implausible
      (.count n)).Busy := State.Busy.withCrewAnswer (u := u.unmark k) h.ready.busy
    rw [← hu]
    refine finish_taken (q := .arrived) (F := fun v => v.withNotice c a .implausible (.count n)) (n := 0) hduty.resolves
      (.inl hduty.duty) ((hjudged _).trans ?_) (.withNotice _ _ _ _ _) (hanswers.mono (by omega)) (.nil hbusy) (by omega)
    have hnotice := State.respond_notify (r := r) (tag := tag) (code := .implausible) (named := some a.serial) (info := none)
      (hanswers.unmark k).ready .implausible (.count n) (c := c) (q := a) rfl howed
    rw [← repliesOn_apply] at hnotice
    simp only [judgeArrival, show (s.caseAt c).window.minRunOut = false from hmin, satInc_eq_min]
    exact congrArg (·, []) hnotice

end Sys2Proof.Machine
end

section
/-! SUPPORT. Closes that reopen (R66, R78), and the requests that close a case (R96, R106). -/

namespace Sys2Proof.Machine

/-! ### A close after which a fresh case opens at once (R78) -/

section

variable {s u : State} {c e : CaseNo} {i : LiftIdx} {set : CauseSet} {reason : CloseReason}

/-- Where all that is in the latches stands, pruning them changes nothing (R66). -/
theorem State.pruned_eq_self (h : ∀ j, (s.lift j).standingLatch = (s.lift j).dyn.latch) : s.pruned = s :=
  State.eq_of_lifts rfl fun j => by rw [State.pruned_lift, h j]

/-- The LEVEL causes that a reopening is of are the lift's true ones. -/
theorem State.Reopens.trueLevel_eq (h : s.Reopens c e set) : (s.lift (s.caseAt c).lift).trueLevel = set :=
  CauseSet.ext_has fun x => by
    rw [Lift.trueLevel, CauseSet.filter_has, Bool.eq_iff_iff, h.causes x]
    simp [and_assoc]

theorem State.openedIn_lift (s : State) (c : CaseNo) (i : LiftIdx) (set : CauseSet) (j : LiftIdx) :
    (s.openedIn c i set).lift j =
      if i = j then ⟨(s.lift i).config, { (s.lift i).dyn with openCase := some c, latch := .empty }⟩ else s.lift j :=
  State.lift_setLift_if s i j _

/-- An opening takes the lift's latch away, whatever is in it. -/
theorem State.setLatch_openedIn (s : State) (c : CaseNo) (i : LiftIdx) (set latch : CauseSet) :
    (s.setDyn i { (s.lift i).dyn with latch := latch }).openedIn c i set = s.openedIn c i set := by
  let t := s.setDyn i { (s.lift i).dyn with latch := latch }
  have hlift : t.lift i = ⟨(s.lift i).config, { (s.lift i).dyn with latch := latch }⟩ := State.lift_setDyn s i _
  have hrecord : t.recordAtOpening i set = s.recordAtOpening i set := by
    simp only [State.recordAtOpening, State.urgencyAtOpening, hlift]
    rfl
  have hlifts (x : Lift) : t.lifts.set i.val x = s.lifts.set i.val x := Vector.set_set _ _
  change t.openedIn c i set = _
  simp only [State.openedIn, hrecord, hlift, hlifts]
  rfl

/-- The lifts once a case has closed and its lift's true LEVEL causes are in the latch (R76, R78). -/
theorem State.Reopens.latched_lift (h : s.Reopens c e set) (j : LiftIdx) :
    ((s.closedOff c reason).addLatch (s.caseAt c).lift set).lift j = if (s.caseAt c).lift = j
      then ⟨(s.lift j).config, { (s.lift j).dyn with openCase := none, latch := set }⟩ else s.lift j := by
  let i := (s.caseAt c).lift
  have hclosed (j : LiftIdx) : (s.closedOff c reason).lift j =
      if i = j then ⟨(s.lift i).config, { (s.lift i).dyn with openCase := none }⟩ else s.lift j := s.closedOff_lift c reason j
  have hunion : CauseSet.empty.union set = set := CauseSet.ext_has fun x => by simp
  rw [State.addLatch, State.lift_setDyn_if]
  by_cases hj : i = j
  · subst hj
    rw [if_pos rfl, if_pos rfl, hclosed, if_pos rfl]
    dsimp only
    rw [h.latches, hunion]
  · rw [if_neg hj, if_neg hj, hclosed, if_neg hj]

/-- A close after which the lift's true LEVEL causes open a fresh case, with room for its notices (R66, R78). -/
theorem closeCase_reopens (hopen : s.isOpen c = true) (howed : (s.caseAt c).owed = false)
    (hroom : s.trunk.own.length + 3 ≤ 32) (h : s.Reopens c e set) : closeCase s c reason =
      ((s.closedOff c reason).openedIn e (s.caseAt c).lift set, [.go e 0 0 false]) := by
  let i := (s.caseAt c).lift
  let w := (s.closedOff c reason).addLatch i set
  have hlift (j : LiftIdx) : w.lift j = if i = j
      then ⟨(s.lift j).config, { (s.lift j).dyn with openCase := none, latch := set }⟩ else s.lift j := h.latched_lift j
  have hstanding (j : LiftIdx) : (w.lift j).standingLatch = (w.lift j).dyn.latch := by
    rw [hlift j]
    split
    · next hj =>
      refine CauseSet.ext_has fun x => ?_
      subst hj
      cases hx : set.has x with
      | false => simp [Lift.standingLatch, hx]
      | true =>
        obtain ⟨henabled, -, htruth⟩ := (h.causes x).mp hx
        simp [Lift.standingLatch, hx, i, henabled, htruth]
    · exact (Lift.standingLatch_empty (h.latches j)).trans (h.latches j).symm
  have hlatch : (w.lift i).standingLatch = set := by rw [hstanding, hlift, if_pos rfl]
  have hother (j : LiftIdx) (hj : (w.lift j).standingLatch ≠ .empty) : i = j := by
    by_contra hne
    rw [hstanding, hlift, if_neg hne] at hj
    exact hj (h.latches j)
  have hcase (d : CaseNo) : w.caseAt d = if c = d then .free else s.caseAt d := State.caseAt_setCase_if s c d .free
  have hfree : (w.caseAt e).record = .free := by
    rw [hcase]
    rcases h.place with rfl | hfree
    · rw [if_pos rfl]
      rfl
    · split
      · rfl
      · exact hfree
  have hlow (d : CaseNo) (hd : d < e) : (w.caseAt d).record ≠ .free := by
    obtain ⟨hne, hfull⟩ := h.lowest d hd
    rw [hcase, if_neg (Ne.symm hne)]
    exact hfull
  have hlength : w.trunk.own.length = s.trunk.own.length + 1 := State.withBroadcast_length _ _
  have hopens := arbitrate_opens (s := w) (c := e) (i := i) hfree hlow (by rw [hlatch]; exact h.some)
    (fun j hj => by obtain rfl := hother j hj; exact .inr ⟨rfl, le_rfl⟩) (by omega)
  rw [hlatch, State.pruned_eq_self hstanding] at hopens
  have hsame : w.openedIn e i set = (s.closedOff c reason).openedIn e i set := State.setLatch_openedIn _ _ _ _ _
  rw [hsame] at hopens
  have hempty (j : LiftIdx) : (((s.closedOff c reason).openedIn e i set).lift j).dyn.latch = .empty := by
    rw [State.openedIn_lift]
    split
    · rfl
    · next hj =>
      rw [State.closedOff_lift, if_neg hj]
      exact h.latches j
  rw [closeCase_room hopen howed (by omega), h.trueLevel_eq, hopens, State.fullIf_eq,
    if_neg fun hfull => hfull.2.elim fun j hj => hj (hempty j)]

/-- What a reopening needs is of the cases, the lifts and the store alone. -/
theorem State.Reopens.congr (h : s.Reopens c e set) (hcases : u.cases = s.cases) (hlifts : u.lifts = s.lifts)
    (hstore : u.store = s.store) : u.Reopens c e set := by
  have hcase (d : CaseNo) : u.caseAt d = s.caseAt d := State.caseAt_congr hcases d
  have hlift (j : LiftIdx) : u.lift j = s.lift j := State.lift_congr hlifts j
  have hstep (p : Procedure) : u.stepOf p = s.stepOf p := by simp only [State.stepOf, hstore]
  exact {
    latches := by simpa only [hlift] using h.latches
    causes := by simpa only [hcase, hlift] using h.causes
    some := h.some
    place := by simpa only [hcase] using h.place
    lowest := by simpa only [hcase] using h.lowest
    action := by simpa only [hcase, hlift, hstep] using h.action
    argument := by simpa only [hcase, hlift, hstep] using h.argument }

theorem State.NoReopening.congr (h : s.NoReopening i) (hlifts : u.lifts = s.lifts) : u.NoReopening i := by
  have hlift (j : LiftIdx) : u.lift j = s.lift j := State.lift_congr hlifts j
  exact ⟨by simpa only [hlift] using h.latches, by simpa only [hlift] using h.level⟩

/-- The fresh case's first step hands it over (R78, R125). -/
theorem State.Reopens.go (h : s.Reopens c e set) (hbusy : s.Busy) (hroom : s.trunk.own.length + 4 ≤ 32) :
    Runs 1 ((s.closedOff c reason).openedIn e (s.caseAt c).lift set) [.go e 0 0 false]
      ((s.closedOff c reason).openedAndHandedOver e (s.caseAt c).lift set) := by
  have hlength : (s.closedOff c reason).trunk.own.length = s.trunk.own.length + 1 := State.withBroadcast_length _ _
  have hconfig : ((s.closedOff c reason).lift (s.caseAt c).lift).config = (s.lift (s.caseAt c).lift).config := by
    rw [State.closedOff_lift, if_pos rfl]
  exact Runs.go_opened hbusy (by omega) (by rw [hconfig]; exact h.action) (by rw [hconfig]; exact h.argument)

/-! ### Closes beside the lines -/

theorem State.Beside.closedOff (u : State) (c : CaseNo) (reason : CloseReason) : u.Beside fun v => v.closedOff c reason where
  setLine _ _ _ := rfl
  busy h := h
  lines := rfl
  settings := rfl
  lifts j := by
    rw [State.closedOff_lift]
    split
    · next hj => rw [hj]
    · rfl
  panels := rfl
  commands := (State.CommandsWithin.of_cases rfl).setCase (u := u) (c := c) (q := .free) (.inl rfl)

theorem State.Beside.openedIn (u : State) (c : CaseNo) (i : LiftIdx) (set : CauseSet) :
    u.Beside fun v => v.openedIn c i set where
  setLine _ _ _ := rfl
  busy h := h
  lines := rfl
  settings := rfl
  lifts j := by
    rw [State.openedIn_lift]
    split
    · next hj => rw [hj]
    · rfl
  panels := rfl
  commands := (State.CommandsWithin.of_cases rfl).setCase (u := u) (c := c) (q := u.recordAtOpening i set) (.inl rfl)

end

/-! ### VOICE and STAND_DOWN (R105, R106) -/

/-- Settles O51: the event marks the held case, and the close goes by what the lift then reopens. -/
theorem voiceAndStandDownReachTheHeldCase : Obligations.VoiceAndStandDownReachTheHeldCase := by
  constructor
  · intro s r tag k c serial h hduty hnamed hopen hwait a q
    let v := (s.unmark k).withCrewAnswer r tag .ok (some a.serial) none
    have hv : v.caseAt c = a := State.withCrewAnswer_caseAt
    have hbusy : v.Busy := State.Busy.withCrewAnswer (u := s.unmark k) h.ready.busy
    have hevent := perform_event_unawaited (s := v) (c := c) (serial := a.serial) (e := .voiceContact)
      (by rw [State.isOpen, hv]; exact hopen) (by rw [hv]) (by decide) (by rw [hv]; exact hwait)
    rw [hv] at hevent
    refine finish_taken (q := .voice) (F := fun v => v) hduty.resolves (.inl hduty.duty) ?_ (.id _) h
      (Runs.one hbusy hevent hbusy) (by omega)
    simp only [requestKind, voiceRequest, hnamed]
    rfl
  · intro s r tag k c serial h hduty hnamed hopen howed u
    let v := (s.unmark k).withCrewAnswer r tag .ok (some (s.caseAt c).serial) none
    have hv : v.caseAt c = s.caseAt c := State.withCrewAnswer_caseAt
    have hbusy : v.Busy := State.Busy.withCrewAnswer (u := s.unmark k) h.ready.busy
    have hlifts : v.lifts = s.lifts := State.withCrewAnswer_lifts
    have hvopen : v.isOpen c = true := by rw [State.isOpen, hv]; exact hopen
    have hvowed : (v.caseAt c).owed = false := by rw [hv]; exact howed
    have hstood {t : State} {n : Nat} (hruns : Runs n v [.close c .stoodDown] t) (hn : n < 9000) :
        exec (.standDown r tag serial) s = .next t := by
      refine finish_taken (q := .standDown) (F := fun v => v) hduty.resolves (.inl hduty.duty) ?_ (.id _)
        (h.mono (Nat.le_succ 1)) hruns hn
      simp only [requestKind, standDownRequest, hnamed]
      rfl
    refine ⟨fun hquiet => ?_, fun e set h5 hreopens => ?_⟩
    · have hroom : v.trunk.own.length + 1 ≤ 32 := (h.unmark k).ready.withCrewAnswer.room
      have hclose := closeCase_quiet (reason := .stoodDown) hvopen hvowed hroom (by rw [hv]; exact hquiet.congr hlifts)
      exact hstood (Runs.one hbusy hclose hbusy) (by omega)
    · have hroom : v.trunk.own.length + 4 ≤ 32 := (h5.unmark k).ready.withCrewAnswer.room
      have hvreopens : v.Reopens c e set := hreopens.congr State.withCrewAnswer_cases hlifts State.withCrewAnswer_store
      have hclose := closeCase_reopens (reason := .stoodDown) hvopen hvowed (by omega) hvreopens
      have hgo := hvreopens.go (reason := .stoodDown) hbusy hroom
      rw [hv] at hclose hgo
      exact hstood (Runs.of_step hbusy hclose hgo) (by omega)

end Sys2Proof.Machine
end

section
/-! SUPPORT. ACCEPT and DECLINE that assign no case (R96, R97, R99). -/

namespace Sys2Proof.Machine

section

variable {s u : State} {k : CrewNo} {c : CaseNo} {r : Route} {tag : Nat} {code : AnswerCode} {named serial : Option (BitVec 16)}
  {info : Option OfferInfo} {x : Offer}

/-! ### Requests that no offer answers (R96, R97) -/

theorem acceptRequest_misnamed (hoffer : (s.crew k).dyn.offer = some x) (hnames : ¬ s.NamesCase serial x.case)
    (reply : Reply) : acceptRequest s k serial reply = (reply s .wrongState none none, []) := by
  simp only [acceptRequest, hoffer, if_neg (mt State.namesOffer_iff.mp hnames)]

theorem declineRequest_misnamed (hoffer : (s.crew k).dyn.offer = some x) (hnames : ¬ s.NamesCase serial x.case)
    (reply : Reply) : declineRequest s k serial reply = (reply s .wrongState none none, []) := by
  simp only [declineRequest, hoffer, if_neg (mt State.namesOffer_iff.mp hnames)]

theorem acceptRequest_unoffered (hoffer : (s.crew k).dyn.offer = none) (reply : Reply) :
    acceptRequest s k serial reply = noOfferReply s k reply := by
  simp only [acceptRequest, hoffer]

theorem declineRequest_unoffered (hoffer : (s.crew k).dyn.offer = none) (reply : Reply) :
    declineRequest s k serial reply = noOfferReply s k reply := by
  simp only [declineRequest, hoffer]

/-! ### An ACCEPT that closes its case (R96) -/

@[simp] theorem State.respond_cases : (u.respond r tag code named info).cases = u.cases := by
  obtain ⟨_, _, h⟩ := u.respond_touches r tag code named info
  rw [h]

@[simp] theorem State.respond_lifts : (u.respond r tag code named info).lifts = u.lifts := by
  obtain ⟨_, _, h⟩ := u.respond_touches r tag code named info
  rw [h]

@[simp] theorem State.respond_store : (u.respond r tag code named info).store = u.store := by
  obtain ⟨_, _, h⟩ := u.respond_touches r tag code named info
  rw [h]

theorem State.Answers.accepting {n : Nat} (h : s.Answers r n) (k : CrewNo) (c : CaseNo) : (s.accepting k c).Answers r n :=
  h.of_within le_rfl h.ready.busy rfl rfl (.of_cases rfl)

/-- An ACCEPT of a case whose every cause closes on accept goes on with the close, from the answered state. -/
theorem acceptRequest_closes (hoffer : (s.crew k).dyn.offer = some x) (hnames : s.NamesCase serial x.case)
    (hcloses : ∀ y, (s.caseAt x.case).causes.has y = true → (s.classes[y.index.val]).closeOnAccept = true) (reply : Reply) :
    acceptRequest s k serial reply = closeCase (reply (s.accepting k x.case) .ok (some (s.caseAt x.case).serial) none)
      x.case .acknowledged := by
  rw [acceptRequest_taken hoffer hnames, acceptOffer_eq]
  exact if_pos (State.closesOnAccept_iff.mpr hcloses)

end

/-- Settles O48: each request that takes no case is answered at once; an ACCEPT that closes goes by what the lift then
reopens. -/
theorem acceptsAndDeclinesThatTakeNoCase : Obligations.AcceptsAndDeclinesThatTakeNoCase := by
  intro s r tag k serial h hduty d only
  have hanswered {q : CrewRequest} {code : AnswerCode} {n : Option (BitVec 16)}
      (hkind : requestKind s k q serial (repliesOn r tag k) = (repliesOn r tag k s code n none, [])) :
      finish (crewRequest s r tag (some q) serial) = .next (only code n) :=
    finish_taken_only hduty.resolves (.inl hduty.duty) hkind (h.mono (Nat.le_succ 1))
  refine ⟨fun x hoffer hnames => ⟨hanswered (q := .accept) (acceptRequest_misnamed hoffer hnames _),
    hanswered (q := .decline) (declineRequest_misnamed hoffer hnames _)⟩, fun n hoffer hlost => ?_, fun hoffer hlost => ?_,
    fun x hoffer hnames hopen howed hcloses => ?_⟩
  · have hgone (reply : Reply) : noOfferReply s k reply = (reply s .gone (some n) none, []) := by
      simp only [noOfferReply, show (s.crew k).dyn.offerLost = some n from hlost]
    exact ⟨hanswered (q := .accept) ((acceptRequest_unoffered hoffer _).trans (hgone _)),
      hanswered (q := .decline) ((declineRequest_unoffered hoffer _).trans (hgone _))⟩
  · have hwrong (reply : Reply) : noOfferReply s k reply = (reply s .wrongState none none, []) := by
      simp only [noOfferReply, show (s.crew k).dyn.offerLost = none from hlost]
    exact ⟨hanswered (q := .accept) ((acceptRequest_unoffered hoffer _).trans (hwrong _)),
      hanswered (q := .decline) ((declineRequest_unoffered hoffer _).trans (hwrong _))⟩
  · intro i order moved u
    let c := x.case
    let t := (s.accepting k c).unmark k
    let v := t.respond r tag .ok (some (s.caseAt c).serial) none
    let w := t.withCrewAnswer r tag .ok (some (s.caseAt c).serial) none
    have ht : t = moved.setCrewDyn k { d with offer := none, offerLost := none } := State.unmark_setCrewDyn _ _ _
    have hu : u = w.closedOff c .acknowledged := by rw [show w = t.withCrewAnswer r tag .ok _ none from rfl, ht]
    have hanswers : t.Answers r 2 := (h.accepting k c).unmark k
    have hcase : v.caseAt c = s.caseAt c := State.respond_caseAt
    have hvopen : v.isOpen c = true := by rw [State.isOpen, hcase]; exact hopen
    have hvowed : (v.caseAt c).owed = false := by rw [hcase]; exact howed
    have hkind : requestKind s k .accept serial (repliesOn r tag k) = closeCase v c .acknowledged := by
      refine (acceptRequest_closes hoffer hnames hcloses _).trans ?_
      rw [repliesOn_apply]
    have hexec {F : State → State} {jobs : List Job} {y : State} {n : Nat} (hclose : closeCase v c .acknowledged = (F v, jobs))
        (hF : t.Beside F) (hruns : Runs n (F w) jobs y) (hn : n < 9000) : exec (.accept r tag serial) s = .next y := by
      refine finish_taken (q := .accept) (F := F) (u := s.accepting k c) hduty.resolves (.inl hduty.duty) ?_ hF
        ((h.accepting k c).mono (Nat.le_succ 1)) hruns hn
      rw [hkind, hclose, repliesOn_apply]
    have hbusy : w.Busy := State.Busy.withCrewAnswer hanswers.ready.busy
    refine ⟨fun hquiet => ?_, fun e set h5 hreopens => ?_⟩
    · have hroom : v.trunk.own.length + 1 ≤ 32 := hanswers.ready.respond.room
      have hclose := closeCase_quiet (reason := .acknowledged) hvopen hvowed hroom
        (by rw [hcase]; exact hquiet.congr State.respond_lifts)
      rw [hu]
      exact hexec (F := fun v => v.closedOff c .acknowledged) (n := 0) hclose (.closedOff t c _) (.nil hbusy) (by omega)
    · have h5t : t.Answers r 5 := (h5.accepting k c).unmark k
      have hroom : v.trunk.own.length + 4 ≤ 32 := h5t.ready.respond.room
      have hwcase : w.caseAt c = s.caseAt c := State.withCrewAnswer_caseAt
      have hvreopens : v.Reopens c e set := hreopens.congr State.respond_cases State.respond_lifts State.respond_store
      have hwreopens : w.Reopens c e set :=
        hreopens.congr State.withCrewAnswer_cases State.withCrewAnswer_lifts State.withCrewAnswer_store
      have hclose := closeCase_reopens (reason := .acknowledged) hvopen hvowed (by omega) hvreopens
      have hgo := hwreopens.go (reason := .acknowledged) hbusy h5t.ready.withCrewAnswer.room
      rw [hcase] at hclose
      rw [hwcase] at hgo
      rw [hu]
      exact hexec (F := fun v => (v.closedOff c .acknowledged).openedIn e i set) hclose
        ((State.Beside.closedOff t c _).comp (.openedIn _ e i set)) hgo (by omega)

end Sys2Proof.Machine
end

section
/-! SUPPORT. The expiries of a case's step timer and settle timer (R117, R121, R124, R136, R139), where the step that fails
branches to an END(HANDOVER) (R111, R115, R125). -/

namespace Sys2Proof.Machine

/-! ### The records that a failed step leaves -/

section

variable {r : Case} {step : Fin 16} {common : Bool}

/-- A handover of a procedure that waits for no delivery leaves the command (R115). -/
theorem Case.handedOver_undelivered (hwait : r.procedure.wait ≠ .delivery) :
    r.handedOver = { r with procedure := { r.procedure.unwaited with status := .handedOver } } := by
  cases hpending : r.pending <;> simp [Case.handedOver, Procedure.unwaited, hwait, hpending]

/-- A handover of a procedure that waits for a delivery withdraws its command (R115, R117). -/
theorem Case.handedOver_awaiting (hwait : r.procedure.wait = .delivery) : r.handedOver =
    { r.withdraw .procedure with procedure := { r.procedure.unwaited with status := .handedOver } } := by
  cases hpending : r.pending with
  | none => simp [Case.handedOver, Procedure.unwaited, Case.withdraw, hpending]
  | some q =>
    by_cases howner : q.owner = .procedure <;>
      simp [Case.handedOver, Procedure.unwaited, Case.withdraw, hwait, hpending, howner]

/-- The record moved to a step (R112). -/
def Case.movedTo (r : Case) (step : Fin 16) (common : Bool) : Case := { r with procedure := r.procedure.at step common }

/-- What a failed step that waits for no delivery leaves, where its branch hands the procedure over. -/
theorem Case.handedOver_movedTo_undelivered (hwait : r.procedure.wait ≠ .delivery) :
    (r.movedTo step common).handedOver = r.handedAt step common :=
  Case.handedOver_undelivered (r := r.movedTo step common) hwait

/-- What a failed command step leaves, where its branch hands the procedure over: the command is withdrawn (R117). -/
theorem Case.handedOver_movedTo_awaiting (hwait : r.procedure.wait = .delivery) :
    (r.movedTo step common).handedOver = (r.withdraw .procedure).handedAt step common := by
  have hwithdraw : (r.movedTo step common).withdraw .procedure = (r.withdraw .procedure).movedTo step common := by
    cases hpending : r.pending with
    | none => simp [Case.withdraw, Case.movedTo, hpending]
    | some q => by_cases howner : q.owner = .procedure <;> simp [Case.withdraw, Case.movedTo, hpending, howner]
  rw [Case.handedOver_awaiting (r := r.movedTo step common) hwait, hwithdraw, Case.handedAt, Case.withdraw_procedure]
  rfl

/-- The record without its release, where there is one (R132). -/
theorem Case.withoutRelease_of_some {q : Release} (hq : r.release = some q) : r.withoutRelease = { r with
    release := none
    pending := match r.pending with
      | some m => if q.sub = .pulsePending ∧ m.owner = .release then none else some m
      | none => none } := by
  by_cases hsub : q.sub = .pulsePending
  · cases hpending : r.pending with
    | none => simp [Case.withoutRelease, Case.withdraw, hq, hsub, hpending]
    | some m => by_cases howner : m.owner = .release <;> simp [Case.withoutRelease, Case.withdraw, hq, hsub, hpending, howner]
  · cases hpending : r.pending <;> simp [Case.withoutRelease, hq, hsub, hpending]

/-- Where no pulse is pending, no command is withdrawn with the release (R132). -/
theorem Case.withoutRelease_of_unpulsed {q : Release} (hq : r.release = some q) (hsub : q.sub ≠ .pulsePending) :
    r.withoutRelease = { r with release := none } := by
  simp [Case.withoutRelease, hq, hsub]

end

section

variable {s : State} {c : CaseNo}

/-! ### The waits that end -/

/-- The failing step of case record `c` branches to an END(HANDOVER). -/
def State.BranchEnds (s : State) (c : CaseNo) : Prop :=
  s.EndsAt (s.caseAt c).procedure (s.stepOf (s.caseAt c).procedure).target (s.stepOf (s.caseAt c).procedure).common

/-- The record of a case whose step has failed and branched to an END(HANDOVER). -/
def State.failedTo (s : State) (c : CaseNo) (r : Case) : Case :=
  r.handedAt (s.stepOf (s.caseAt c).procedure).target (s.stepOf (s.caseAt c).procedure).common

theorem stepExpired_event {e : NamedEvent} (hwait : (s.caseAt c).procedure.wait = .event e) :
    stepExpired s c = failWait s c := by
  simp only [stepExpired, hwait]

theorem stepExpired_delivery (hwait : (s.caseAt c).procedure.wait = .delivery) :
    stepExpired s c = failWait (s.setCase c ((s.caseAt c).withdraw .procedure)) c := by
  simp only [stepExpired, hwait]

theorem stepExpired_release {q : Release} (hwait : (s.caseAt c).procedure.wait = .release) (hq : (s.caseAt c).release = some q) :
    stepExpired s c = failWait (dropRelease s c (.aborted .timeout)) c := by
  simp only [stepExpired, hwait, hq, Option.isSome_some, if_true]

/-- The step timer of an open case whose procedure runs is due (R111). -/
structure State.StepDue (s : State) (c : CaseNo) : Prop where
  opened : s.isOpen c = true
  running : (s.caseAt c).procedure.status = .running
  due : (s.caseAt c).procedure.timer = .due

theorem exec_stepTimerExpiry (h : s.StepDue c) : exec (.stepTimerExpiry c) s = finish (stepExpired s c) :=
  if_pos (by simp [h.opened, h.running, h.due])

theorem exec_settleTimerExpiry {q : Release} (hopen : s.isOpen c = true) (hq : (s.caseAt c).release = some q)
    (hsub : q.sub = .settling) (hdue : q.settle = .due) :
    exec (.settleTimerExpiry c) s = finish (endRelease s c (.aborted .noEcho)) := by
  change execSettleTimerExpiry c s = _
  simp only [execSettleTimerExpiry, hq]
  exact if_pos (by simp [hopen, hsub, hdue])

/-! ### The step timer of a WAIT or of a command (R117, R121) -/

/-- Where the procedure waits for an event or a delivery, the handover is that of the record moved to the branch. -/
theorem exec_stepTimerExpiry_ending (hready : s.Ready 1) (h : s.StepDue c) (howed : (s.caseAt c).owed = false)
    (hwait : (∃ e, (s.caseAt c).procedure.wait = .event e) ∨ (s.caseAt c).procedure.wait = .delivery) (hend : s.BranchEnds c) :
    let p := (s.caseAt c).procedure
    let r := ((s.caseAt c).movedTo (s.stepOf p).target (s.stepOf p).common).handedOver
    exec (.stepTimerExpiry c) s = .next ((s.setCase c r).withNotice c r .handover (.handover .ended)) := by
  intro p r
  rw [exec_stepTimerExpiry h]
  rcases hwait with ⟨e, hwait⟩ | hwait
  · have hr : r = s.failedTo c (s.caseAt c) :=
      Case.handedOver_movedTo_undelivered (hwait.trans_ne Wait.noConfusion)
    rw [stepExpired_event hwait, hr]
    exact (Runs.failWait_ending hready.busy h.opened h.running hready.room howed hend).finish_eq (by decide)
  · let u := s.setCase c ((s.caseAt c).withdraw .procedure)
    have hcase : u.caseAt c = (s.caseAt c).withdraw .procedure := State.caseAt_setCase _ _ _
    have hp : (u.caseAt c).procedure = p := by rw [hcase, Case.withdraw_procedure]
    have hr : r = s.failedTo c ((s.caseAt c).withdraw .procedure) := Case.handedOver_movedTo_awaiting hwait
    have hruns := Runs.failWait_ending (s := u) (c := c) hready.busy
      (by rw [State.isOpen, hcase, Case.withdraw_record]; exact h.opened) (by rw [hp]; exact h.running) hready.room
      (by rw [hcase, Case.withdraw_owed]; exact howed) (by rw [hp]; exact ⟨hend.action, hend.argument⟩)
    rw [stepExpired_delivery hwait, hr]
    rw [hp, hcase] at hruns
    simp only [u, State.setCase_setCase] at hruns
    exact hruns.finish_eq (by decide)

/-! ### A release that ends under the step that waits for it (R124, R132, R136, R139) -/

/-- The state once the release of record `c` has been aborted, with its notice (R132, R141). -/
def State.releaseAborted (s : State) (c : CaseNo) (why : AbortReason) : State :=
  (s.setCase c (s.caseAt c).withoutRelease).withNotice c (s.caseAt c).withoutRelease .releaseAborted
    (.aborted why (s.caseAt c).pulses)

/-- The abort is told first; then the step fails, and its branch hands the procedure over. -/
theorem finish_failWait_releaseAborted (why : AbortReason) (hready : s.Ready 2) (hopen : s.isOpen c = true)
    (hrun : (s.caseAt c).procedure.status = .running) (howed : (s.caseAt c).owed = false) (hend : s.BranchEnds c) :
    let r := s.failedTo c (s.caseAt c).withoutRelease
    finish (failWait (s.releaseAborted c why) c) =
      .next (((s.releaseAborted c why).setCase c r).withNotice c r .handover (.handover .ended)) := by
  intro r
  have hcase : (s.releaseAborted c why).caseAt c = (s.caseAt c).withoutRelease := State.caseAt_setCase _ _ _
  have hp : ((s.releaseAborted c why).caseAt c).procedure = (s.caseAt c).procedure := by
    rw [hcase, Case.withoutRelease_procedure]
  have hroom : (s.releaseAborted c why).trunk.own.length < 32 := (State.withBroadcast_length _ _).trans_lt hready.room
  have hruns := Runs.failWait_ending (s := s.releaseAborted c why) (c := c) hready.busy
    (by rw [State.isOpen, hcase, Case.withoutRelease_record]; exact hopen) (by rw [hp]; exact hrun) hroom
    (by rw [hcase, Case.withoutRelease_owed]; exact howed) (by rw [hp]; exact ⟨hend.action, hend.argument⟩)
  rw [hp, hcase] at hruns
  exact hruns.finish_eq (by decide)

end

/-- Settles O18: the step timer ends the wait it was started for, the settle timer the release; what waits then fails its step. -/
theorem stepAndSettleTimersEndTheirWaits : Obligations.StepAndSettleTimersEndTheirWaits := by
  refine ⟨?_, ?_, ?_⟩
  · intro s c hready hopen howed hrun hdue hwait p at' haction hargument
    exact exec_stepTimerExpiry_ending hready ⟨hopen, hrun, hdue⟩ howed hwait ⟨haction, hargument⟩
  · intro s c q hready hopen howed hq hrun hwait p at' haction hargument ended handed after
    have hroom : s.trunk.own.length < 32 := Nat.lt_of_succ_lt hready.room
    have hended : (s.caseAt c).withoutRelease = ended := Case.withoutRelease_of_some hq
    have hafter (why : AbortReason) : finish (failWait (s.releaseAborted c why) c) = .next (after why) := by
      refine (finish_failWait_releaseAborted why hready hopen hrun howed ⟨haction, hargument⟩).trans ?_
      simp only [State.releaseAborted, hended]
      rfl
    refine ⟨fun hdue => ?_, fun hsub hdue => ?_⟩
    · rw [exec_stepTimerExpiry ⟨hopen, hrun, hdue⟩, stepExpired_release hwait hq, dropRelease_room _ hroom howed]
      exact hafter .timeout
    · rw [exec_settleTimerExpiry hopen hq hsub hdue, endRelease_awaited _ hroom howed hrun hwait]
      exact hafter .noEcho
  · intro s c q hready hopen howed hq hsub hdue hunawaited r
    have hr : (s.caseAt c).withoutRelease = r := Case.withoutRelease_of_unpulsed hq (by rw [hsub]; exact SubState.noConfusion)
    rw [exec_settleTimerExpiry hopen hq hsub hdue, endRelease_unawaited _ hready.room howed hunawaited, hr]
    exact finish_busy hready.busy

end Sys2Proof.Machine
end

section
/-! SUPPORT. What a step reads of its record, its lift and its case (R118, R120, R122, section 11.3). -/

namespace Sys2Proof.Machine

/-! ### The arguments of WAIT and TEST (section 11.3) -/

theorem decodeEvent_none {k : Nat} (h : k = 0 ∨ 6 < k) : decodeEvent k = none := by
  unfold decodeEvent
  split
  case h_7 => rfl
  all_goals omega

/-- A code that names no action (R114). -/
theorem StepRecord.decoded_none {r : StepRecord} (h : r.action = 0 ∨ 12 < r.action) : r.decoded = none := by
  unfold StepRecord.decoded
  split
  case h_13 => rfl
  all_goals omega

/-- The argument of WAIT counts the named events from 1. -/
theorem decodeEvent_listed {k : Nat} {e : NamedEvent} (hk : 0 < k)
    (h : [NamedEvent.voiceContact, .crewArrived, .carMoved, .doorsOpen, .inZone, .evacuated][k - 1]? = some e) :
    decodeEvent k = some e := by
  obtain ⟨n, rfl⟩ := Nat.exists_eq_add_of_lt hk
  have hn : n < 6 := by simpa using (List.getElem?_eq_some_iff.mp h).1
  interval_cases n <;> exact h

theorem decodeCondition_some {k : Nat} (h1 : 1 ≤ k) (h5 : k ≤ 5) : ∃ x, decodeCondition k = some x := by
  interval_cases k <;> exact ⟨_, rfl⟩

theorem decodeCondition_range {k : Nat} {x : Condition} (h : decodeCondition k = some x) : 1 ≤ k ∧ k ≤ 5 := by
  unfold decodeCondition at h
  split at h <;> simp at h ⊢

theorem decodeSense_range {k : Nat} {b : Bool} (h : decodeSense k = some b) : 1 ≤ k ∧ k ≤ 2 := by
  unfold decodeSense at h
  split at h <;> simp at h ⊢

theorem decodeTest_eq {sense cond : Nat} {x : Condition} {b : Bool} (hs : decodeSense sense = some b)
    (hc : decodeCondition cond = some x) : decodeTest (16 * sense + cond) = some (.test x b) := by
  have hsense := decodeSense_range hs
  have hcond := decodeCondition_range hc
  have hlow : (16 * sense + cond) % 8 = cond := by omega
  have hhigh : (16 * sense + cond) / 16 % 4 = sense := by omega
  simp only [decodeTest, hlow, hhigh, hs, hc]
  exact if_pos (by simp only [Bool.and_eq_true, decide_eq_true_eq]; omega)

theorem decodeTest_none {a : Nat}
    (h : ∀ sense cond, 1 ≤ sense → sense ≤ 2 → 1 ≤ cond → cond ≤ 5 → a ≠ 16 * sense + cond) : decodeTest a = none := by
  unfold decodeTest
  split
  · next x b hc hs =>
    obtain ⟨hs1, hs2⟩ := decodeSense_range hs
    obtain ⟨hc1, hc5⟩ := decodeCondition_range hc
    refine if_neg fun hbits => h _ _ hs1 hs2 hc1 hc5 ?_
    simp only [Bool.and_eq_true, decide_eq_true_eq] at hbits
    omega
  · rfl

theorem decodeEnd_none {k : Nat} (h1 : k ≠ 1) (h2 : k ≠ 2) : decodeEnd k = none := by
  unfold decodeEnd
  split
  case h_3 => rfl
  all_goals omega

/-! ### What the last report and the case say -/

theorem Lift.reports_iff {r : Lift} {p : CarRecord → Bool} :
    r.reports p = true ↔ ∃ n, r.dyn.lastReport = some n ∧ p n = true := by
  cases hreport : r.dyn.lastReport <;> simp [Lift.reports, hreport]

section

variable {s : State} {c : CaseNo}

theorem State.mayRestore_iff : s.mayRestore c = true ↔
    ∃ n, (s.lift (s.caseAt c).lift).dyn.lastReport = some n ∧ (n.occupancy = .empty ∨ n.inZone = true) := by
  simp [State.mayRestore, Lift.reports_iff]

theorem State.eventCome_iff {e : NamedEvent} : s.eventCome c e = true ↔
    (s.caseAt c).seen.has e = true ∨ (e = .inZone ∧ (s.lift (s.caseAt c).lift).dyn.state = .parked) ∨
      (e = .doorsOpen ∧ ∃ n, (s.lift (s.caseAt c).lift).dyn.lastReport = some n ∧ n.doors = .opened) ∨
      (e = .evacuated ∧ ∃ n, (s.lift (s.caseAt c).lift).dyn.lastReport = some n ∧
        n.occupancy = .empty ∧ n.doors = .opened ∧ n.inZone = true) := by
  cases e <;> simp [State.eventCome, Lift.reports_iff, and_assoc]

theorem State.condition_planAllowed_iff : s.condition c .planAllowed = true ↔
    ∃ n direction target d needed, (s.lift (s.caseAt c).lift).dyn.lastReport = some n ∧
      planOf (s.lift (s.caseAt c).lift).config n.position n.load (s.caseAt c).pulses = .allowed direction target d needed := by
  simp only [State.condition, State.planFor]
  cases (s.lift (s.caseAt c).lift).dyn.lastReport with
  | none => simp
  | some n =>
    cases hplan : planOf (s.lift (s.caseAt c).lift).config n.position n.load (s.caseAt c).pulses <;> simp [hplan]

/-- The condition that each code names (R122). -/
theorem State.condition_iff {k : Nat} {x : Condition} (h : decodeCondition k = some x) : s.condition c x = true ↔
    (k = 1 ∧ ∃ n, (s.lift (s.caseAt c).lift).dyn.lastReport = some n ∧ n.occupancy = .occupied) ∨
    (k = 2 ∧ (s.lift (s.caseAt c).lift).dyn.state = .parked) ∨
    (k = 3 ∧ ∃ n direction target d needed, (s.lift (s.caseAt c).lift).dyn.lastReport = some n ∧
      planOf (s.lift (s.caseAt c).lift).config n.position n.load (s.caseAt c).pulses = .allowed direction target d needed) ∨
    (k = 4 ∧ (s.caseAt c).dispatch = .onSite) ∨
    (k = 5 ∧ ∃ n, (s.lift (s.caseAt c).lift).dyn.lastReport = some n ∧ n.mode = .inhibited) := by
  obtain ⟨h1, h5⟩ := decodeCondition_range h
  interval_cases k <;> obtain rfl := Option.some.inj h
  pick_goal 3
  · simpa using State.condition_planAllowed_iff
  all_goals simp [State.condition, Lift.occupied, Lift.reports_iff]

/-! ### A change of the procedure alone leaves what a step reads -/

variable {p : Procedure}

theorem State.setProcedure_mayRestore : (s.setProcedure c p).mayRestore c = s.mayRestore c := by
  simp only [State.mayRestore, State.caseAt_setProcedure, State.setProcedure_lift]

theorem State.setProcedure_eventCome (e : NamedEvent) : (s.setProcedure c p).eventCome c e = s.eventCome c e := by
  simp only [State.eventCome, State.caseAt_setProcedure, State.setProcedure_lift]

theorem State.setProcedure_condition (x : Condition) : (s.setProcedure c p).condition c x = s.condition c x := by
  cases x <;> simp only [State.condition, State.planFor, State.caseAt_setProcedure, State.setProcedure_lift]

theorem State.setProcedure_releaseStart : (s.setProcedure c p).releaseStart c = s.releaseStart c := by
  simp only [State.releaseStart, State.crewPanel, State.caseAt_setProcedure, State.setProcedure_lift,
    State.setProcedure_panel, State.setProcedure_crew]

end

end Sys2Proof.Machine
end

section
/-! SUPPORT. The steps of an activation (R112 to R125), and a clearing by dispatch state (R75). -/

namespace Sys2Proof.Machine

section

variable {s : State} {c : CaseNo} {begun : Nat} {step : Fin 16} {common : Bool}

/-! ### The move to a step, and its handovers (R112 to R115) -/

/-- The state once the activation has moved to a step (R112). -/
def State.movedTo (s : State) (c : CaseNo) (step : Fin 16) (common : Bool) : State :=
  s.setProcedure c ((s.caseAt c).procedure.at step common)

/-- The step record that the procedure of case record `c` finds at a step (R112). -/
def State.recordAt (s : State) (c : CaseNo) (step : Fin 16) (common : Bool) : StepRecord :=
  s.stepOf ((s.caseAt c).procedure.at step common)

@[simp] theorem State.movedTo_caseAt : (s.movedTo c step common).caseAt c = (s.caseAt c).movedTo step common :=
  State.caseAt_setProcedure s c _

/-- The activation of an open case whose procedure runs may begin a step (R111, R113). -/
structure State.MayBegin (s : State) (c : CaseNo) (begun : Nat) : Prop where
  opened : s.isOpen c = true
  running : (s.caseAt c).procedure.status = .running
  budget : begun < 16

/-- Within its budget, an activation carries out the action of the step it has moved to (R112, R113). -/
theorem goTo_acts {a : Action} (h : s.MayBegin c begun) (ha : (s.recordAt c step common).decoded = some a) :
    goTo s c begun step.val common = act (s.movedTo c step common) c (begun + 1) (s.recordAt c step common) a :=
  goTo_step h.opened h.running h.budget ha

/-- A handover of a running procedure with room for its notice, the withdrawn command written by the wait (R115). -/
theorem handover_withdrawing {reason : HandoverReason} (hrun : (s.caseAt c).procedure.status = .running)
    (hroom : s.trunk.own.length < 32) (howed : (s.caseAt c).owed = false) :
    let a := s.caseAt c
    let handed := { a with
      procedure := { a.procedure with status := .handedOver, wait := .none, timer := .stopped }
      pending := if a.procedure.wait = .delivery then
          (match a.pending with
            | some m => if m.owner = .procedure then none else some m
            | none => none)
        else a.pending }
    handover s c reason = (s.setCase c handed).withNotice c handed .handover (.handover reason) := by
  intro a handed
  have hhanded : (s.caseAt c).handedOver = handed := by
    by_cases hwait : (s.caseAt c).procedure.wait = .delivery <;> cases hpending : (s.caseAt c).pending <;>
      simp [handed, a, Case.handedOver, hwait, hpending]
  rw [handover_running hrun hroom howed, hhanded]

/-- A record that no action decodes from hands over with BAD_STEP (R114). -/
theorem goTo_badStep (h : s.MayBegin c begun) (hnone : (s.recordAt c step common).decoded = none) :
    goTo s c begun step.val common = (handover (s.movedTo c step common) c .badStep, []) := by
  have hbudget : ¬ Config.stepBudget ≤ begun := Nat.not_le.mpr h.budget
  have hrecord : (s.movedTo c step common).stepOf ((s.movedTo c step common).caseAt c).procedure = s.recordAt c step common := by
    rw [State.movedTo_caseAt]; rfl
  rw [← hrecord] at hnone
  simp only [State.movedTo, Procedure.at] at hnone ⊢
  unfold goTo
  dsimp only
  rw [if_pos (by simp [h.opened, h.running]), toIdx_val]
  simp only [hbudget, if_false, hnone]

/-- A seventeenth step hands over with LOOP (R113). -/
theorem goTo_loop (hopen : s.isOpen c = true) (hrun : (s.caseAt c).procedure.status = .running) (hbegun : 16 ≤ begun) :
    goTo s c begun step.val common = (handover (s.movedTo c step common) c .loop, []) := by
  unfold goTo
  dsimp only
  rw [if_pos (by simp [hopen, hrun]), toIdx_val]
  exact if_pos hbegun

/-- A step beyond the page hands over with BAD_STEP (R114). -/
theorem goTo_offPage {n : Nat} (hopen : s.isOpen c = true) (hrun : (s.caseAt c).procedure.status = .running) (hn : 16 ≤ n) :
    goTo s c begun n common = (handover s c .badStep, []) := by
  unfold goTo
  dsimp only
  rw [if_pos (by simp [hopen, hrun]), toIdx, dif_neg (Nat.not_lt.mpr hn)]

/-! ### Steps that complete at once (R112, R119, R123) -/

@[simp] theorem nextJob_movedTo : nextJob c begun ((s.movedTo c step common).caseAt c).procedure =
    .go c begun (step.val + 1) common := by rw [State.movedTo_caseAt]; rfl
@[simp] theorem skipJob_movedTo : skipJob c begun ((s.movedTo c step common).caseAt c).procedure =
    .go c begun (step.val + 2) common := by rw [State.movedTo_caseAt]; rfl

theorem goTo_note (h : s.MayBegin c begun) (haction : (s.recordAt c step common).action = 4) (hroom : s.trunk.own.length < 32)
    (howed : (s.caseAt c).owed = false) :
    let u := s.movedTo c step common
    goTo s c begun step.val common = (u.withNotice c (u.caseAt c) .note (.code (s.recordAt c step common).argument),
      [.go c (begun + 1) (step.val + 1) common]) := by
  intro u
  have hnotice : u.notify c .note (.code (s.recordAt c step common).argument) =
      u.withNotice c (u.caseAt c) .note (.code (s.recordAt c step common).argument) :=
    State.notify_room u c _ _ hroom (by rw [State.movedTo_caseAt]; exact howed)
  rw [goTo_acts h (a := .note (s.recordAt c step common).argument) (by simp [StepRecord.decoded, haction]), ← hnotice]
  simp only [act, nextJob_movedTo]
  rfl

theorem goTo_bump (h : s.MayBegin c begun) (haction : (s.recordAt c step common).action = 5) :
    let u := s.movedTo c step common
    goTo s c begun step.val common = (u.setCase c { u.caseAt c with urgency := (s.caseAt c).urgency - 1 },
      [.go c (begun + 1) (step.val + 1) common]) := by
  intro u
  rw [goTo_acts h (a := .bump) (by simp [StepRecord.decoded, haction])]
  simp only [act, u, State.movedTo_caseAt]
  rfl

theorem goTo_setCount (h : s.MayBegin c begun) (haction : (s.recordAt c step common).action = 8) :
    let u := s.movedTo c step common
    let p := (s.caseAt c).procedure.at step common
    goTo s c begun step.val common = (u.setCase c { u.caseAt c with
      procedure := { p with retry := max 1 (min 15 (s.recordAt c step common).argument) } },
      [.go c (begun + 1) (step.val + 1) common]) := by
  intro u p
  rw [goTo_acts h (a := .setCount (clampTo 1 15 (s.recordAt c step common).argument)) (by simp [StepRecord.decoded, haction])]
  simp only [act, u, State.movedTo_caseAt, State.setProcedure]
  rfl

theorem goTo_count (h : s.MayBegin c begun) (haction : (s.recordAt c step common).action = 9) :
    let u := s.movedTo c step common
    let p := (s.caseAt c).procedure.at step common
    goTo s c begun step.val common = (u.setCase c { u.caseAt c with procedure := { p with retry := p.retry - 1 } },
      [.go c (begun + 1) (if p.retry ≤ 1 then step.val + 2 else step.val + 1) common]) := by
  intro u p
  rw [goTo_acts h (a := .count) (by simp [StepRecord.decoded, haction])]
  have hretry : ((s.movedTo c step common).caseAt c).procedure.retry = p.retry := by rw [State.movedTo_caseAt]; rfl
  simp only [act, nextJob_movedTo, skipJob_movedTo, hretry, Nat.sub_eq_zero_iff_le]
  simp only [u, State.movedTo_caseAt, State.setProcedure]
  split <;> rfl

theorem goTo_goto (h : s.MayBegin c begun) (haction : (s.recordAt c step common).action = 10) :
    goTo s c begun step.val common = (s.movedTo c step common, [branchJob c (begun + 1) (s.recordAt c step common)]) :=
  goTo_acts h (a := .goto) (by simp [StepRecord.decoded, haction])

/-! ### Steps that set a command (R116, R118) -/

/-- The state and the work of a step that has set the pending command and waits for its delivery (R116). -/
def State.commanded (s : State) (c : CaseNo) (step : Fin 16) (common : Bool) (cmd : CarCommand) : Work :=
  let u := s.movedTo c step common
  let x := s.recordAt c step common
  (u.setCase c { u.caseAt c with
    pending := some ⟨cmd, .procedure⟩
    procedure := { (s.caseAt c).procedure.at step common with
      wait := .delivery, timer := if x.limit = 0 then .stopped else .running x.limit } }, [.lineWork (lineOf (s.caseAt c).lift)])

theorem commandStep_movedTo (cmd : CarCommand) : commandStep (s.movedTo c step common) c (s.recordAt c step common).limit cmd =
    s.commanded c step common cmd := by
  simp only [commandStep, State.commanded, State.movedTo_caseAt]
  rfl

theorem goTo_command {cmd : CarCommand} (h : s.MayBegin c begun)
    (hdecoded : (s.recordAt c step common).decoded = some (.command cmd)) :
    goTo s c begun step.val common = s.commanded c step common cmd :=
  (goTo_acts h hdecoded).trans (commandStep_movedTo cmd)

theorem goTo_restore (h : s.MayBegin c begun) (haction : (s.recordAt c step common).action = 3) :
    goTo s c begun step.val common = if s.mayRestore c = true then s.commanded c step common .restore
      else (s.movedTo c step common, [branchJob c (begun + 1) (s.recordAt c step common)]) := by
  rw [goTo_acts h (a := .restore) (by simp [StepRecord.decoded, haction]), ← commandStep_movedTo]
  simp only [act, State.movedTo, State.setProcedure_mayRestore]

/-! ### WAIT and TEST (R120, R122) -/

theorem goTo_wait {e : NamedEvent} (h : s.MayBegin c begun) (hdecoded : (s.recordAt c step common).decoded = some (.wait e)) :
    let u := s.movedTo c step common
    let x := s.recordAt c step common
    goTo s c begun step.val common = if s.eventCome c e = true then (u, [.go c (begun + 1) (step.val + 1) common])
      else (u.setCase c { u.caseAt c with procedure := { (s.caseAt c).procedure.at step common with
        wait := .event e, timer := if x.limit = 0 then .stopped else .running x.limit } }, []) := by
  intro u x
  have hcome : (s.movedTo c step common).eventCome c e = s.eventCome c e := State.setProcedure_eventCome e
  rw [goTo_acts h hdecoded]
  simp only [act, hcome, u, State.movedTo_caseAt, State.setProcedure]
  rfl

theorem goTo_test_passed {x : Condition} {sense : Bool} (h : s.MayBegin c begun)
    (hdecoded : (s.recordAt c step common).decoded = some (.test x sense)) (hx : s.condition c x = sense) :
    goTo s c begun step.val common = (s.movedTo c step common, [.go c (begun + 1) (step.val + 1) common]) := by
  have hmoved : (s.movedTo c step common).condition c x = sense := (State.setProcedure_condition x).trans hx
  rw [goTo_acts h hdecoded, ← nextJob_movedTo (s := s)]
  exact if_pos hmoved

theorem goTo_test_skips {x : Condition} {sense : Bool} (h : s.MayBegin c begun)
    (hdecoded : (s.recordAt c step common).decoded = some (.test x sense)) (hx : s.condition c x ≠ sense) :
    goTo s c begun step.val common = (s.movedTo c step common, [.go c (begun + 1) (step.val + 2) common]) := by
  have hmoved : (s.movedTo c step common).condition c x ≠ sense := (State.setProcedure_condition x).trans_ne hx
  rw [goTo_acts h hdecoded, ← skipJob_movedTo (s := s)]
  exact if_neg hmoved

/-! ### RELEASE and END (R124, R125) -/

theorem goTo_release_starts {q : Release} (h : s.MayBegin c begun) (haction : (s.recordAt c step common).action = 11)
    (hstart : s.releaseStart c = .ok q) :
    let u := s.movedTo c step common
    let x := s.recordAt c step common
    goTo s c begun step.val common = (u.setCase c { u.caseAt c with
      release := some q
      procedure := { (s.caseAt c).procedure.at step common with
        wait := .release, timer := if x.limit = 0 then .stopped else .running x.limit } }, []) := by
  intro u x
  have hmoved : (s.movedTo c step common).releaseStart c = .ok q := State.setProcedure_releaseStart.trans hstart
  rw [goTo_acts h (a := .release) (by simp [StepRecord.decoded, haction])]
  simp only [act, releaseStep, hmoved, u, State.movedTo_caseAt]
  rfl

theorem goTo_release_refused {why : AbortReason} (h : s.MayBegin c begun) (haction : (s.recordAt c step common).action = 11)
    (hstart : s.releaseStart c = .error why) (hroom : s.trunk.own.length < 32) (howed : (s.caseAt c).owed = false) :
    let u := s.movedTo c step common
    goTo s c begun step.val common = (u.withNotice c (u.caseAt c) .releaseAborted (.aborted why (s.caseAt c).pulses),
      [branchJob c (begun + 1) (s.recordAt c step common)]) := by
  intro u
  have hmoved : (s.movedTo c step common).releaseStart c = .error why := State.setProcedure_releaseStart.trans hstart
  have hpulses : (u.caseAt c).pulses = (s.caseAt c).pulses := by rw [State.movedTo_caseAt]; rfl
  have hnotice : u.notify c .releaseAborted (.aborted why (s.caseAt c).pulses) =
      u.withNotice c (u.caseAt c) .releaseAborted (.aborted why (s.caseAt c).pulses) :=
    State.notify_room u c _ _ hroom (by rw [State.movedTo_caseAt]; exact howed)
  rw [goTo_acts h (a := .release) (by simp [StepRecord.decoded, haction]), ← hnotice, ← hpulses]
  simp only [act, releaseStep, hmoved]
  rfl

theorem goTo_finish (h : s.MayBegin c begun) (haction : (s.recordAt c step common).action = 12)
    (hargument : (s.recordAt c step common).argument = 1) :
    let u := s.movedTo c step common
    goTo s c begun step.val common = (u.setCase c { u.caseAt c with
      procedure := { (s.caseAt c).procedure.at step common with status := .finished } }, [.clearing c]) := by
  intro u
  rw [goTo_acts h (a := .ending true) (by simp [StepRecord.decoded, haction, hargument, decodeEnd])]
  simp only [act, u, State.movedTo_caseAt, State.setProcedure]
  rfl

theorem goTo_handover (h : s.MayBegin c begun) (haction : (s.recordAt c step common).action = 12)
    (hargument : (s.recordAt c step common).argument = 2) :
    goTo s c begun step.val common = (handover (s.movedTo c step common) c .ended, []) :=
  goTo_acts h (a := .ending false) (by simp [StepRecord.decoded, haction, hargument, decodeEnd])

/-! ### Clearings (R75) -/

theorem clearCase_unattended {source : ClearedSource} (h : (s.caseAt c).dispatch = .waiting ∨ (s.caseAt c).dispatch = .offered) :
    clearCase s c source = (s, [.close c .clearedUnattended]) := by
  rcases h with h | h <;> simp only [clearCase, h]

theorem clearCase_attended {source : ClearedSource} (hroom : s.trunk.own.length < 32) (howed : (s.caseAt c).owed = false)
    (h : (s.caseAt c).dispatch = .assigned ∨ (s.caseAt c).dispatch = .onSite) :
    let a := { s.caseAt c with dispatch := .cleared, escalation := .stopped, window := (s.caseAt c).window.halted }
    clearCase s c source = ((s.setCase c a).withNotice c a .cleared (.source source), []) := by
  intro a
  rw [← State.setCase_notify_room (r := a) .cleared (.source source) hroom howed]
  rcases h with h | h <;> simp only [clearCase, h] <;> rfl

theorem clearCase_cleared {source : ClearedSource} (h : (s.caseAt c).dispatch = .cleared) : clearCase s c source = (s, []) := by
  simp only [clearCase, h]

end

/-- Settles O57: each action code by what it decodes to and what that action then does; what decodes to none is BAD_STEP. -/
theorem stepsThatCompleteAtOnceGoOn : Obligations.StepsThatCompleteAtOnceGoOn := by
  refine ⟨?_, ?_⟩
  · intro s c begun step common hopen hrun hroom howed p u x handed lift report timer bad goesOn branches sets
    have hhands (why : HandoverReason) : handover u c why = handed u why :=
      handover_withdrawing (s := s.movedTo c step common) (by rw [State.movedTo_caseAt]; exact hrun) hroom
        (by rw [State.movedTo_caseAt]; exact howed)
    refine ⟨fun hbegun => ?_, fun hbegun => ?_, fun n hn => ?_⟩
    · have h : s.MayBegin c begun := ⟨hopen, hrun, hbegun⟩
      have hbad (hnone : x.decoded = none) : bad := (goTo_badStep h hnone).trans (congrArg (·, []) (hhands .badStep))
      refine ⟨fun hx => goTo_note h hx hroom howed, goTo_bump h, goTo_setCount h, goTo_count h, goTo_goto h,
        fun hx => hbad (StepRecord.decoded_none hx), ?announce, ?inhibit, ?restore, ?wait, ?test, ?release, ?ending⟩
      case announce =>
        refine fun hx => ⟨fun harg => goTo_command h (show x.decoded = _ from ?_), fun harg => hbad ?_⟩
        · simp [StepRecord.decoded, hx, harg]
        · simp [StepRecord.decoded, hx, Nat.not_le.mpr harg]
      case inhibit => exact fun hx => goTo_command h (show x.decoded = _ by simp [StepRecord.decoded, hx])
      case restore =>
        refine fun hx => ⟨fun hmay => (goTo_restore h hx).trans (if_pos (State.mayRestore_iff.mpr hmay)),
          fun hnot => (goTo_restore h hx).trans (if_neg fun hmay => ?_)⟩
        obtain ⟨n, hn, hsafe⟩ := State.mayRestore_iff.mp hmay
        obtain ⟨hpeople, hzone⟩ := hnot n hn
        exact hsafe.elim hpeople (Bool.eq_false_iff.mp hzone)
      case wait =>
        refine fun hx => ⟨fun harg => hbad (by simp [StepRecord.decoded, hx, decodeEvent_none harg]), fun e hpos he => ?_⟩
        intro come
        have hwait := goTo_wait (e := e) h (show x.decoded = _ by simp [StepRecord.decoded, hx, decodeEvent_listed hpos he])
        exact ⟨fun hcome => hwait.trans (if_pos (State.eventCome_iff.mpr hcome)),
          fun hnot => hwait.trans (if_neg (mt State.eventCome_iff.mp hnot))⟩
      case test =>
        refine fun hx => ⟨fun harg => hbad (by simp [StepRecord.decoded, hx, decodeTest_none harg]), fun cond h1 h5 => ?_⟩
        intro holds
        obtain ⟨k, hk⟩ := decodeCondition_some h1 h5
        have hholds : s.condition c k = true ↔ holds := State.condition_iff hk
        have hdecoded {sense : Nat} {b : Bool} (hs : decodeSense sense = some b) (harg : x.argument = 16 * sense + cond) :
            x.decoded = some (.test k b) := by simp [StepRecord.decoded, hx, harg, decodeTest_eq hs hk]
        refine ⟨fun harg => ?_, fun harg => ?_⟩
        · have htest := hdecoded (sense := 1) rfl harg
          exact ⟨fun hcond => goTo_test_passed h htest (hholds.mpr hcond),
            fun hnot => goTo_test_skips h htest (mt hholds.mp hnot)⟩
        · have htest := hdecoded (sense := 2) rfl harg
          exact ⟨fun hcond => goTo_test_skips h htest (by simp [hholds.mpr hcond]),
            fun hnot => goTo_test_passed h htest (Bool.eq_false_iff.mpr (mt hholds.mp hnot))⟩
      case release =>
        exact fun hx => ⟨fun q hq => goTo_release_starts h hx hq, fun why hwhy => goTo_release_refused h hx hwhy hroom howed⟩
      case ending =>
        exact fun hx => ⟨fun harg => (goTo_handover h hx harg).trans (congrArg (·, []) (hhands .ended)), goTo_finish h hx,
          fun hne1 hne2 => hbad (by simp [StepRecord.decoded, hx, decodeEnd_none hne1 hne2])⟩
    · exact (goTo_loop hopen hrun hbegun).trans (congrArg (·, []) (hhands .loop))
    · exact (goTo_offPage hopen hrun hn).trans (congrArg (·, []) (handover_withdrawing hrun hroom howed))
  · intro s c source hroom howed a
    exact ⟨clearCase_unattended, clearCase_attended hroom howed, clearCase_cleared⟩

end Sys2Proof.Machine
end

section
/-! SUPPORT. The release plan (R129), step by step, and the start of a release (R130, R131). -/

namespace Sys2Proof.Machine

/-! ### The target landing and the pulses needed (R129 steps 4 and 6) -/

/-- A sorted list begins with the member that none comes before. -/
theorem head?_eq_of_minimal {α : Type} {R : α → α → Prop} {l : List α} {e : α} (hl : l.Pairwise R) (he : e ∈ l)
    (hleast : ∀ x ∈ l, ¬ R x e) : l.head? = some e := by
  cases l with
  | nil => cases he
  | cons a rest =>
    obtain rfl | hrest := List.mem_cons.mp he
    · rfl
    · exact absurd (List.rel_of_pairwise_cons hl hrest) (hleast a List.mem_cons_self)

/-- A height past the door zone around a position, on the side of a direction (R129 step 4). -/
def LiftConfig.Beyond (g : LiftConfig) (p : Nat) (dir : Direction) (h : Nat) : Prop :=
  if dir = .down then h + g.doorZone < p else p + g.doorZone < h

/-- Landing `t`, of height `h`, is the first beyond the position in the direction (R129 step 4). -/
structure LiftConfig.IsTarget (g : LiftConfig) (p : Nat) (dir : Direction) (t h : Nat) : Prop where
  landing : g.landings[t]? = some h
  beyond : g.Beyond p dir h
  first : ∀ x ∈ g.landings, g.Beyond p dir x → if dir = .down then x ≤ h else h ≤ x

section

variable {g : LiftConfig} {p : Nat} {dir : Direction} {t h : Nat}

@[simp] theorem LiftConfig.beyond_down : g.Beyond p .down h ↔ h + g.doorZone < p := .rfl
@[simp] theorem LiftConfig.beyond_up : g.Beyond p .up h ↔ p + g.doorZone < h := .rfl

/-- A landing beyond the position is not at the position. -/
theorem LiftConfig.Beyond.distance_pos (hbeyond : g.Beyond p dir h) : 0 < ((h : Int) - p).natAbs := by
  unfold LiftConfig.Beyond at hbeyond
  split at hbeyond <;> omega

/-- The heights of the landings in order, each with its index. -/
theorem zipIdx_pairwise_fst {l : List Nat} (hl : l.Pairwise (· < ·)) : l.zipIdx.Pairwise fun a b => a.1 < b.1 :=
  List.pairwise_map.mp (by rwa [List.zipIdx_map_fst])

theorem targetOf_eq_none (hnone : ∀ x ∈ g.landings, ¬ g.Beyond p dir x) : targetOf g p dir = none := by
  have hmem {e : Nat × Nat} (he : e ∈ g.landings.zipIdx) : ¬ g.Beyond p dir e.1 := hnone _ (List.fst_mem_of_mem_zipIdx he)
  cases dir with
  | down => exact List.getLast?_eq_none_iff.mpr (List.filter_eq_nil_iff.mpr fun e he => by simpa using hmem he)
  | up => exact List.head?_eq_none_iff.mpr (List.filter_eq_nil_iff.mpr fun e he => by simpa using hmem he)

theorem targetOf_eq_some (hsorted : g.landings.Pairwise (· < ·)) (ht : g.IsTarget p dir t h) :
    targetOf g p dir = some (h, t) := by
  have hin : (h, t) ∈ g.landings.zipIdx := List.mem_zipIdx_iff_getElem?.mpr ht.landing
  have hfirst {e : Nat × Nat} (he : e ∈ g.landings.zipIdx) := ht.first _ (List.fst_mem_of_mem_zipIdx he)
  have hpairs := zipIdx_pairwise_fst hsorted
  have hbeyond := ht.beyond
  cases dir with
  | down =>
    simp only [targetOf]
    rw [← List.head?_reverse]
    refine head?_eq_of_minimal (List.pairwise_reverse.mpr (hpairs.filter _)) ?_ fun e he => ?_
    · exact List.mem_reverse.mpr (List.mem_filter.mpr ⟨hin, by simpa using hbeyond⟩)
    · obtain ⟨he, hpast⟩ := List.mem_filter.mp (List.mem_reverse.mp he)
      exact Nat.not_lt.mpr (hfirst he (by simpa using hpast))
  | up =>
    refine head?_eq_of_minimal (hpairs.filter _) (List.mem_filter.mpr ⟨hin, by simpa using hbeyond⟩) fun e he => ?_
    obtain ⟨he, hpast⟩ := List.mem_filter.mp he
    exact Nat.not_lt.mpr (hfirst he (by simpa using hpast))

/-- The distance from the position to a landing, seen from the landing (R129 step 5). -/
theorem distance_eq_from (p h : Nat) : distance p h = ((h : Int) - p).natAbs := by
  rw [distance_eq, ← Int.natAbs_neg, Int.neg_sub]

/-- The distance divided by the step, rounded up (R129 step 6). -/
theorem pulsesFor_eq {d step n : Nat} (henough : d ≤ n * step) (hleast : n * step < d + step) : pulsesFor d step = n :=
  Nat.div_eq_of_lt_le (by omega) (by rw [Nat.succ_mul]; omega)

/-! ### The plan (R129) -/

theorem balanced_iff {load balance : Nat} : balanced load balance = true ↔ ((load : Int) - balance).natAbs < 5 := by
  simp [balanced, distance_eq]

theorem balanced_eq_false {load balance : Nat} (h : 5 ≤ ((load : Int) - balance).natAbs) : balanced load balance = false :=
  Bool.eq_false_iff.mpr (mt balanced_iff.mp (Nat.not_lt.mpr h))

theorem driftOf_eq_down_iff {load balance : Nat} : driftOf load balance = .down ↔ balance < load := by
  simp [driftOf]

section

variable {k d : Nat}

theorem planFrom_tooFar (h : g.reach < d) : planFrom g k d t dir = .crewOnly .tooFar := if_pos h

theorem planFrom_tooMany (hreach : d ≤ g.reach) (h : g.cap < k + pulsesFor d g.step) :
    planFrom g k d t dir = .crewOnly .tooMany :=
  (if_neg (Nat.not_lt.mpr hreach)).trans (if_pos h)

theorem planFrom_allowed (hreach : d ≤ g.reach) (h : k + pulsesFor d g.step ≤ g.cap) :
    planFrom g k d t dir = .allowed dir t d (pulsesFor d g.step) :=
  (if_neg (Nat.not_lt.mpr hreach)).trans (if_neg (Nat.not_lt.mpr h))

end

section

variable {load k : Nat}

theorem planOf_inZone (hzone : inDoorZone g.landings g.doorZone p = true) : planOf g p load k = .notNeeded := by
  simp [planOf, hzone]

theorem planOf_balanced (hzone : inDoorZone g.landings g.doorZone p = false)
    (hload : ((load : Int) - g.balance).natAbs < 5) : planOf g p load k = .crewOnly .balanced := by
  simp [planOf, hzone, balanced_iff.mpr hload]

theorem planOf_noTarget (hzone : inDoorZone g.landings g.doorZone p = false)
    (hload : 5 ≤ ((load : Int) - g.balance).natAbs) (hnone : ∀ x ∈ g.landings, ¬ g.Beyond p (driftOf load g.balance) x) :
    planOf g p load k = .crewOnly .noTarget := by
  simp [planOf, hzone, balanced_eq_false hload, targetOf_eq_none hnone]

theorem planOf_target (hsorted : g.landings.Pairwise (· < ·)) (hzone : inDoorZone g.landings g.doorZone p = false)
    (hload : 5 ≤ ((load : Int) - g.balance).natAbs) (ht : g.IsTarget p (driftOf load g.balance) t h) :
    planOf g p load k = planFrom g k ((h : Int) - p).natAbs t (driftOf load g.balance) := by
  simp only [planOf, hzone, balanced_eq_false hload, targetOf_eq_some hsorted ht, distance_eq_from, Bool.false_eq_true,
    if_false]

end

end

/-! ### The start of a release (R130, R131) -/

section

variable {s : State} {c : CaseNo}

/-- The panel that the case's crew is logged at, on the case's line (R130). -/
theorem State.crewPanel_eq_some {r : Case} {p : PanelIdx} : s.crewPanel r = some p ↔
    panelLine p = lineOf r.lift ∧ ∃ k, r.crew = some k ∧ (s.crew k).dyn.logged = some p := by
  simp [State.crewPanel, Option.filter_eq_some_iff, Option.bind_eq_some_iff, and_comm]

theorem State.releaseStart_notOnSite (h : (s.caseAt c).dispatch ≠ .onSite) : s.releaseStart c = .error .notOnSite :=
  if_pos h

theorem State.releaseStart_noReport (hsite : (s.caseAt c).dispatch = .onSite)
    (h : (s.lift (s.caseAt c).lift).dyn.lastReport = none) : s.releaseStart c = .error .noReport := by
  simp [State.releaseStart, hsite, h]

variable {n : CarRecord}

theorem State.releaseStart_mode (hsite : (s.caseAt c).dispatch = .onSite)
    (hn : (s.lift (s.caseAt c).lift).dyn.lastReport = some n) (h : n.mode ≠ .inhibited) :
    s.releaseStart c = .error .mode := by
  simp [State.releaseStart, hsite, hn, h]

theorem State.releaseStart_noCrew (hsite : (s.caseAt c).dispatch = .onSite)
    (hn : (s.lift (s.caseAt c).lift).dyn.lastReport = some n) (hmode : n.mode = .inhibited)
    (h : s.crewPanel (s.caseAt c) = none) : s.releaseStart c = .error .noCrew := by
  simp [State.releaseStart, hsite, hn, hmode, h]

/-- What the start of a release makes of the plan (R130, R131). -/
def State.startOf (s : State) (p : PanelIdx) (echo : Nat) : Plan → Except AbortReason Release
  | .notNeeded => .error .notNeeded
  | .crewOnly why => .error why
  | .allowed dir target d needed =>
    .ok ⟨.awaitHold, p, dir, target, d, needed, (s.panel p).dyn.pressNumber, echo, 0, .stopped⟩

/-- Once the tests before it have passed, the plan decides. -/
theorem State.releaseStart_planned {p : PanelIdx} (hsite : (s.caseAt c).dispatch = .onSite)
    (hn : (s.lift (s.caseAt c).lift).dyn.lastReport = some n) (hmode : n.mode = .inhibited)
    (hp : s.crewPanel (s.caseAt c) = some p) : s.releaseStart c =
      s.startOf p n.echo (planOf (s.lift (s.caseAt c).lift).config n.position n.load (s.caseAt c).pulses) := by
  simp only [State.releaseStart, hsite, hn, hmode, hp, ne_eq, not_true_eq_false, if_false]
  cases planOf (s.lift (s.caseAt c).lift).config n.position n.load (s.caseAt c).pulses <;> rfl

end

/-- Settles O55: the plan takes its steps in order, and a start takes the tests of R130 in theirs, the plan last. -/
theorem releasePlansFollowTheirSteps : Obligations.ReleasePlansFollowTheirSteps := by
  refine ⟨fun g p load k hsorted hstep => ⟨planOf_inZone, fun hzone => ⟨planOf_balanced hzone, fun hload => ?_⟩⟩,
    fun s c => ?_⟩
  · intro beyond
    let dir := driftOf load g.balance
    have hbeyond (x : Nat) : g.Beyond p dir x ↔ beyond x := by
      simp only [LiftConfig.Beyond, dir, driftOf_eq_down_iff, beyond]
    refine ⟨fun hnone => planOf_noTarget hzone hload fun x hx => mt (hbeyond x).mp (hnone x hx), ?_⟩
    intro t h hlanding hpast hfirst d
    have ht : g.IsTarget p dir t h := ⟨hlanding, (hbeyond h).mpr hpast, fun x hx hx' => by
      simpa only [dir, driftOf_eq_down_iff] using hfirst x hx ((hbeyond x).mp hx')⟩
    have hplan := planOf_target (k := k) hsorted hzone hload ht
    rw [hplan]
    refine ⟨planFrom_tooFar, fun n henough hleast => ?_⟩
    obtain rfl : pulsesFor d g.step = n := pulsesFor_eq henough hleast
    refine ⟨?_, planFrom_tooMany, planFrom_allowed⟩
    exact Nat.pos_of_mul_pos_right (ht.beyond.distance_pos.trans_le henough)
  · intro r g
    refine ⟨State.releaseStart_notOnSite, State.releaseStart_noReport, fun n hsite hn => ?_⟩
    intro here
    refine ⟨State.releaseStart_mode hsite hn, fun hmode hnone => ?_, fun p hmode hp => ?_⟩
    · exact State.releaseStart_noCrew hsite hn hmode
        (Option.eq_none_iff_forall_ne_some.mpr fun p hp => hnone p (State.crewPanel_eq_some.mp hp))
    · rw [State.releaseStart_planned hsite hn hmode (State.crewPanel_eq_some.mpr hp)]
      refine ⟨fun hplan => ?_, fun why hplan => ?_, fun dir target d needed hplan => ?_⟩
      all_goals exact congrArg (s.startOf p n.echo) hplan

end Sys2Proof.Machine
end

section
/-! SUPPORT. A release by sub-state (R132 to R135): hold changes, ends, reports, settle reports and the delivery of a pulse. -/

namespace Sys2Proof.Machine

section

variable {s : State} {c : CaseNo} {q : Release}

/-! ### Hold changes (R133) -/

/-- A command that the block set is withdrawn. -/
theorem Case.withdraw_owner {r : Case} {m : CarCommand} {owner : CommandOwner} (h : r.pending = some ⟨m, owner⟩) :
    r.withdraw owner = { r with pending := none } := by
  simp [Case.withdraw, h]

theorem holdChange_elsewhere {p : PanelIdx} (was hold : Bool) (press : Nat) (hq : (s.caseAt c).release = some q)
    (hp : p ≠ q.panel) : holdChange s c p was hold press = s := by
  simp [holdChange, hq, hp.symm]

theorem holdChange_own (was hold : Bool) (press : Nat) (hopen : s.isOpen c = true) (hq : (s.caseAt c).release = some q) :
    holdChange s c q.panel was hold press = holdAt s c q was hold press := by
  simp [holdChange, hq, hopen]

section

variable {was hold : Bool} {press : Nat}

/-- A change that is neither a fresh press nor a let-go (R133). -/
theorem holdAt_unchanged (hfresh : ¬ (hold = true ∧ press ≠ q.lastPress)) (hreleased : ¬ (was = true ∧ hold = false)) :
    holdAt s c q was hold press = s := by
  have hstale : (hold && press != q.lastPress) = false := by simpa using hfresh
  have hheld : (was && !hold) = false := by simpa using hreleased
  unfold holdAt
  cases q.sub <;> simp only [hstale, hheld] <;> rfl

theorem holdAt_fresh_awaitHold (hsub : q.sub = .awaitHold) (hfresh : hold = true ∧ press ≠ q.lastPress) :
    holdAt s c q was hold press = s.setRelease c { q with lastPress := press, sub := .awaitChain } := by
  simp [holdAt, hsub, hfresh]

/-- Past AWAIT_HOLD a fresh press is counted, and no more (R133). -/
theorem holdAt_fresh_repeated (hsub : q.sub ≠ .awaitHold) (hfresh : hold = true ∧ press ≠ q.lastPress) :
    holdAt s c q was hold press = s.setRelease c { q with repeats := min 255 (q.repeats + 1) } := by
  cases h : q.sub
  case awaitHold => exact absurd h hsub
  all_goals simp [holdAt, h, hfresh, satInc_eq_min]

/-- A let-go before the chain of a pulse, or after it, does nothing (R133). -/
theorem holdAt_released_idle (hsub : q.sub = .awaitHold ∨ q.sub = .settling) (hreleased : was = true ∧ hold = false) :
    holdAt s c q was hold press = s := by
  rcases hsub with hsub | hsub <;> simp [holdAt, hsub, hreleased]

theorem holdAt_released_awaitChain (hsub : q.sub = .awaitChain) (hreleased : was = true ∧ hold = false) :
    holdAt s c q was hold press = s.setRelease c { q with lastPress := press, sub := .awaitHold } := by
  simp [holdAt, hsub, hreleased]

theorem holdAt_released_pulsePending {m : CarCommand} (hsub : q.sub = .pulsePending) (hreleased : was = true ∧ hold = false)
    (hm : (s.caseAt c).pending = some ⟨m, .release⟩) : holdAt s c q was hold press =
      s.setCase c { s.caseAt c with pending := none, release := some { q with lastPress := press, sub := .awaitHold } } := by
  simp [holdAt, hsub, hreleased, Case.withdraw_owner hm]

end

/-! ### The end of a release (R132) -/

/-- The state with the notice of a release's end about the record `r` (R132, R141). -/
def State.withEnd (s : State) (c : CaseNo) (r : Case) : ReleaseEnd → State
  | .done p => s.withNotice c r .releaseDone (.pulse r.pulses (some p))
  | .aborted why => s.withNotice c r .releaseAborted (.aborted why r.pulses)

@[simp] theorem State.withEnd_caseAt {r : Case} (e : ReleaseEnd) (d : CaseNo) : (s.withEnd c r e).caseAt d = s.caseAt d := by
  cases e <;> rfl

/-- An end with room for its notice, whatever the outcome (R132, R141). -/
theorem dropRelease_withEnd (e : ReleaseEnd) (hroom : s.trunk.own.length < 32) (howed : (s.caseAt c).owed = false) :
    dropRelease s c e = (s.setCase c (s.caseAt c).withoutRelease).withEnd c (s.caseAt c).withoutRelease e := by
  cases e with
  | done p =>
    have hdrop : dropRelease s c (.done p) = (s.setCase c (s.caseAt c).withoutRelease).notify c .releaseDone
      (.pulse ((s.setCase c (s.caseAt c).withoutRelease).caseAt c).pulses (some p)) := rfl
    rw [hdrop, State.caseAt_setCase]
    exact State.setCase_notify_room _ _ hroom (by simpa using howed)
  | aborted why => simpa [State.withEnd] using dropRelease_room why hroom howed

/-- Where the procedure goes on once its release has ended: from the next step after DONE, from the branch after ABORTED
(R132). -/
def State.afterRelease (s : State) (c : CaseNo) (p : Procedure) : ReleaseEnd → Job
  | .done _ => nextJob c 0 p
  | .aborted _ => branchJob c 0 (s.stepOf p)

section

variable {r : Case} {p : Procedure}

theorem completeWait_eq (h : s.caseAt c = r) (hp : r.procedure = p) :
    completeWait s c = (s.setCase c { r with procedure := p.unwaited }, [nextJob c 0 p]) := by
  subst h hp; rfl

theorem failWait_eq (h : s.caseAt c = r) (hp : r.procedure = p) :
    failWait s c = (s.setCase c { r with procedure := p.unwaited }, [branchJob c 0 (s.stepOf p)]) := by
  subst h hp; rfl

end

/-- The procedure that waits for the release is told (R132). -/
theorem endRelease_told (e : ReleaseEnd) (hroom : s.trunk.own.length < 32) (howed : (s.caseAt c).owed = false)
    (hrun : (s.caseAt c).procedure.status = .running) (hwait : (s.caseAt c).procedure.wait = .release) :
    let r := (s.caseAt c).withoutRelease
    let p := (s.caseAt c).procedure
    endRelease s c e =
      (((s.setCase c r).withEnd c r e).setCase c { r with procedure := p.unwaited }, [s.afterRelease c p e]) := by
  intro r p
  have hp : r.procedure = p := Case.withoutRelease_procedure _
  have hcase : ((s.setCase c r).withEnd c r e).caseAt c = r := by simp
  have hwaits : ((s.setCase c r).withEnd c r e).waitsFor c .release = true := by
    simp [State.waitsFor, hcase, hp, p, hrun, hwait]
  unfold endRelease
  rw [dropRelease_withEnd e hroom howed]
  dsimp only
  rw [if_pos hwaits]
  cases e with
  | done at' => exact completeWait_eq hcase hp
  | aborted why => exact failWait_eq hcase hp

/-- An end that no step waits for. -/
theorem endRelease_untold (e : ReleaseEnd) (hroom : s.trunk.own.length < 32) (howed : (s.caseAt c).owed = false)
    (hunawaited : (s.caseAt c).procedure.status ≠ .running ∨ (s.caseAt c).procedure.wait ≠ .release) :
    endRelease s c e = ((s.setCase c (s.caseAt c).withoutRelease).withEnd c (s.caseAt c).withoutRelease e, []) := by
  have hwaits : ((s.setCase c (s.caseAt c).withoutRelease).withEnd c (s.caseAt c).withoutRelease e).waitsFor c .release =
      false := by simpa [State.waitsFor, ← not_and_or] using hunawaited
  unfold endRelease
  rw [dropRelease_withEnd e hroom howed]
  exact if_neg (by simp [hwaits])

/-! ### Reports (R134) -/

section

variable {n : CarRecord} {moves : Bool}

theorem releaseReport_chain (hq : (s.caseAt c).release = some q) (hn : (s.lift (s.caseAt c).lift).dyn.lastReport = some n)
    (hchain : n.chainOpen = true) : releaseReport s c moves = endRelease s c (.aborted .chain) := by
  simp [releaseReport, hq, hn, hchain]

theorem releaseReport_mode (hq : (s.caseAt c).release = some q) (hn : (s.lift (s.caseAt c).lift).dyn.lastReport = some n)
    (hchain : n.chainOpen = false) (hmode : n.mode ≠ .inhibited) :
    releaseReport s c moves = endRelease s c (.aborted .mode) := by
  simp [releaseReport, hq, hn, hchain, hmode]

theorem releaseReport_passed (hq : (s.caseAt c).release = some q) (hn : (s.lift (s.caseAt c).lift).dyn.lastReport = some n)
    (hchain : n.chainOpen = false) (hmode : n.mode = .inhibited) :
    releaseReport s c moves = reportBySub s c q n moves := by
  simp [releaseReport, hq, hn, hchain, hmode]

theorem reportBySub_awaitHold (hsub : q.sub = .awaitHold) : reportBySub s c q n moves = (s, []) := by
  simp [reportBySub, hsub]

/-- A stationary and closed report in AWAIT_CHAIN sets the next pulse (R134). -/
theorem reportBySub_sets (hsub : q.sub = .awaitChain) (hchain : n.chainOpen = false)
    (hstill : n.brakeLifted = false ∧ moves = false) : reportBySub s c q n moves = (s.setCase c { s.caseAt c with
      pending := some ⟨.brakePulse ((q.sequence + 1) % 8) q.direction, .release⟩
      release := some { q with sub := .pulsePending } }, [.lineWork (lineOf (s.caseAt c).lift)]) := by
  simp [reportBySub, hsub, hchain, hstill]

theorem reportBySub_awaitChain_moving (hsub : q.sub = .awaitChain) (hmoves : ¬ (n.brakeLifted = false ∧ moves = false)) :
    reportBySub s c q n moves = (s, []) := by
  have hother : (!n.brakeLifted && !moves) = false := by simpa using hmoves
  simp [reportBySub, hsub, Bool.and_assoc, hother]

theorem reportBySub_pulsePending_still (hsub : q.sub = .pulsePending) (hchain : n.chainOpen = false)
    (hstill : n.brakeLifted = false ∧ moves = false) : reportBySub s c q n moves = (s, []) := by
  simp [reportBySub, hsub, hchain, hstill]

/-- Any other report withdraws the pulse that is not yet sent (R134). -/
theorem reportBySub_withdraws {m : CarCommand} (hsub : q.sub = .pulsePending)
    (hmoves : ¬ (n.brakeLifted = false ∧ moves = false)) (hm : (s.caseAt c).pending = some ⟨m, .release⟩) :
    reportBySub s c q n moves =
      (s.setCase c { s.caseAt c with pending := none, release := some { q with sub := .awaitChain } }, []) := by
  have hother : (!n.brakeLifted && !moves) = false := by simpa using hmoves
  simp [reportBySub, hsub, Bool.and_assoc, hother, Case.withdraw_owner hm]

theorem reportBySub_settles (hsub : q.sub = .settling) (hecho : n.echo = q.sequence)
    (hstill : n.brakeLifted = false ∧ moves = false) : reportBySub s c q n moves = settle s c q n := by
  simp [reportBySub, hsub, hecho, hstill]

theorem reportBySub_unsettled (hsub : q.sub = .settling)
    (hother : ¬ (n.echo = q.sequence ∧ n.brakeLifted = false ∧ moves = false)) : reportBySub s c q n moves = (s, []) := by
  simp only [reportBySub, hsub]
  exact if_neg (by simpa [and_assoc] using hother)

end

/-! ### Settle reports (R135) -/

section

variable {g : LiftConfig} {n : CarRecord} {k : Nat}

/-- The car stands in the door zone of the target landing (R135 step 1). -/
def Release.AtTarget (q : Release) (g : LiftConfig) (p : Nat) : Prop :=
  ∃ h, g.landings[q.target]? = some h ∧ ((p : Int) - h).natAbs ≤ g.doorZone

theorem atTarget_iff {p : Nat} :
    ((g.landings[q.target]?).any fun h => distance p h ≤ g.doorZone) = true ↔ q.AtTarget g p := by
  simp [Release.AtTarget, Option.any_eq_true, distance_eq]

theorem settleOf_done (h : q.AtTarget g n.position) : settleOf g q n k = .error (.done n.position) :=
  if_pos (atTarget_iff.mpr h)

theorem settleOf_otherZone (haway : ¬ q.AtTarget g n.position)
    (hzone : inDoorZone g.landings g.doorZone n.position = true) : settleOf g q n k = .error (.aborted .overshoot) :=
  (if_neg (mt atTarget_iff.mp haway)).trans (if_pos hzone)

/-- The car stands in no door zone, and so not in the target's (R135 steps 1 and 2). -/
structure Release.Between (q : Release) (g : LiftConfig) (p : Nat) : Prop where
  away : ¬ q.AtTarget g p
  zone : inDoorZone g.landings g.doorZone p = false

theorem settleOf_balanced (h : q.Between g n.position) (hload : ((n.load : Int) - g.balance).natAbs < 5) :
    settleOf g q n k = .error (.aborted .balanced) := by
  simp only [settleOf, mt atTarget_iff.mp h.away, h.zone, balanced_iff.mpr hload, Bool.false_eq_true, if_false, if_true]

/-- What a settle report makes of the plan from its target on (R135 steps 5 and 6). -/
def Plan.settled : Plan → Except ReleaseEnd (Nat × Nat)
  | .notNeeded => .error (.aborted .overshoot)
  | .crewOnly reason => .error (.aborted reason)
  | .allowed _ _ d needed => .ok (d, needed)

/-- What a settle report between the landings makes of the next landing in its direction (R135 steps 4 to 6). -/
def Release.settledBy (q : Release) (g : LiftConfig) (p k : Nat) : Option (Nat × Nat) → Except ReleaseEnd (Nat × Nat)
  | none => .error (.aborted .overshoot)
  | some (h, t) =>
    if t = q.target then (planFrom g k ((h : Int) - p).natAbs t q.direction).settled else .error (.aborted .overshoot)

theorem settleOf_between (h : q.Between g n.position) (hload : 5 ≤ ((n.load : Int) - g.balance).natAbs) :
    settleOf g q n k = q.settledBy g n.position k (targetOf g n.position q.direction) := by
  unfold settleOf
  dsimp only
  rw [if_neg (mt atTarget_iff.mp h.away), if_neg (by simp [h.zone]), if_neg (by simp [balanced_eq_false hload])]
  cases targetOf g n.position q.direction with
  | none => rfl
  | some e =>
    obtain ⟨h, t⟩ := e
    by_cases ht : t = q.target
    · simp only [Release.settledBy, ht, ne_eq, not_true_eq_false, if_false, if_true, distance_eq_from]
      cases planFrom g k ((h : Int) - n.position).natAbs q.target q.direction <;> rfl
    · simp only [Release.settledBy, ht, ne_eq, not_false_eq_true, if_false, if_true]

theorem settleOf_noTarget (h : q.Between g n.position) (hload : 5 ≤ ((n.load : Int) - g.balance).natAbs)
    (hnone : ∀ x ∈ g.landings, ¬ g.Beyond n.position q.direction x) : settleOf g q n k = .error (.aborted .overshoot) := by
  rw [settleOf_between h hload, targetOf_eq_none hnone]
  rfl

variable {t h : Nat}

theorem settleOf_otherTarget (hbetween : q.Between g n.position) (hload : 5 ≤ ((n.load : Int) - g.balance).natAbs)
    (hsorted : g.landings.Pairwise (· < ·)) (ht : g.IsTarget n.position q.direction t h) (hother : t ≠ q.target) :
    settleOf g q n k = .error (.aborted .overshoot) := by
  rw [settleOf_between hbetween hload, targetOf_eq_some hsorted ht]
  exact if_neg hother

theorem settleOf_sameTarget (hbetween : q.Between g n.position) (hload : 5 ≤ ((n.load : Int) - g.balance).natAbs)
    (hsorted : g.landings.Pairwise (· < ·)) (ht : g.IsTarget n.position q.direction q.target h) :
    settleOf g q n k = (planFrom g k ((h : Int) - n.position).natAbs q.target q.direction).settled := by
  rw [settleOf_between hbetween hload, targetOf_eq_some hsorted ht]
  exact if_pos rfl

theorem settle_ends {e : ReleaseEnd} (h : settleOf (s.lift (s.caseAt c).lift).config q n (s.caseAt c).pulses = .error e) :
    settle s c q n = endRelease s c e := by
  simp only [settle, h]

theorem settle_awaits {d needed : Nat}
    (h : settleOf (s.lift (s.caseAt c).lift).config q n (s.caseAt c).pulses = .ok (d, needed)) :
    settle s c q n = (s.setRelease c { q with
      settle := .stopped, distance := d, needed := needed, lastPress := (s.panel q.panel).dyn.pressNumber
      sub := .awaitHold }, []) := by
  simp only [settle, h]

end

theorem pulseDelivered_unpulsed {sequence : Nat} (hq : (s.caseAt c).release = some q) (hsub : q.sub ≠ .pulsePending) :
    pulseDelivered s c sequence = s := by
  simp [pulseDelivered, hq, hsub]

end

/-- Settles O56: each part by the sub-state; the settle report by the steps of R135. -/
theorem holdChangesActBySubState : Obligations.HoldChangesActBySubState := by
  refine ⟨?hold, ?ends, ?report, ?delivery⟩
  case hold =>
    intro s c p q was hold press hopen hq a fresh released repeated
    refine ⟨holdChange_elsewhere was hold press hq, ?_⟩
    have hown (hp : p = q.panel) : holdChange s c p was hold press = holdAt s c q was hold press :=
      hp ▸ holdChange_own was hold press hopen hq
    have hrepeated (hp : p = q.panel) (hsub : q.sub ≠ .awaitHold) (hfresh : fresh) :
        holdChange s c p was hold press = repeated := (hown hp).trans (holdAt_fresh_repeated hsub hfresh)
    have hidle (hp : p = q.panel) (hsub : q.sub = .awaitHold ∨ q.sub = .settling) (hreleased : released) :
        holdChange s c p was hold press = s := (hown hp).trans (holdAt_released_idle hsub hreleased)
    refine ⟨fun hp hfresh hreleased => (hown hp).trans (holdAt_unchanged hfresh hreleased), fun hp hsub => ?_,
      fun hp hsub => ?_, fun hp hsub => ?_, fun hp hsub => ?_⟩
    · exact ⟨fun hfresh => (hown hp).trans (holdAt_fresh_awaitHold hsub hfresh), hidle hp (.inl hsub)⟩
    · exact ⟨hrepeated hp (by simp [hsub]), fun hreleased => (hown hp).trans (holdAt_released_awaitChain hsub hreleased)⟩
    · exact ⟨hrepeated hp (by simp [hsub]),
        fun hreleased m hm => (hown hp).trans (holdAt_released_pulsePending hsub hreleased hm)⟩
    · exact ⟨hrepeated hp (by simp [hsub]), hidle hp (.inr hsub)⟩
  case ends =>
    intro s c q e hq hroom howed p a told goesTo
    have ha : (s.caseAt c).withoutRelease = a := Case.withoutRelease_of_some hq
    have htold : (s.setCase c a).withEnd c a e = told := by cases e <;> rfl
    have hgoes : s.afterRelease c p e = goesTo := by cases e <;> rfl
    rw [← htold, ← hgoes, ← ha]
    exact ⟨endRelease_told e hroom howed, endRelease_untold e hroom howed⟩
  case report =>
    intro s c q n moves hq hn a g ends nothing still
    refine ⟨releaseReport_chain hq hn, releaseReport_mode hq hn, fun hchain hmode => ?_⟩
    have hpassed := releaseReport_passed (moves := moves) hq hn hchain hmode
    refine ⟨fun hsub => hpassed.trans (reportBySub_awaitHold hsub),
      fun hsub => ⟨fun hmoves => hpassed.trans (reportBySub_awaitChain_moving hsub hmoves),
        fun hstill => hpassed.trans (reportBySub_sets hsub hchain hstill)⟩,
      fun hsub => ⟨fun hstill => hpassed.trans (reportBySub_pulsePending_still hsub hchain hstill),
        fun hmoves m hm => hpassed.trans (reportBySub_withdraws hsub hmoves hm)⟩,
      fun hsub => ⟨fun hother => hpassed.trans (reportBySub_unsettled hsub hother), ?_⟩⟩
    intro hecho hstill hsorted hstep near atTarget beyond
    have hsettles := hpassed.trans (reportBySub_settles hsub hecho hstill)
    have hends {e : ReleaseEnd} (he : settleOf g q n a.pulses = .error e) : ends e := hsettles.trans (settle_ends he)
    refine ⟨fun hat => hends (settleOf_done hat), fun haway hzone => hends (settleOf_otherZone haway hzone),
      fun haway hzone => ?_⟩
    have hbetween : q.Between g n.position := ⟨haway, hzone⟩
    refine ⟨fun hload => hends (settleOf_balanced hbetween hload), fun hload =>
      ⟨fun hnone => hends (settleOf_noTarget hbetween hload hnone), fun t h hlanding hpast hfirst => ?_⟩⟩
    intro d
    have ht : g.IsTarget n.position q.direction t h := ⟨hlanding, hpast, hfirst⟩
    refine ⟨fun hother => hends (settleOf_otherTarget hbetween hload hsorted ht hother), ?_⟩
    have hplan (hsame : t = q.target) : settleOf g q n a.pulses = (planFrom g a.pulses d q.target q.direction).settled :=
      settleOf_sameTarget hbetween hload hsorted (hsame ▸ ht)
    refine ⟨fun hsame hfar => hends ((hplan hsame).trans (congrArg Plan.settled (planFrom_tooFar hfar))), ?_⟩
    intro m hsame hreach henough hleast
    obtain rfl : pulsesFor d g.step = m := pulsesFor_eq henough hleast
    exact ⟨fun hmany => hends ((hplan hsame).trans (congrArg Plan.settled (planFrom_tooMany hreach hmany))),
      fun hfew => hsettles.trans <| settle_awaits ((hplan hsame).trans (congrArg Plan.settled (planFrom_allowed hreach hfew)))⟩
  case delivery =>
    intro s c q sequence hq hroom howed a
    exact ⟨fun hsub => pulseDelivered_room hq hsub hroom howed, pulseDelivered_unpulsed hq⟩

end Sys2Proof.Machine
end

section
/-! SUPPORT. The pins (R142, R158), the sector timers (R145), the time base with its two stages (R142, R143), and expiries that
start nothing (log 1). -/

namespace Sys2Proof.Machine

/-- Settles O12: each pin's command answers the state by its definition. -/
theorem pinsResetAndReaddress : Obligations.PinsResetAndReaddress :=
  ⟨fun _ => rfl, fun _ _ => ⟨rfl, rfl⟩⟩

/-! ### A sector timer (R145) -/

@[simp] theorem Timer.tick_stopped : Timer.stopped.tick = .stopped := rfl
theorem Timer.tick_running {n : Nat} (h : 1 < n) : (Timer.running n).tick = .running (n - 1) := if_neg (Nat.not_le.mpr h)
@[simp] theorem Timer.tick_running_one : (Timer.running 1).tick = .due := rfl

theorem Timer.tick_iterate_running {n m : Nat} (h : m < n) : Timer.tick^[m] (.running n) = .running (n - m) := by
  induction m with
  | zero => rfl
  | succ m ih =>
    have hmore : 1 < n - m := Nat.lt_sub_of_add_lt (Nat.add_comm 1 m ▸ h)
    rw [Function.iterate_succ_apply', ih (Nat.lt_of_succ_lt h), Timer.tick_running hmore, Nat.sub_sub]

theorem Timer.tick_iterate_runs_out {n : Nat} (h : 0 < n) : Timer.tick^[n] (.running n) = .due := by
  obtain ⟨m, rfl⟩ := Nat.exists_eq_succ_of_ne_zero h.ne'
  have hone : m.succ - m = 1 := Nat.add_sub_cancel_left m 1
  rw [Function.iterate_succ_apply', Timer.tick_iterate_running m.lt_succ_self, hone, Timer.tick_running_one]

theorem Timer.tick_iterate_stopped (m : Nat) : Timer.tick^[m] .stopped = .stopped :=
  Function.iterate_fixed Timer.tick_stopped m

section

variable {s : State}

/-! ### The end of a tick, and a carry (R142) -/

theorem exec_tickEnd_tick (h : s.time.tickDue = false) : exec .tickEnd s = .next s.tick :=
  congrArg Host.Outcome.next (if_neg (by simp [h]))

theorem exec_tickEnd_reported (h : s.time.tickDue = true) :
    exec .tickEnd s = .next { s with time := { s.time with tickDue := false } } :=
  congrArg Host.Outcome.next (if_pos h)

theorem State.carry_below (h : s.time.secondStage + 1 < s.time.runningD2) : s.carry =
    { s with time := { s.time with firstStage := 0, secondStage := s.time.secondStage + 1, tickDue := false } } :=
  (s.carry_cases.resolve_right fun hlast => absurd h (Nat.not_lt.mpr hlast.1)).2

theorem State.carry_last (h : s.time.runningD2 ≤ s.time.secondStage + 1) : s.carry = s.tick :=
  (s.carry_cases.resolve_left fun hbelow => absurd hbelow.1 (Nat.not_lt.mpr h)).2

theorem exec_firstStageCarry_below (h : s.time.secondStage + 1 < s.time.runningD2) : exec .firstStageCarry s =
    .next { s with time := { s.time with firstStage := 0, secondStage := s.time.secondStage + 1, tickDue := false } } := by
  have hlast : s.time.lastCarry = false := decide_eq_false (Nat.not_le.mpr h)
  change execFirstStageCarry s = _
  rw [execFirstStageCarry, State.carry_below h, hlast]

theorem exec_firstStageCarry_last (h : s.time.runningD2 ≤ s.time.secondStage + 1) :
    exec .firstStageCarry s = .next { s.tick with time := { s.tick.time with tickDue := true } } := by
  have hlast : s.time.lastCarry = true := decide_eq_true h
  change execFirstStageCarry s = _
  rw [execFirstStageCarry, State.carry_last h, hlast]

/-! ### The periods of a tick (R142) -/

/-- The state with its two stages at the given counts. -/
def State.staged (s : State) (first second : Nat) : State :=
  { s with time := { s.time with firstStage := first, secondStage := second } }

theorem State.staged_self {a b : Nat} (ha : s.time.firstStage = a) (hb : s.time.secondStage = b) : s.staged a b = s := by
  subst ha hb; rfl

theorem State.clockPeriod_staged_counts {a b : Nat} (h : a + 1 < s.time.runningD1) :
    (s.staged a b).clockPeriod = s.staged (a + 1) b :=
  ((s.staged a b).clockPeriod_cases.resolve_right fun hcarry => absurd h (Nat.not_lt.mpr hcarry.1)).2

theorem State.clockPeriod_staged_carries {a b : Nat} (h : s.time.runningD1 ≤ a + 1) :
    (s.staged a b).clockPeriod = (s.staged a b).carry :=
  ((s.staged a b).clockPeriod_cases.resolve_left fun hcount => absurd hcount.1 (Nat.not_lt.mpr h)).2

theorem State.carry_staged_below {a b : Nat} (hdue : s.time.tickDue = false) (h : b + 1 < s.time.runningD2) :
    (s.staged a b).carry = s.staged 0 (b + 1) := by
  refine (State.carry_below (s := s.staged a b) h).trans ?_
  rw [← hdue]; rfl

/-- The tick ends as it does from any count of its stages, both of which start again from 0. -/
theorem State.carry_staged_last {a b : Nat} (h : s.time.runningD2 ≤ b + 1) : (s.staged a b).carry = s.tick :=
  State.carry_last (s := s.staged a b) h

/-- The state `m` clock periods into the tick that `s` begins. -/
def State.periodsIn (s : State) (m : Nat) : State := s.staged (m % s.time.runningD1) (m / s.time.runningD1)

/-- A period before the last is counted by the first stage, or makes a carry that the second counts. -/
theorem State.clockPeriod_periodsIn {m : Nat} (hd1 : 0 < s.time.runningD1) (hdue : s.time.tickDue = false)
    (hm : m + 1 < s.time.runningD1 * s.time.runningD2) : (s.periodsIn m).clockPeriod = s.periodsIn (m + 1) := by
  have hsplit := Nat.mod_add_div m s.time.runningD1
  rcases Nat.lt_or_ge (m % s.time.runningD1 + 1) s.time.runningD1 with hcount | hcarry
  · obtain ⟨hdiv, hmod⟩ := (Nat.div_mod_unique (a := m + 1) (d := m / s.time.runningD1) hd1).mpr ⟨by omega, hcount⟩
    rw [State.periodsIn, State.clockPeriod_staged_counts hcount, State.periodsIn, hdiv, hmod]
  · have hlt := Nat.mod_lt m hd1
    have hnext : s.time.runningD1 * (m / s.time.runningD1 + 1) = m + 1 := by rw [Nat.mul_succ]; omega
    obtain ⟨hdiv, hmod⟩ := (Nat.div_mod_unique (a := m + 1) (c := 0) hd1).mpr ⟨(Nat.zero_add _).trans hnext, hd1⟩
    have hbelow : m / s.time.runningD1 + 1 < s.time.runningD2 := Nat.lt_of_mul_lt_mul_left (hnext ▸ hm)
    rw [State.periodsIn, State.clockPeriod_staged_carries hcarry, State.carry_staged_below hdue hbelow, State.periodsIn, hdiv,
      hmod]

/-- The period that completes D1 times D2 makes the running D2-th carry. -/
theorem State.clockPeriod_periodsIn_last {m : Nat} (hd1 : 0 < s.time.runningD1)
    (hm : m + 1 = s.time.runningD1 * s.time.runningD2) : (s.periodsIn m).clockPeriod = s.tick := by
  have hd2 : 0 < s.time.runningD2 := Nat.pos_of_mul_pos_left (m.succ_pos.trans_eq hm)
  have hle : s.time.runningD1 ≤ s.time.runningD1 * s.time.runningD2 := Nat.le_mul_of_pos_right _ hd2
  obtain ⟨hdiv, hmod⟩ := (Nat.div_mod_unique (a := m) (c := s.time.runningD1 - 1) (d := s.time.runningD2 - 1) hd1).mpr
    ⟨by rw [Nat.mul_sub_one]; omega, Nat.sub_one_lt_of_lt hd1⟩
  rw [State.periodsIn, hdiv, hmod, State.clockPeriod_staged_carries (by omega), State.carry_staged_last (by omega)]

theorem State.clockPeriod_iterate {m : Nat} (hd1 : 0 < s.time.runningD1) (hfirst : s.time.firstStage = 0)
    (hsecond : s.time.secondStage = 0) (hdue : s.time.tickDue = false) (hm : m < s.time.runningD1 * s.time.runningD2) :
    State.clockPeriod^[m] s = s.periodsIn m := by
  induction m with
  | zero => rw [State.periodsIn, Nat.zero_mod, Nat.zero_div, State.staged_self hfirst hsecond]; rfl
  | succ m ih => rw [Function.iterate_succ_apply', ih (Nat.lt_of_succ_lt hm), State.clockPeriod_periodsIn hd1 hdue hm]

/-- A whole tick's periods are its end. -/
theorem State.clockPeriod_iterate_tick (hd1 : 0 < s.time.runningD1) (hd2 : 0 < s.time.runningD2)
    (hfirst : s.time.firstStage = 0) (hsecond : s.time.secondStage = 0) (hdue : s.time.tickDue = false) :
    State.clockPeriod^[s.time.runningD1 * s.time.runningD2] s = s.tick := by
  obtain ⟨m, hm⟩ := Nat.exists_eq_succ_of_ne_zero (Nat.mul_pos hd1 hd2).ne'
  rw [hm, Function.iterate_succ_apply', State.clockPeriod_iterate hd1 hfirst hsecond hdue (hm ▸ m.lt_succ_self),
    State.clockPeriod_periodsIn_last hd1 hm.symm]

/-! ### An expiry that is not due (R145, log 1) -/

theorem exec_intervalTimerExpiry_idle {l : LineId} (h : (s.line l).intervalTimer ≠ .due) :
    exec (.intervalTimerExpiry l) s = .next s := if_neg h

theorem exec_ceilingTimerExpiry_idle {l : LineId} (h : (s.line l).ceilingTimer ≠ .due) :
    exec (.ceilingTimerExpiry l) s = .next s := if_neg h

theorem exec_escalationTimerExpiry_idle {c : CaseNo} (h : (s.caseAt c).escalation ≠ .due) :
    exec (.escalationTimerExpiry c) s = .next s := if_neg (by simp [h])

theorem exec_offerTimerExpiry_idle {k : CrewNo} (h : ∀ o, (s.crew k).dyn.offer = some o → o.timer ≠ .due) :
    exec (.offerTimerExpiry k) s = .next s := by
  change execOfferTimerExpiry k s = _
  cases ho : (s.crew k).dyn.offer with
  | none => simp only [execOfferTimerExpiry, ho]
  | some o => simp only [execOfferTimerExpiry, ho, if_neg (h o ho)]

theorem exec_minTimerExpiry_idle {c : CaseNo} (h : (s.caseAt c).window.minTimer ≠ .due) :
    exec (.minTimerExpiry c) s = .next s := if_neg h

theorem exec_maxTimerExpiry_idle {c : CaseNo} (h : (s.caseAt c).window.maxTimer ≠ .due) :
    exec (.maxTimerExpiry c) s = .next s := if_neg h

theorem exec_stepTimerExpiry_idle {c : CaseNo} (h : (s.caseAt c).procedure.timer ≠ .due) :
    exec (.stepTimerExpiry c) s = .next s := if_neg (by simp [h])

theorem exec_settleTimerExpiry_idle {c : CaseNo} (h : ∀ q, (s.caseAt c).release = some q → q.settle ≠ .due) :
    exec (.settleTimerExpiry c) s = .next s := by
  change execSettleTimerExpiry c s = _
  cases hq : (s.caseAt c).release with
  | none => simp only [execSettleTimerExpiry, hq]
  | some q => simp only [execSettleTimerExpiry, hq]; exact if_neg (by simp [h q hq])

/-! ### An expiry that no state waits for (R12, R13) -/

theorem exec_intervalTimerExpiry_stops {l : LineId} (hb : s.Busy) (hstate : (s.line l).state ≠ .waitInterval)
    (hdue : (s.line l).intervalTimer = .due) :
    exec (.intervalTimerExpiry l) s = .next (s.setLine l { s.line l with intervalTimer := .stopped }) := by
  change execIntervalTimerExpiry l s = _
  simp only [execIntervalTimerExpiry, if_pos hdue, if_neg hstate]
  exact finish_busy ((s.setLine_busy l _).mpr hb)

theorem exec_ceilingTimerExpiry_stops {l : LineId} (hb : s.Busy) (hstate : (s.line l).state ≠ .quietIdle)
    (hdue : (s.line l).ceilingTimer = .due) :
    exec (.ceilingTimerExpiry l) s = .next (s.setLine l { s.line l with ceilingTimer := .stopped }) := by
  change execCeilingTimerExpiry l s = _
  simp only [execCeilingTimerExpiry, if_pos hdue, if_neg hstate]
  exact finish_busy ((s.setLine_busy l _).mpr hb)

end

/-- Settles O13: the end of a tick by what it does to each table, a timer by induction on the ticks, a carry by the second stage,
and the periods of a tick by induction on their number. -/
theorem ticksCountEveryTimer : Obligations.TicksCountEveryTimer := by
  refine ⟨fun s hdue => ⟨s.tick, exec_tickEnd_tick hdue, rfl, s.tick_line, s.tick_caseAt, s.tick_crew, rfl⟩,
    fun s hdue => exec_tickEnd_reported hdue,
    ⟨fun n m h => Timer.tick_iterate_running h, fun n h => Timer.tick_iterate_runs_out h, Timer.tick_iterate_stopped⟩,
    fun s => ⟨exec_firstStageCarry_below, fun hlast => ?_⟩, fun s hd1 hd2 hfirst hsecond hdue => ⟨fun m hm => ?_, ?_⟩⟩
  case refine_1 => exact ⟨s.tick, exec_tickEnd_tick rfl, exec_firstStageCarry_last hlast.ge⟩
  case refine_2 => exact State.clockPeriod_iterate hd1 hfirst hsecond hdue hm
  case refine_3 => rw [State.clockPeriod_iterate_tick hd1 hd2 hfirst hsecond hdue]; exact exec_tickEnd_tick hdue

/-- Settles O14: each expiry tests its timer first, and a line's expiry then tests the line's state. -/
theorem expiriesWithoutAnOwnerDoNothing : Obligations.ExpiriesWithoutAnOwnerDoNothing :=
  ⟨fun _ => ⟨fun _ => exec_intervalTimerExpiry_idle, fun _ => exec_ceilingTimerExpiry_idle,
      fun _ => exec_escalationTimerExpiry_idle, fun _ => exec_offerTimerExpiry_idle, fun _ => exec_minTimerExpiry_idle,
      fun _ => exec_maxTimerExpiry_idle, fun _ => exec_stepTimerExpiry_idle, fun _ => exec_settleTimerExpiry_idle⟩,
    fun _ _ hb => ⟨exec_intervalTimerExpiry_stops hb, exec_ceilingTimerExpiry_stops hb⟩⟩

end Sys2Proof.Machine
end


section
/-! SUPPORT. Frames received on NEAR and on FAR (R147 to R150): where each goes, told once for each kind of frame. -/

namespace Sys2Proof.Machine

section

variable {s : State} {bytes : List Byte} {f : TrunkFrame}

/-! ### Frames passed on (R149, R150) -/

/-- The port once a frame has been offered to the forward queue: joined while FAR is UP and there is room, dropped and counted
otherwise (R149). -/
theorem offerForward_eq (s : State) (bytes : List Byte) : offerForward s bytes = { s with trunk :=
    if s.trunk.farUp = true ∧ s.trunk.forward.length < 16 then { s.trunk with forward := s.trunk.forward ++ [bytes] }
    else { s.trunk with counters := { s.trunk.counters with
      forwardDrops := satInc 65535 s.trunk.counters.forwardDrops } } } := by
  have hroom : (s.trunk.farUp && decide (s.trunk.forward.length < Config.forwardCapacity)) = true ↔
      s.trunk.farUp = true ∧ s.trunk.forward.length < 16 :=
    Bool.and_eq_true_iff.trans (and_congr_right' decide_eq_true_iff)
  unfold offerForward
  by_cases h : s.trunk.farUp = true ∧ s.trunk.forward.length < 16
  · rw [if_pos h, if_pos (hroom.mpr h)]
  · rw [if_neg h, if_neg (mt hroom.mp h)]

/-- A good frame from FAR joins the relay queue, or is dropped and counted (R150). -/
theorem offerRelay_eq (s : State) (bytes : List Byte) : offerRelay s bytes = { s with trunk :=
    if s.trunk.relay.length < 16 then { s.trunk with relay := s.trunk.relay ++ [bytes] }
    else { s.trunk with counters := { s.trunk.counters with
      relayDrops := satInc 65535 s.trunk.counters.relayDrops } } } := by
  unfold offerRelay
  by_cases h : s.trunk.relay.length < 16
  · rw [if_pos h]
    exact if_pos h
  · rw [if_neg h]
    exact if_neg h

theorem State.Busy.offerForward (h : s.Busy) : (offerForward s bytes).Busy := by
  unfold Machine.offerForward
  dsimp only
  split <;> exact h

theorem State.Busy.offerRelay (h : s.Busy) : (offerRelay s bytes).Busy := by
  unfold Machine.offerRelay
  dsimp only
  split <;> exact h

/-! ### Frames on NEAR (R147, R148) -/

/-- The sector address, which the twelve straps give, is never the broadcast address (R148, R158). -/
theorem State.sector_ne_broadcast (s : State) : (s.straps.setWidth 16 : BitVec 16) ≠ 0xFFFF#16 := by
  intro h
  have hvalue := congrArg BitVec.toNat h
  have hlt := s.straps.isLt
  rw [BitVec.toNat_setWidth, Nat.mod_eq_of_lt (by omega)] at hvalue
  simp at hvalue
  omega

theorem nearFrame_down (h : s.trunk.nearUp = false) : nearFrame s bytes = (s, []) := by
  simp [nearFrame, h]

theorem nearFrame_bad (hup : s.trunk.nearUp = true) (h : readTrunk bytes = none) :
    nearFrame s bytes = (countNearCheck s, []) := by
  simp [nearFrame, hup, h]

/-- A good frame for another address is passed on (R148, R149). -/
theorem nearFrame_elsewhere (hup : s.trunk.nearUp = true) (h : readTrunk bytes = some f)
    (hsector : f.destination ≠ s.straps.setWidth 16) (hbroadcast : f.destination ≠ 0xFFFF#16) :
    nearFrame s bytes = (offerForward s bytes, []) := by
  have hsector' : f.destination ≠ s.sector := hsector
  have hbroadcast' : f.destination ≠ Config.broadcast := hbroadcast
  simp [nearFrame, hup, h, hsector', hbroadcast']

/-- A good frame for this address is taken (R148). -/
theorem nearFrame_own (hup : s.trunk.nearUp = true) (h : readTrunk bytes = some f)
    (hsector : f.destination = s.straps.setWidth 16) : nearFrame s bytes = takeFrame s f := by
  have hsector' : f.destination = s.sector := hsector
  simp [nearFrame, hup, h, hsector']

/-- A good broadcast frame is offered to the forward queue and taken (R148, log 39). -/
theorem nearFrame_broadcast (hup : s.trunk.nearUp = true) (h : readTrunk bytes = some f)
    (hbroadcast : f.destination = 0xFFFF#16) : nearFrame s bytes = takeFrame (offerForward s bytes) f := by
  have hsector : f.destination ≠ s.sector := fun heq => s.sector_ne_broadcast (heq.symm.trans hbroadcast)
  have hbroadcast' : f.destination = Config.broadcast := hbroadcast
  simp only [nearFrame, hup, h, if_true, if_neg hsector, if_pos hbroadcast']

/-- A taken frame of another kind than the three is counted (R148). -/
theorem takeFrame_otherKind (s : State) (hmgmt : f.kind.toNat ≠ 1) (hcontrol : f.kind.toNat ≠ 2) (hcrew : f.kind.toNat ≠ 3) :
    takeFrame s f = (countNearKind s, []) := by
  unfold takeFrame
  dsimp only
  split
  · exact absurd ‹_› hmgmt
  · exact absurd ‹_› hcontrol
  · exact absurd ‹_› hcrew
  · rfl

theorem countNearKind_offerForward (s : State) (bytes : List Byte) : countNearKind (offerForward s bytes) = { s with trunk :=
    if s.trunk.farUp = true ∧ s.trunk.forward.length < 16 then { s.trunk with
      forward := s.trunk.forward ++ [bytes]
      counters := { s.trunk.counters with nearKind := satInc 65535 s.trunk.counters.nearKind } }
    else { s.trunk with counters := { s.trunk.counters with
      nearKind := satInc 65535 s.trunk.counters.nearKind
      forwardDrops := satInc 65535 s.trunk.counters.forwardDrops } } } := by
  rw [offerForward_eq]
  split <;> rfl

/-- A frame on NEAR whose work leaves no job. -/
theorem exec_nearFrame {t : State} (ht : t.Busy) (h : nearFrame s bytes = (t, [])) :
    exec (.nearFrameReceived bytes) s = .next t := by
  change finish (nearFrame s bytes) = _
  rw [h, finish_busy ht]

end

/-- Settles O21: a frame is judged by its check, then by its destination, then by its kind, and none of these leaves a job. -/
theorem nearFramesAreTakenForwardedOrCounted : Obligations.NearFramesAreTakenForwardedOrCounted := by
  intro s bytes hb
  refine ⟨fun hdown => ?_, fun hup hbad => ?_, fun f hup hgood => ⟨fun hsector hbroadcast => ?_, ?_, ?_⟩⟩
  · exact exec_nearFrame hb (nearFrame_down hdown)
  · exact exec_nearFrame hb (nearFrame_bad hup hbad)
  · rw [← offerForward_eq]
    exact exec_nearFrame hb.offerForward (nearFrame_elsewhere hup hgood hsector hbroadcast)
  · intro hsector hmgmt hcontrol hcrew
    exact exec_nearFrame hb ((nearFrame_own hup hgood hsector).trans (takeFrame_otherKind s hmgmt hcontrol hcrew))
  · intro hbroadcast hmgmt hcontrol hcrew
    rw [← countNearKind_offerForward]
    exact exec_nearFrame hb.offerForward
      ((nearFrame_broadcast hup hgood hbroadcast).trans (takeFrame_otherKind _ hmgmt hcontrol hcrew))

/-- Settles O23: a frame on FAR is judged by its check alone. -/
theorem farFramesAreRelayedOrCounted : Obligations.FarFramesAreRelayedOrCounted := by
  intro s bytes hb
  have hexec : ∀ t : State, t.Busy → farFrame s bytes = t → exec (.farFrameReceived bytes) s = .next t := by
    rintro t ht rfl
    exact finish_busy ht
  refine ⟨fun hdown => ?_, fun hup hbad => ?_, fun hup hgood => ?_⟩
  · exact hexec s hb (by simp [farFrame, hdown])
  · exact hexec (countFarCheck s) hb (by simp [farFrame, hup, hbad])
  · obtain ⟨f, hf⟩ := Option.ne_none_iff_exists'.mp hgood
    rw [← offerRelay_eq]
    exact hexec (offerRelay s bytes) hb.offerRelay (by simp [farFrame, hup, hf])

end Sys2Proof.Machine
end


section
/-! SUPPORT. The transmitters (R147, R149, R155): what an idle one begins with, and what a change of a link loses and begins. -/

namespace Sys2Proof.Machine

section

variable {s t : State} {f : OwnFrame} {rest : List OwnFrame} {b : List Byte} {others : List (List Byte)}

/-! ### What an idle transmitter begins with (R149, R155) -/

/-- The FAR transmitter can begin nothing: FAR is DOWN, or sending. -/
theorem kickFar_of_sending (h : s.trunk.farUp = true → s.trunk.farTx ≠ none) : kickFar s = s := by
  refine if_neg fun hidle => ?_
  obtain ⟨hup, hnone⟩ := Bool.and_eq_true_iff.mp hidle
  exact h hup (Option.isNone_iff_eq_none.mp hnone)

/-- The NEAR transmitter can begin nothing: NEAR is DOWN, or sending. -/
theorem kickNear_of_sending (h : s.trunk.nearUp = true → s.trunk.nearTx ≠ none) : kickNear s = (s, []) := by
  refine if_neg fun hidle => ?_
  obtain ⟨hup, hnone⟩ := Bool.and_eq_true_iff.mp hidle
  exact h hup (Option.isNone_iff_eq_none.mp hnone)

section

variable (hup : s.trunk.farUp = true) (hidle : s.trunk.farTx = none)
include hup hidle

theorem kickFar_nothing (hforward : s.trunk.forward = []) : kickFar s = s := by
  simp [kickFar, hup, hidle, hforward]

theorem kickFar_head (hforward : s.trunk.forward = b :: others) :
    kickFar s = { s with trunk := { s.trunk with forward := others, farTx := some b } } := by
  simp [kickFar, hup, hidle, hforward]

end

section

variable (hup : s.trunk.nearUp = true) (hidle : s.trunk.nearTx = none)
include hup hidle

theorem kickNear_nothing (hown : s.trunk.own = []) (hrelay : s.trunk.relay = []) : kickNear s = (s, []) := by
  simp [kickNear, hup, hidle, hown, hrelay]

theorem kickNear_relay (hown : s.trunk.own = []) (hrelay : s.trunk.relay = b :: others) :
    kickNear s = (sendRelay s b others s.trunk.turn, []) := by
  simp [kickNear, hup, hidle, hown, hrelay]

/-- The own head is sent where no relay head waits, or where it is not a summary (R155). -/
theorem kickNear_own (hown : s.trunk.own = f :: rest) (h : s.trunk.relay = [] ∨ f.isSummary = false) :
    kickNear s = sendOwn s f rest s.trunk.turn := by
  cases hrelay : s.trunk.relay with
  | nil => simp [kickNear, hup, hidle, hown, hrelay]
  | cons b others =>
    have hnotice : f.isSummary = false := h.resolve_left (by rw [hrelay]; exact List.cons_ne_nil b others)
    simp [kickNear, hup, hidle, hown, hrelay, hnotice]

/-- Between a summary and a relay head the turn mark decides, and moves to the other (R155). -/
theorem kickNear_turn (hown : s.trunk.own = f :: rest) (hsummary : f.isSummary = true)
    (hrelay : s.trunk.relay = b :: others) :
    (s.trunk.turn = .relay → kickNear s = (sendRelay s b others .own, [])) ∧
    (s.trunk.turn = .own → kickNear s = sendOwn s f rest .relay) := by
  refine ⟨fun hturn => ?_, fun hturn => ?_⟩ <;> simp [kickNear, hup, hidle, hown, hrelay, hsummary, hturn]

end

/-- A frame that leaves serves no case where none owes a notice (R154). -/
theorem serveOwed_none (h : ∀ c, (s.caseAt c).owed = false) : serveOwed s = (s, []) := by
  have hnone : s.firstOwed = none := List.find?_eq_none.mpr fun c _ => by simp [h c]
  simp [serveOwed, hnone]

theorem sendOwn_none (h : ∀ c, (s.caseAt c).owed = false) (f : OwnFrame) (rest : List OwnFrame) (turn : Turn) :
    sendOwn s f rest turn = ({ s with trunk := { s.trunk with own := rest, nearTx := some (.own f), turn := turn } }, []) :=
  serveOwed_none (s := { s with trunk := { s.trunk with own := rest, nearTx := some (.own f), turn := turn } }) h

/-- A handling without a job ends with what the NEAR transmitter begins. -/
theorem finish_kickNear (hfar : s.trunk.farUp = true → s.trunk.farTx ≠ none) (h : kickNear s = (t, [])) :
    finish (s, []) = .next t := by
  have hkick : kick s = (t, []) := by rw [kick, kickFar_of_sending hfar, h]
  simp [finish, Config.cascadeBudget, runJobs, hkick]

/-- A handling without a job ends with what the FAR transmitter begins. -/
theorem finish_kickFar (hnear : s.trunk.nearUp = true → s.trunk.nearTx ≠ none) (h : kickFar s = t)
    (ht : t.trunk.nearUp = s.trunk.nearUp ∧ t.trunk.nearTx = s.trunk.nearTx) : finish (s, []) = .next t := by
  have hkick : kick s = (t, []) := by
    rw [kick, h]
    exact kickNear_of_sending (by rw [ht.1, ht.2]; exact hnear)
  simp [finish, Config.cascadeBudget, runJobs, hkick]

/-! ### The end of a transmission (R149, R155) -/

/-- The NEAR transmitter becomes idle. -/
def State.nearIdle (s : State) : State := { s with trunk := { s.trunk with nearTx := none } }

theorem exec_nearTransmitComplete (hfar : s.trunk.farUp = true → s.trunk.farTx ≠ none) (h : kickNear s.nearIdle = (t, [])) :
    exec .nearTransmitComplete s = .next t := finish_kickNear (s := s.nearIdle) hfar h

section

variable (hup : s.trunk.nearUp = true) (hfar : s.trunk.farUp = true → s.trunk.farTx ≠ none)
include hup hfar

/-- With nothing waiting the NEAR transmitter stays idle. -/
theorem exec_nearTransmitComplete_nothing (hown : s.trunk.own = []) (hrelay : s.trunk.relay = []) :
    exec .nearTransmitComplete s = .next { s with trunk := { s.trunk with nearTx := none } } := by
  exact exec_nearTransmitComplete hfar <| kickNear_nothing (s := s.nearIdle) hup rfl hown hrelay

theorem exec_nearTransmitComplete_relay (hown : s.trunk.own = []) (hrelay : s.trunk.relay = b :: others) :
    exec .nearTransmitComplete s =
      .next { s with trunk := { s.trunk with relay := others, nearTx := some (.relayed b) } } := by
  exact exec_nearTransmitComplete hfar <| kickNear_relay (s := s.nearIdle) hup rfl hown hrelay

variable (howed : ∀ c, (s.caseAt c).owed = false)
include howed

theorem exec_nearTransmitComplete_own (hown : s.trunk.own = f :: rest) (h : s.trunk.relay = [] ∨ f.isSummary = false) :
    exec .nearTransmitComplete s =
      .next { s with trunk := { s.trunk with own := rest, nearTx := some (.own f) } } := by
  refine exec_nearTransmitComplete hfar ?_
  rw [kickNear_own (s := s.nearIdle) hup rfl hown h, sendOwn_none (s := s.nearIdle) howed]
  rfl

/-- The turn mark decides, and moves to the other (R155). -/
theorem exec_nearTransmitComplete_turn (hown : s.trunk.own = f :: rest) (hsummary : f.isSummary = true)
    (hrelay : s.trunk.relay = b :: others) :
    (s.trunk.turn = .relay → exec .nearTransmitComplete s = .next { s with trunk := { s.trunk with
      relay := others, nearTx := some (.relayed b), turn := .own } }) ∧
    (s.trunk.turn = .own → exec .nearTransmitComplete s = .next { s with trunk := { s.trunk with
      own := rest, nearTx := some (.own f), turn := .relay } }) := by
  obtain ⟨hrelayed, hsent⟩ := kickNear_turn (s := s.nearIdle) hup rfl hown hsummary hrelay
  refine ⟨fun hturn => exec_nearTransmitComplete hfar (hrelayed hturn), fun hturn => exec_nearTransmitComplete hfar ?_⟩
  rw [hsent hturn]
  exact sendOwn_none (s := s.nearIdle) howed f rest .relay

end

/-! ### Link changes (R147, R149) -/

/-- NEAR is UP. -/
def State.nearOn (s : State) : State := { s with trunk := { s.trunk with nearUp := true } }

/-- NEAR comes UP with nothing in transmission: it chooses as at the end of one. -/
theorem exec_nearUp_eq (hidle : s.trunk.nearTx = none) : exec (.linkStateChange .near true) s =
    exec .nearTransmitComplete s.nearOn := by
  change finish (setNear s true, []) = finish ({ s with trunk := { s.trunk with nearUp := true, nearTx := none } }, [])
  rw [setNear, if_pos rfl, hidle]

/-- FAR comes UP with nothing in transmission, and begins with the head of the forward queue. -/
theorem exec_farUp (hnear : s.trunk.nearUp = true → s.trunk.nearTx ≠ none) (hidle : s.trunk.farTx = none) :
    (s.trunk.forward = [] →
      exec (.linkStateChange .far true) s = .next { s with trunk := { s.trunk with farUp := true } }) ∧
    ∀ b rest, s.trunk.forward = b :: rest → exec (.linkStateChange .far true) s =
      .next { s with trunk := { s.trunk with farUp := true, forward := rest, farTx := some b } } := by
  refine ⟨fun hforward => ?_, fun b rest hforward => ?_⟩
  · exact finish_kickFar (s := setFar s true) hnear (kickFar_nothing (s := setFar s true) rfl hidle hforward) ⟨rfl, rfl⟩
  · exact finish_kickFar (s := setFar s true) hnear (kickFar_head (s := setFar s true) rfl hidle hforward) ⟨rfl, rfl⟩

/-- FAR goes DOWN, discarding what waits and counting it where it was UP (R149). -/
theorem setFar_down (s : State) : setFar s false = { s with trunk :=
    if s.trunk.farUp = true then { s.trunk with
      farUp := false, farTx := none, forward := []
      counters := { s.trunk.counters with
        forwardDrops := min 65535 (s.trunk.counters.forwardDrops + s.trunk.forward.length) } }
    else s.trunk } := by
  simp only [setFar, Bool.false_eq_true, if_false]
  split <;> rfl

theorem State.Busy.setFar_down (h : s.Busy) : (setFar s false).Busy := by
  rw [Machine.setFar_down]
  split
  · exact ⟨h.1, nofun⟩
  · exact h

end

/-- Settles O24: a link change is a change of the port, after which an idle transmitter chooses as at the end of a transmission. -/
theorem linkChangesLoseWhatWasLeaving : Obligations.LinkChangesLoseWhatWasLeaving := by
  refine ⟨fun s hb => ⟨?_, ?_, ?_, ?_, ?_, ?_, ?_⟩, fun s hdown hidle hfar howed => ⟨?_, ?_, ?_⟩,
    fun s _ hidle => exec_nearUp_eq hidle⟩
  · exact finish_busy (s := setNear s false) ⟨nofun, hb.2⟩
  · rw [← setFar_down]
    exact finish_busy hb.setFar_down
  · intro hup
    have hself : setNear s true = s := by
      rw [setNear, if_pos rfl, ← hup]
    change finish (setNear s true, []) = _
    rw [hself]
    exact finish_busy hb
  · intro hup
    have hself : setFar s true = s := by rw [setFar, if_pos rfl, ← hup]
    change finish (setFar s true, []) = _
    rw [hself]
    exact finish_busy hb
  · intro _ hidle hown hrelay
    exact finish_kickNear (s := setNear s true) hb.2 (kickNear_nothing (s := setNear s true) rfl hidle hown hrelay)
  · exact fun _ hidle => (exec_farUp hb.1 hidle).1
  · exact fun _ hidle => (exec_farUp hb.1 hidle).2
  · intro b rest hown hrelay
    exact (exec_nearUp_eq hidle).trans (exec_nearTransmitComplete_relay (s := s.nearOn) rfl hfar hown hrelay)
  · intro f rest hown h
    exact (exec_nearUp_eq hidle).trans (exec_nearTransmitComplete_own (s := s.nearOn) rfl hfar howed hown h)
  · intro f rest b others hown hsummary hrelay
    rw [exec_nearUp_eq hidle]
    exact exec_nearTransmitComplete_turn (s := s.nearOn) rfl hfar howed hown hsummary hrelay

/-- Settles O25: an idle transmitter's choice is that of its next beginning. -/
theorem transmittersChooseTheirNextFrame : Obligations.TransmittersChooseTheirNextFrame := by
  refine ⟨fun s hup hfar howed => ⟨?_, ?_, ?_, ?_⟩, fun s hup hnear => ⟨fun hforward => ?_, fun b rest hforward => ?_⟩⟩
  · exact exec_nearTransmitComplete_nothing hup hfar
  · exact fun b rest => exec_nearTransmitComplete_relay hup hfar
  · exact fun f rest => exec_nearTransmitComplete_own hup hfar howed
  · exact fun f rest b others => exec_nearTransmitComplete_turn hup hfar howed
  · exact finish_kickFar (s := { s with trunk := { s.trunk with farTx := none } }) hnear (kickFar_nothing hup rfl hforward)
      ⟨rfl, rfl⟩
  · exact finish_kickFar (s := { s with trunk := { s.trunk with farTx := none } }) hnear (kickFar_head hup rfl hforward)
      ⟨rfl, rfl⟩

end Sys2Proof.Machine
end


section
/-! SUPPORT. A departure from the own queue that serves an owed notice (R154), and frames offered to a full own queue (R151 to
R153). -/

namespace Sys2Proof.Machine

section

variable {s t : State} {c : CaseNo} {f : OwnFrame} {rest : List OwnFrame}

/-! ### A departure that serves an owed notice (R154) -/

/-- The lowest record that owes a notice is served first. -/
theorem State.firstOwed_eq_some (howed : (s.caseAt c).owed = true) (hlow : ∀ d < c, (s.caseAt d).owed = false) :
    s.firstOwed = some c := finRange_find?_eq_some.mpr ⟨howed, hlow⟩

/-- An OPEN record is served with a SNAPSHOT as it stands, and owes nothing any more (R154). -/
theorem serveOwed_open (hfirst : s.firstOwed = some c) (hopen : s.isOpen c = true) : serveOwed s =
    ((s.withNotice c (s.caseAt c) .snapshot
      (.snapshot (s.caseAt c).causes (s.caseAt c).escalations (s.caseAt c).seen)).setCase c
        { s.caseAt c with owed := false }, []) := by
  have hrecord : (s.caseAt c).record = .opened := beq_iff_eq.mp hopen
  simp only [serveOwed, hfirst]
  split
  · rfl
  · next h => exact RecordState.noConfusion (hrecord.symm.trans h)
  · next h => exact RecordState.noConfusion (hrecord.symm.trans h)

/-- A CLOSING record is served with the CLOSED notice of its close, and becomes FREE (R77, R82, R154). -/
theorem serveOwed_closing (hfirst : s.firstOwed = some c) (hclosing : (s.caseAt c).record = .closing) : serveOwed s =
    ((s.withBroadcast (.notice (s.closedNotice c))).setCase c .free, [.arbitrate]) := by
  simp only [serveOwed, hfirst, hclosing]
  rfl

/-- The CLOSED notice is made with what its close has fixed in the record (R82). -/
theorem State.closedNotice_eq {reason : CloseReason} {identity : Nat} {stamp : BitVec 32}
    (hreason : (s.caseAt c).closeReason = some reason) (hidentity : (s.caseAt c).closedIdentity = some identity)
    (hstamp : (s.caseAt c).closedAt = some stamp) : s.closedNotice c =
      ⟨.closed, some ((s.caseAt c).serial, c), some identity, stamp, some ((s.caseAt c).urgency, (s.caseAt c).dispatch),
        (s.caseAt c).closeTag, .closed reason⟩ := by
  simp [State.closedNotice, State.noticeOf, hreason, hidentity, hstamp]

/-- A handling without a job of its own does the one that the NEAR transmitter's beginning gives rise to. -/
theorem finish_kickNear_job {u : State} {j : Job} (hfar : s.trunk.farUp = true → s.trunk.farTx ≠ none)
    (h : kickNear s = (u, [j])) (hj : perform u j = (t, [])) (ht : t.Busy) : finish (s, []) = .next t := by
  have hkick : kick s = (u, [j]) := by rw [kick, kickFar_of_sending hfar, h]
  simp [finish, Config.cascadeBudget, runJobs, hkick, hj, kick_of_busy ht]

section

variable (hup : s.trunk.nearUp = true) (hfar : s.trunk.farUp = true → s.trunk.farTx ≠ none) (hown : s.trunk.own = f :: rest)
  (hnotice : f.isSummary = false) (hfirst : s.firstOwed = some c)
include hup hfar hown hnotice hfirst

/-- The port once the head of the own queue has left it and is being sent. -/
def State.departed (s : State) (f : OwnFrame) (rest : List OwnFrame) : State :=
  { s with trunk := { s.trunk with own := rest, nearTx := some (.own f) } }

omit hfar hfirst in
theorem kickNear_departed : kickNear s.nearIdle = serveOwed (s.departed f rest) :=
  kickNear_own (s := s.nearIdle) hup rfl hown (.inr hnotice)

theorem exec_nearTransmitComplete_snapshot (hopen : s.isOpen c = true) : exec .nearTransmitComplete s =
    .next (((s.departed f rest).withNotice c (s.caseAt c) .snapshot
      (.snapshot (s.caseAt c).causes (s.caseAt c).escalations (s.caseAt c).seen)).setCase c
        { s.caseAt c with owed := false }) :=
  exec_nearTransmitComplete hfar
    ((kickNear_departed hup hown hnotice).trans (serveOwed_open (s := s.departed f rest) hfirst hopen))

/-- The record that becomes FREE is given to no lift where no latch waits (R66). -/
theorem exec_nearTransmitComplete_closed (hclosing : (s.caseAt c).record = .closing)
    (hlatches : ∀ i, (s.lift i).dyn.latch = .empty) : exec .nearTransmitComplete s =
      .next (((s.departed f rest).withBroadcast (.notice (s.closedNotice c))).setCase c .free) := by
  have hserved := (kickNear_departed hup hown hnotice).trans (serveOwed_closing (s := s.departed f rest) hfirst hclosing)
  exact finish_kickNear_job (s := s.nearIdle) hfar hserved (arbitrate_unlatched hlatches) ⟨fun _ => nofun, hfar⟩

end

/-! ### A full own queue (R151, R152) -/

theorem dropOldestSummary_eq {older newer : List OwnFrame} {m : OwnFrame} (hm : m.isSummary = true)
    (hnotices : ∀ x ∈ older, x.isSummary = false) : dropOldestSummary (older ++ m :: newer) = some (older ++ newer) := by
  induction older with
  | nil => simp [dropOldestSummary, hm]
  | cons x older ih =>
    obtain ⟨hx, holder⟩ := List.forall_mem_cons.mp hnotices
    simp [dropOldestSummary, hx, ih holder]

theorem dropOldestSummary_notices : ∀ {q : List OwnFrame}, (∀ x ∈ q, x.isSummary = false) → dropOldestSummary q = none
  | [], _ => rfl
  | x :: q, h => by
    obtain ⟨hx, hq⟩ := List.forall_mem_cons.mp h
    simp [dropOldestSummary, hx, dropOldestSummary_notices hq]

/-- At a full queue the oldest summary gives its place away, and is counted (R151, R152). -/
theorem Trunk.join_displaces {t : Trunk} {older newer : List OwnFrame} {m : OwnFrame} (hfull : 32 ≤ t.own.length)
    (hown : t.own = older ++ m :: newer) (hm : m.isSummary = true) (hnotices : ∀ x ∈ older, x.isSummary = false)
    (f : OwnFrame) : t.join f = some { t with
      own := older ++ newer ++ [f]
      counters := { t.counters with summaryDrops := min 65535 (t.counters.summaryDrops + 1) } } := by
  have hdrop : dropOldestSummary t.own = some (older ++ newer) := hown ▸ dropOldestSummary_eq hm hnotices
  have hroom : ¬ t.own.length < Config.ownCapacity := Nat.not_lt.mpr hfull
  simp only [Trunk.join, if_neg hroom, hdrop, satInc_eq_min]

/-- At a queue full of notice-class frames nothing joins (R152). -/
theorem Trunk.join_refused {t : Trunk} (hfull : 32 ≤ t.own.length) (hnotices : ∀ x ∈ t.own, x.isSummary = false)
    (f : OwnFrame) : t.join f = none := by
  have hroom : ¬ t.own.length < Config.ownCapacity := Nat.not_lt.mpr hfull
  simp only [Trunk.join, if_neg hroom, dropOldestSummary_notices hnotices]

/-- An ANSWER that finds no place is lost and counted (R152). -/
theorem State.offerAnswer_refused (hfull : 32 ≤ s.trunk.own.length) (hnotices : ∀ x ∈ s.trunk.own, x.isSummary = false)
    (o : Origin) (b : OwnBody) : s.offerAnswer o b = { s with trunk := { s.trunk with counters := { s.trunk.counters with
      answersLost := min 65535 (s.trunk.counters.answersLost + 1) } } } := by
  simp only [State.offerAnswer, Trunk.join_refused hfull hnotices, satInc_eq_min]

/-- While a case owes a notice its further notices fold into it (R153). -/
theorem State.offerCase_folded (howed : (s.caseAt c).owed = true) (x : Notice) :
    s.offerCase c x = ({ s with trunk := { s.trunk with sequence := s.trunk.sequence + 1 } }, .kept) := if_pos howed

end

/-- Settles O26: a departure is followed by what the served case is sent; what is offered to a full queue goes by its oldest
summary. -/
theorem departureServesTheLowestOwedCase : Obligations.DepartureServesTheLowestOwedCase := by
  refine ⟨fun s c f rest hup hfar hown hnotice howed hlow => ⟨?_, ?_⟩, fun s hfull => ⟨?_, ?_, ?_⟩,
    fun s c x howed => State.offerCase_folded howed x, fun s o hb hfull hnotices => ?_⟩
  · exact exec_nearTransmitComplete_snapshot hup hfar hown hnotice (State.firstOwed_eq_some howed hlow)
  · intro reason identity stamp hclosing hreason hidentity hstamp hlatches
    have hexec := exec_nearTransmitComplete_closed hup hfar hown hnotice (State.firstOwed_eq_some howed hlow) hclosing hlatches
    rwa [State.closedNotice_eq hreason hidentity hstamp] at hexec
  · intro older m newer hown hm hnotices
    have hjoin := Trunk.join_displaces hfull hown hm hnotices
    refine ⟨fun o b => ?_, fun b => ?_, fun c x howed => ?_⟩
    · simp only [State.offerAnswer, hjoin]
      rfl
    · simp only [State.offerLoose, hjoin]
      rfl
    · simp only [State.offerCase, howed, hjoin]
      rfl
  · intro hnotices
    have hjoin := Trunk.join_refused hfull hnotices
    refine ⟨State.offerAnswer_refused hfull hnotices, fun b => ?_, fun c x howed => ?_⟩
    · simp only [State.offerLoose, hjoin, satInc_eq_min]
      rfl
    · simp only [State.offerCase, howed, hjoin]
      rfl
  · intro m
    have hroom : ¬ s.trunk.own.length < Config.ownCapacity := Nat.not_lt.mpr hfull
    simp only [State.offerSummary, if_neg hroom, satInc_eq_min]
    rfl
  · have hread : readRequest s o 6 0 = (s.answer o kindRead .ok (.settings s.settings), []) := rfl
    change finish (readRequest s o 6 0) = _
    rw [hread, State.answer, State.offerAnswer_refused hfull hnotices]
    exact finish_busy hb

end Sys2Proof.Machine
end


section
/-! SUPPORT. CONTROL commands (R156): the tests in their order, the routine queue (R17), and a line in QUIET_IDLE that sends the
command at once (R13, R15). -/

namespace Sys2Proof.Machine

section

variable {s v : State} {o : Origin} {identity : Nat} {i : LiftIdx} {l : LineId} {cmd : CarCommand} {code : AnswerCode}

/-! ### The tests of R156 -/

theorem State.controlCode_badValue (h : cmd.inRange = false) : s.controlCode identity cmd = .badValue := by
  simp [State.controlCode, h]

theorem State.controlCode_unresolved (hrange : cmd.inRange = true) (hi : s.resolveIdentity identity = none) :
    s.controlCode identity cmd = .badIndex := by
  simp [State.controlCode, hrange, hi]

section

variable (hrange : cmd.inRange = true) (hi : s.resolveIdentity identity = some i)
include hrange hi

theorem State.controlCode_off (hoff : (s.line (lineOf i)).state = .off) : s.controlCode identity cmd = .wrongState := by
  simp [State.controlCode, hrange, hi, hoff]

theorem State.controlCode_locked (hon : (s.line (lineOf i)).state ≠ .off) (hkind : cmd.lockedByCase = true)
    (hcase : (s.lift i).dyn.openCase ≠ none) : s.controlCode identity cmd = .locked := by
  simp [State.controlCode, hrange, hi, hon, hkind, Option.isSome_iff_ne_none.mpr hcase]

variable (hon : (s.line (lineOf i)).state ≠ .off) (hfree : cmd.lockedByCase = false ∨ (s.lift i).dyn.openCase = none)
include hon hfree

/-- A command that no case locks out goes by the room in the routine queue (R17). -/
theorem State.controlCode_unlocked : s.controlCode identity cmd =
    if (s.line (lineOf i)).routine.length < 8 then .queued else .full := by
  have hlock : (cmd.lockedByCase && (s.lift i).dyn.openCase.isSome) = false := by
    rcases hfree with h | h <;> simp [h]
  simp only [State.controlCode, hrange, hi, hlock, if_neg hon, Bool.not_true, Bool.false_eq_true, if_false]
  rfl

theorem State.controlCode_queued (hroom : (s.line (lineOf i)).routine.length < 8) : s.controlCode identity cmd = .queued := by
  rw [State.controlCode_unlocked hrange hi hon hfree, if_pos hroom]

theorem State.controlCode_full (hfull : 8 ≤ (s.line (lineOf i)).routine.length) : s.controlCode identity cmd = .full := by
  rw [State.controlCode_unlocked hrange hi hon hfree, if_neg (Nat.not_lt.mpr hfull)]

end

/-! ### The answer (R156, log 10) -/

/-- A free value has been drawn (log 10). -/
def State.drawn (s : State) : State := { s with freeDraws := s.freeDraws + 1 }

/-- An ANSWER with a free request-kind byte, with room (R151). -/
theorem answerControl_room (h : s.trunk.own.length < 32) (o : Origin) (code : AnswerCode) :
    answerControl s o code = s.drawn.withAnswer o s.drawFree.1 code .none :=
  State.answer_room s.drawn o s.drawFree.1 code .none h

theorem finish_control_refused (hr : s.Ready 1) (hcode : s.controlCode identity cmd = code) (hne : code ≠ .queued) :
    ∃ k, finish (controlRequest s o identity cmd) = .next (s.drawn.withAnswer o k code .none) := by
  have hroom := hr.room
  have hwork : controlRequest s o identity cmd = (answerControl s o code, []) := by
    unfold controlRequest
    dsimp only
    rw [hcode]
    split
    · exact absurd rfl hne
    · rfl
  rw [hwork, answerControl_room (by omega)]
  exact ⟨_, finish_busy hr.busy⟩

/-! ### A routine command sent by a line in QUIET_IDLE (R13, R15) -/

theorem State.enabled_of_resolveIdentity (h : s.resolveIdentity identity = some i) : (s.lift i).config.enabled = true :=
  (Bool.and_eq_true_iff.mp (finRange_find?_eq_some.mp h).1).1

/-- The record of a line with a routine command at the tail of its queue (R17). -/
def Line.queueing (x : Line) (e : RoutineEntry) : Line := { x with routine := x.routine ++ [e] }

/-- Where nothing waited, the routine command is chosen, and the places are as they were before it (R15 step 3). -/
theorem State.NothingToSend.select_queueing (h : s.NothingToSend l) {slots : List Slot} {slot : Fin 16}
    (hslot : carSlot slot ∈ slots) :
    (s.setLine l ((s.line l).queueing ⟨slot, cmd⟩)).select l slots =
      ⟨some (.toCar slot cmd), none, (s.line l).answers, (s.line l).routine⟩ := by
  have hcase : (s.setLine l ((s.line l).queueing ⟨slot, cmd⟩)).caseCommand l slots = none :=
    State.caseCommand_none fun c hc => hc.2.2.1 (h.cases c hc.1 hc.2.1)
  have hkept : polledAnswers slots (s.line l).answers = (s.line l).answers := by
    ext1 k hk
    have hnone : (s.line l).answers[k] = none := h.answers ⟨k, hk⟩
    simpa [hnone] using polledAnswers_get slots (s.line l).answers ⟨k, hk⟩
  have hqueue : sendable slots ((s.line l).queueing ⟨slot, cmd⟩).routine = [⟨slot, cmd⟩] := by
    rw [Line.queueing, h.routine]
    exact sendable_eq (before := []) (List.forall_mem_nil _) hslot
  have hnone : earliestAnswer s.stamp (polledAnswers slots (s.line l).answers) = none :=
    earliestAnswer_none fun k => by rw [hkept]; exact h.answers k
  rw [State.select_routine hcase (by rw [State.line_setLine]; exact hnone), State.line_setLine, hqueue, h.routine]
  exact congrArg (Selection.mk _ none · []) hkept

/-- A routine command is sent at once by a line in QUIET_IDLE where nothing else waits, and waits elsewhere (R13, R17). -/
theorem Runs.sendRoutine (hbusy : v.Busy) (hen : (v.lift i).config.enabled = true)
    (hidle : (v.line (lineOf i)).state = .quietIdle → v.NothingToSend (lineOf i)) :
    Runs 2 (v.setLine (lineOf i) ((v.line (lineOf i)).queueing ⟨carSlotOf i, cmd⟩)) [.lineWork (lineOf i)]
      (v.setLine (lineOf i) (if (v.line (lineOf i)).state = .quietIdle
        then v.startedWith (lineOf i) none (some (.toCar (carSlotOf i) cmd)) (v.slotSet (lineOf i))
        else (v.line (lineOf i)).queueing ⟨carSlotOf i, cmd⟩)) := by
  let l := lineOf i
  let w := v.setLine l ((v.line l).queueing ⟨carSlotOf i, cmd⟩)
  have hwline : w.line l = (v.line l).queueing ⟨carSlotOf i, cmd⟩ := State.line_setLine _ _ _
  by_cases hstate : (v.line l).state = .quietIdle
  · have hslot : carSlot (carSlotOf i) ∈ v.slotSet l := by
      rw [State.carSlot_mem_slotSet, liftAt_lineOf]
      exact hen
    have hselect := (hidle hstate).select_queueing (cmd := cmd) hslot
    have hstart : startLine w l none = (w.setLine l (w.startedLine l none), []) := by
      rw [startLine_undelivered none (congrArg Selection.delivered hselect), if_neg]
      rw [List.isEmpty_iff]
      exact List.ne_nil_of_mem hslot
    have hstarted : w.startedLine l none = v.startedWith l none (some (.toCar (carSlotOf i) cmd)) (v.slotSet l) := by
      rw [State.startedLine_eq, State.setLine_slotSet, hselect]
      simp only [State.startedWith, hwline]
      rfl
    have hwork : perform w (.lineWork l) = (w, [.start l none]) := by
      change lineWork w l = _
      rw [lineWork, if_pos (by rw [hwline]; exact hstate)]
    rw [if_pos hstate]
    refine Runs.step hbusy hwork (Runs.one hbusy ?_ hbusy)
    change startLine w l none = _
    rw [hstart, hstarted, State.setLine_setLine]
  · have hwork : perform w (.lineWork l) = (w, []) := by
      change lineWork w l = _
      rw [lineWork, if_neg (by rw [hwline]; exact hstate)]
    rw [if_neg hstate]
    exact (Runs.one (s := w) hbusy hwork hbusy).mono (Nat.le_succ 1)

/-! ### The command is queued (R17) -/

/-- A command whose tests pass is answered QUEUED, and waits for its line or is sent by it. -/
theorem finish_control_queued (hr : s.Ready 1) (hi : s.resolveIdentity identity = some i)
    (hcode : s.controlCode identity cmd = .queued)
    (hidle : (s.line (lineOf i)).state = .quietIdle → s.NothingToSend (lineOf i)) :
    ∃ k, finish (controlRequest s o identity cmd) = .next ((s.drawn.setLine (lineOf i)
      (if (s.line (lineOf i)).state = .quietIdle
        then s.startedWith (lineOf i) none (some (.toCar (carSlotOf i) cmd)) (s.slotSet (lineOf i))
        else (s.line (lineOf i)).queueing ⟨carSlotOf i, cmd⟩)).withAnswer o k .queued .none) := by
  have hroom := hr.room
  have hwork : controlRequest s o identity cmd = (enqueue (answerControl s o .queued) i cmd, [.lineWork (lineOf i)]) := by
    simp only [controlRequest, hcode, hi]
  rw [hwork, answerControl_room (by omega)]
  let v := s.drawn.withAnswer o s.drawFree.1 .queued .none
  have hnothing : (v.line (lineOf i)).state = .quietIdle → v.NothingToSend (lineOf i) := fun h =>
    (hidle h).of_within (.of_cases rfl) rfl
  have hsent := Runs.sendRoutine (v := v) (cmd := cmd) hr.busy (State.enabled_of_resolveIdentity hi) hnothing
  exact ⟨_, hsent.finish_eq (by omega)⟩

end

/-- Settles O42: a command is judged by the tests of R156 in their order; one that passes them all waits for its line, which a line in
QUIET_IDLE with nothing else to send ends at once. -/
theorem controlCommandsAreQueuedOrRefused : Obligations.ControlCommandsAreQueuedOrRefused := by
  refine ⟨fun s o identity i hr hi hon hidle hroom => ?_, fun s o identity hr => ⟨fun m hm => ?_, fun hnone => ?_, fun i hi =>
    ⟨fun hoff => ?_, fun hon hcase => ?_, fun hon hfull => ?_⟩⟩⟩
  · have hqueued : ∀ cmd : CarCommand, cmd.inRange = true → (cmd.lockedByCase = false ∨ (s.lift i).dyn.openCase = none) → _ :=
      fun cmd hrange hfree => finish_control_queued (o := o) hr hi (State.controlCode_queued hrange hi hon hfree hroom) hidle
    exact ⟨hqueued .inhibit rfl (.inl rfl), fun m hm => hqueued (.announce m) (decide_eq_true hm) (.inl rfl),
      fun hnone => ⟨hqueued .restore rfl (.inr hnone), fun g => hqueued (.service g) rfl (.inr hnone)⟩⟩
  · exact finish_control_refused hr (State.controlCode_badValue (decide_eq_false (Nat.not_le.mpr hm))) nofun
  · have hrefused : ∀ cmd : CarCommand, cmd.inRange = true → _ := fun cmd hrange =>
      finish_control_refused (o := o) hr (State.controlCode_unresolved hrange hnone) nofun
    exact ⟨hrefused .inhibit rfl, hrefused .restore rfl, fun m hm => hrefused (.announce m) (decide_eq_true hm),
      fun g => hrefused (.service g) rfl⟩
  · have hrefused : ∀ cmd : CarCommand, cmd.inRange = true → _ := fun cmd hrange =>
      finish_control_refused (o := o) hr (State.controlCode_off hrange hi hoff) nofun
    exact ⟨hrefused .inhibit rfl, hrefused .restore rfl, fun m hm => hrefused (.announce m) (decide_eq_true hm),
      fun g => hrefused (.service g) rfl⟩
  · have hrefused : ∀ cmd : CarCommand, cmd.inRange = true → cmd.lockedByCase = true → _ := fun cmd hrange hkind =>
      finish_control_refused (o := o) hr (State.controlCode_locked hrange hi hon hkind hcase) nofun
    exact ⟨hrefused .restore rfl rfl, fun g => hrefused (.service g) rfl rfl⟩
  · have hrefused : ∀ cmd : CarCommand, cmd.inRange = true → (cmd.lockedByCase = false ∨ (s.lift i).dyn.openCase = none) → _ :=
      fun cmd hrange hfree => finish_control_refused (o := o) hr (State.controlCode_full hrange hi hon hfree hfull) nofun
    exact ⟨hrefused .inhibit rfl (.inl rfl), fun m hm => hrefused (.announce m) (decide_eq_true hm) (.inl rfl),
      fun hnone => ⟨hrefused .restore rfl (.inr hnone), fun g => hrefused (.service g) rfl (.inr hnone)⟩⟩

end Sys2Proof.Machine
end


section
/-! SUPPORT. The properties that the steps keep, after a power-on reset. -/

namespace Sys2Proof.Machine

section

variable (straps : BitVec 12) (nearUp farUp : Bool) (draws : Nat) (q : List Instr)

theorem State.powerOn_line (l : LineId) : (State.powerOn straps nearUp farUp draws q).line l = .reset :=
  Vector.getElem_replicate l.isLt

theorem State.powerOn_queuesBounded : (State.powerOn straps nearUp farUp draws q).QueuesBounded where
  own := Nat.zero_le _
  relay := Nat.zero_le _
  forward := Nat.zero_le _
  routine l := by rw [State.powerOn_line]; exact Nat.zero_le _

theorem State.powerOn_divisorsSound : (State.powerOn straps nearUp farUp draws q).DivisorsSound where
  d1 := show 2 ≤ 2048 by decide
  d2 := show 2 ≤ 100 by decide
  running1 := show 2 ≤ 2048 by decide
  running2 := show 2 ≤ 100 by decide
  first := show 0 < 2048 by decide
  second := show 0 < 100 by decide

theorem State.powerOn_countersBounded : (State.powerOn straps nearUp farUp draws q).CountersBounded where
  nearCheck := Nat.zero_le _
  nearKind := Nat.zero_le _
  farCheck := Nat.zero_le _
  forwardDrops := Nat.zero_le _
  relayDrops := Nat.zero_le _
  summaryDrops := Nat.zero_le _
  answersLost := Nat.zero_le _
  noticesLost := Nat.zero_le _
  errors l := by rw [State.powerOn_line]; exact Nat.zero_le _

end

theorem State.reset_isOpen (c : CaseNo) : State.reset.isOpen c = false := by
  rw [State.isOpen, State.reset_caseAt]; rfl

/-- No crew holds a case or has an offer, and no record is OPEN. -/
theorem State.reset_dispatchSound : State.reset.DispatchSound where
  offered k o h := by rw [State.reset_crew] at h; exact nomatch h
  named c h := by rw [State.reset_isOpen] at h; exact nomatch h
  held k c h := by rw [State.reset_crew] at h; exact nomatch h
  kept c h := by rw [State.reset_isOpen] at h; exact nomatch h
  once k := by rw [State.reset_crew]; exact List.nodup_nil
  room k := by rw [State.reset_crew]; exact Nat.zero_le _

/-- Settles O3: every table stands at its one reset record, which has the property that the steps keep of it. -/
theorem keptPropertiesHoldAfterReset : Obligations.KeptPropertiesHoldAfterReset := by
  refine ⟨State.powerOn_queuesBounded _ _ _ _ _, ?_, fun i j h => ?_, fun j k h => ?_, .refl _, State.reset_dispatchSound,
    fun c => ?_, fun c _ => ?_, fun c h => ?_, fun i => ?_, State.powerOn_divisorsSound _ _ _ _ _,
    State.powerOn_countersBounded _ _ _ _ _⟩
  case refine_1 => exact (List.any_eq_false.mpr fun c _ => by rw [State.reset_isOpen]; exact Bool.false_ne_true).symm
  case refine_2 => rw [State.reset_lift] at h; exact nomatch h
  case refine_3 => rw [State.reset_crew] at h; exact nomatch h
  case refine_4 => rw [State.reset_caseAt]; exact Case.free_inRange
  case refine_5 => rw [State.reset_caseAt]; exact ⟨rfl, rfl⟩
  case refine_6 => rw [State.reset_caseAt] at h; exact nomatch h
  case refine_7 => rw [State.reset_lift]; exact Lift.truthSound_entered (iff_of_true rfl rfl)

end Sys2Proof.Machine
end

section
/-! SUPPORT. Which bodies of taken frames decode (R161, R173). -/

namespace Sys2Proof.Machine

/-! ### MGMT bodies (R161, R173) -/

theorem takeHeights_length {n : Nat} {bytes : List Byte} {e : List Nat × List Byte} (h : takeHeights n bytes = some e) :
    bytes.length = 3 * n + e.2.length := by
  induction n generalizing bytes e with
  | zero =>
    obtain rfl := Option.some.inj h
    simp
  | succ n ih =>
    match bytes, h with
    | a :: b :: c :: rest, h =>
      obtain ⟨e', he', rfl⟩ := Option.map_eq_some_iff.mp h
      have hrest := ih he'
      simp only [List.length_cons]
      omega

theorem takeHeights_ne_none {n : Nat} {bytes : List Byte} (h : 3 * n ≤ bytes.length) : takeHeights n bytes ≠ none := by
  induction n generalizing bytes with
  | zero => exact nofun
  | succ n ih =>
    match bytes, h with
    | a :: b :: c :: rest, h =>
      simp only [List.length_cons] at h
      exact mt Option.map_eq_none_iff.mp (ih (by omega))

/-- The fields of a lift record after its heights take 19 bytes. -/
theorem decodeLiftTail_ne_none (enabled identity : Nat) (heights : List Nat) (bytes : List Byte) :
    decodeLiftTail enabled identity heights bytes ≠ none ↔ bytes.length = 19 := by
  unfold decodeLiftTail
  split
  · simp
  · next hother =>
    refine ⟨fun h => absurd rfl h, fun h => ?_⟩
    iterate 19
      replace h := List.length_eq_succ_iff.mp h
      obtain ⟨_, bytes, rfl, h⟩ := h
    obtain rfl := List.length_eq_zero_iff.mp h
    exact absurd rfl (hother _ _ _ _ _ _ _ _ _ _ _ _ _ _ _ _ _ _ _)

/-- A lift record decodes where its landing count agrees with its length (R173). -/
theorem decodeLift_ne_none (record : List Byte) :
    decodeLift record ≠ none ↔ ∃ n, record[3]? = some n ∧ record.length = 23 + 3 * n.toNat := by
  unfold decodeLift
  split
  · next enabled a b n rest =>
    have hdecodes : (takeHeights n.toNat rest).bind (fun e => decodeLiftTail enabled.toNat (num2 a b) e.1 e.2) ≠ none ↔
        rest.length = 19 + 3 * n.toNat := by
      cases hheights : takeHeights n.toNat rest with
      | none =>
        have hshort : ¬ 3 * n.toNat ≤ rest.length := fun h => takeHeights_ne_none h hheights
        simp only [Option.bind_none, ne_eq, not_true_eq_false, false_iff]
        omega
      | some e =>
        have hlength := takeHeights_length hheights
        rw [Option.bind_some, decodeLiftTail_ne_none]
        omega
    simp only [List.getElem?_cons_succ, List.getElem?_cons_zero, Option.some.injEq, exists_eq_left', List.length_cons]
    rw [hdecodes]
    omega
  · next hother =>
    refine ⟨fun h => absurd rfl h, ?_⟩
    rintro ⟨n, hn, hlength⟩
    match record, hn with
    | a :: b :: c :: d :: rest, _ => exact absurd rfl (hother a b c d rest)

theorem decodeSettings_ne_none (record : List Byte) : decodeSettings record ≠ none ↔ record.length = 29 := by
  unfold decodeSettings
  split
  · simp
  · next hother =>
    refine ⟨fun h => absurd rfl h, fun h => ?_⟩
    iterate 29
      replace h := List.length_eq_succ_iff.mp h
      obtain ⟨_, record, rfl, h⟩ := h
    obtain rfl := List.length_eq_zero_iff.mp h
    exact absurd rfl (hother _ _ _ _ _ _ _ _ _ _ _ _ _ _ _ _ _ _ _ _ _ _ _ _ _ _ _ _ _)

/-- A WRITE decodes for the seven tables, each with a record of its own length (R161, R173). -/
theorem decodeWrite_ne_none (table index : Nat) (record : List Byte) : decodeWrite table index record ≠ none ↔
    (table = 0 ∧ ∃ n, record[3]? = some n ∧ record.length = 23 + 3 * n.toNat) ∨
      (table = 1 ∧ record.length = 9) ∨ (table = 2 ∧ record.length = 4) ∨ (table = 3 ∧ record.length = 8) ∨
      (table = 4 ∧ record.length = 4) ∨ (table = 5 ∧ record.length = 5) ∨ (table = 6 ∧ record.length = 29) := by
  constructor
  · intro h
    unfold decodeWrite at h
    split at h
    · exact .inl ⟨rfl, (decodeLift_ne_none record).mp (mt Option.map_eq_none_iff.mpr h)⟩
    iterate 5 simp
    · simpa using (decodeSettings_ne_none record).mp (mt Option.map_eq_none_iff.mpr h)
    · exact absurd rfl h
  · rintro (⟨rfl, h⟩ | ⟨rfl, h⟩ | ⟨rfl, h⟩ | ⟨rfl, h⟩ | ⟨rfl, h⟩ | ⟨rfl, h⟩ | ⟨rfl, h⟩)
    · exact mt Option.map_eq_none_iff.mp ((decodeLift_ne_none record).mpr h)
    · match record, h with
      | [_, _, _, _, _, _, _, _, _], _ => exact nofun
    · match record, h with
      | [_, _, _, _], _ => exact nofun
    · match record, h with
      | [_, _, _, _, _, _, _, _], _ => exact nofun
    · match record, h with
      | [_, _, _, _], _ => exact nofun
    · match record, h with
      | [_, _, _, _, _], _ => exact nofun
    · exact mt Option.map_eq_none_iff.mp ((decodeSettings_ne_none record).mpr h)

/-- The kinds of section 11.4, by the length of their bodies: two bytes, one, none, and the WRITE; and those outside them. -/
theorem mgmtKind_cases (kind : Byte) : kind ∈ [1#8, 3#8, 9#8, 10#8] ∨ kind ∈ [4#8, 5#8, 6#8, 7#8, 8#8, 11#8, 13#8] ∨
    kind = 12#8 ∨ kind = 2#8 ∨ kind = 0#8 ∨ 14 ≤ kind.toNat := by
  simp only [List.mem_cons, List.not_mem_nil, or_false, ← BitVec.toNat_inj, BitVec.toNat_ofNat]
  omega

section

variable {kind : Byte} {rest : List Byte}

theorem decodeMgmt_unlisted (h : 14 ≤ kind.toNat) : decodeMgmt (kind :: rest) = none := by
  unfold decodeMgmt
  dsimp only
  obtain ⟨n, hn⟩ := Nat.exists_eq_add_of_le' h
  rw [hn]
  rfl

theorem decodeMgmt_twoBytes (hkind : kind ∈ [1#8, 3#8, 9#8, 10#8]) :
    decodeMgmt (kind :: rest) ≠ none ↔ rest.length = 2 := by
  match rest with
  | [] | [_] | _ :: _ :: _ :: _ => fin_cases hkind <;> exact iff_of_false (absurd rfl) (by simp)
  | [_, _] => fin_cases hkind <;> exact iff_of_true nofun rfl

theorem decodeMgmt_oneByte (hkind : kind ∈ [4#8, 5#8, 6#8, 7#8, 8#8, 11#8, 13#8]) :
    decodeMgmt (kind :: rest) ≠ none ↔ rest.length = 1 := by
  match rest with
  | [] | _ :: _ :: _ => fin_cases hkind <;> exact iff_of_false (absurd rfl) (by simp)
  | [_] => fin_cases hkind <;> exact iff_of_true nofun rfl

theorem decodeMgmt_noByte : decodeMgmt (12#8 :: rest) ≠ none ↔ rest = [] := by
  match rest with
  | [] => exact iff_of_true nofun rfl
  | _ :: _ => exact iff_of_false (absurd rfl) nofun

theorem decodeMgmt_write : decodeMgmt (2#8 :: rest) ≠ none ↔
    ∃ table index record, rest = table :: index :: record ∧ decodeWrite table.toNat index.toNat record ≠ none := by
  match rest with
  | [] | [_] => exact iff_of_false (absurd rfl) nofun
  | table :: index :: record =>
    refine ⟨fun h => ⟨table, index, record, rfl, h⟩, ?_⟩
    rintro ⟨_, _, _, ⟨⟩, h⟩
    exact h

end

/-- A MGMT body decodes where its kind is one of the thirteen and its length is its kind's (R161, R173). -/
theorem decodeMgmt_ne_none (kind : Byte) (rest : List Byte) : decodeMgmt (kind :: rest) ≠ none ↔
    (kind ∈ [1#8, 3#8, 9#8, 10#8] ∧ rest.length = 2) ∨
    (kind ∈ [4#8, 5#8, 6#8, 7#8, 8#8, 11#8, 13#8] ∧ rest.length = 1) ∨
    (kind = 12#8 ∧ rest = []) ∨
    (kind = 2#8 ∧ ∃ table index record, rest = table :: index :: record ∧
      decodeWrite table.toNat index.toNat record ≠ none) := by
  rcases mgmtKind_cases kind with hkind | hkind | rfl | rfl | rfl | hkind
  · rw [decodeMgmt_twoBytes hkind]
    fin_cases hkind <;> simp
  · rw [decodeMgmt_oneByte hkind]
    fin_cases hkind <;> simp
  · rw [decodeMgmt_noByte]
    simp
  · rw [decodeMgmt_write]
    simp
  · exact iff_of_false (absurd rfl) (by simp)
  · have hother : ∀ n < 14, kind ≠ BitVec.ofNat 8 n := by
      rintro n hn rfl
      rw [BitVec.toNat_ofNat, Nat.mod_eq_of_lt (by omega)] at hkind
      omega
    rw [decodeMgmt_unlisted hkind]
    simp [hother]

/-! ### CONTROL and CREW bodies (R156, R173) -/

/-- A CONTROL body that is not one of the four commands (R156). -/
theorem decodeControl_eq_none {body : List Byte}
    (h : body.length ≠ 4 ∨ ∃ c, body[2]? = some c ∧ c ∉ [1#8, 2#8, 3#8, 5#8]) : decodeControl body = none := by
  unfold decodeControl
  split
  · next a b c g =>
    obtain hlength | ⟨_, ⟨⟩, hc⟩ := h
    · exact absurd rfl hlength
    simp only [List.mem_cons, List.not_mem_nil, or_false, not_or, ← BitVec.toNat_inj] at hc
    obtain ⟨hinhibit, hrestore, hannounce, hservice⟩ := hc
    rw [Option.map_eq_none_iff]
    unfold decodeControlCommand
    split
    · exact absurd ‹_› hinhibit
    · exact absurd ‹_› hrestore
    · exact absurd ‹_› hannounce
    · exact absurd ‹_› hservice
    · rfl
  · rfl

theorem decodeCrewRequest_eq_none {c : Nat} (h : c = 0 ∨ 10 < c) : decodeCrewRequest c = none := by
  unfold decodeCrewRequest
  split
  iterate 10 exact absurd h (by omega)
  rfl

/-- A CREW body that is not one of the ten requests (R89). -/
theorem decodeCrewBody_eq_none {rest : List Byte}
    (h : rest.length ≠ 4 ∨ ∃ c, rest[0]? = some c ∧ (c = 0#8 ∨ 10#8 < c)) : (decodeCrewBody rest).1 = none := by
  unfold decodeCrewBody
  split
  · next c f a b =>
    obtain hlength | ⟨_, ⟨⟩, hc⟩ := h
    · exact absurd rfl hlength
    · exact decodeCrewRequest_eq_none (hc.imp (congrArg BitVec.toNat) BitVec.lt_def.mp)
  · rfl

end Sys2Proof.Machine
end

section
/-! SUPPORT. Frames taken on NEAR (R148): each is handled as the command its body spells (R156, R160, R89), and answered where it
spells none. -/

namespace Sys2Proof.Machine

section

variable {s u : State} {bytes : List Byte} {f : TrunkFrame} {o : Origin}

/-! ### Where a taken frame finds the gateway (R148, R149) -/

/-- The gateway when a frame is acted on: a broadcast one has been offered to the forward queue before (R149, log 39). -/
def State.taking (s : State) (bytes : List Byte) (f : TrunkFrame) : State :=
  if f.destination = s.straps.setWidth 16 then s else offerForward s bytes

theorem State.taking_cases (s : State) (bytes : List Byte) (f : TrunkFrame) :
    s.taking bytes f = s ∨ s.taking bytes f = offerForward s bytes := by
  unfold State.taking
  split
  · exact .inl rfl
  · exact .inr rfl

theorem offerForward_crews (s : State) (bytes : List Byte) : (offerForward s bytes).crews = s.crews := by
  rw [offerForward_eq]

theorem State.crews_taking (s : State) (bytes : List Byte) (f : TrunkFrame) : (s.taking bytes f).crews = s.crews := by
  rcases s.taking_cases bytes f with h | h
  · rw [h]
  · rw [h, offerForward_crews]

theorem State.crew_taking (s : State) (bytes : List Byte) (f : TrunkFrame) (k : CrewNo) :
    (s.taking bytes f).crew k = s.crew k := by
  unfold State.crew
  rw [State.crews_taking]

theorem State.resolveTag_taking (s : State) (bytes : List Byte) (f : TrunkFrame) (tag : Nat) :
    (s.taking bytes f).resolveTag tag = s.resolveTag tag := by
  unfold State.resolveTag
  simp only [State.crew_taking]

theorem State.Ready.offerForward {n : Nat} (h : s.Ready n) : (offerForward s bytes).Ready n := by
  refine ⟨h.busy.offerForward, ?_⟩
  have hroom := h.room
  rw [offerForward_eq]
  dsimp only
  split <;> exact hroom

theorem State.Ready.taking {n : Nat} (h : s.Ready n) : (s.taking bytes f).Ready n := by
  rcases s.taking_cases bytes f with heq | heq
  · rwa [heq]
  · rw [heq]
    exact h.offerForward

/-- A good frame for this address, or for the broadcast one, is taken (R148). -/
theorem exec_nearFrame_taken (hup : s.trunk.nearUp = true) (h : readTrunk bytes = some f)
    (hmine : f.destination = s.straps.setWidth 16 ∨ f.destination = 0xFFFF#16) :
    exec (.nearFrameReceived bytes) s = finish (takeFrame (s.taking bytes f) f) := by
  change finish (nearFrame s bytes) = _
  by_cases hsector : f.destination = s.straps.setWidth 16
  · rw [nearFrame_own hup h hsector, State.taking, if_pos hsector]
  · rw [nearFrame_broadcast hup h (hmine.resolve_left hsector), State.taking, if_neg hsector]

/-! ### By kind (R148) -/

theorem takeFrame_mgmt (u : State) (h : f.kind = 1#8) : takeFrame u f = mgmtFrame u ⟨f.source, f.tag⟩ f.body := by
  unfold takeFrame
  rw [h]
  rfl

theorem takeFrame_control (u : State) (h : f.kind = 2#8) : takeFrame u f = controlFrame u ⟨f.source, f.tag⟩ f.body := by
  unfold takeFrame
  rw [h]
  rfl

theorem takeFrame_crew (u : State) (h : f.kind = 3#8) : takeFrame u f = crewFrame u ⟨f.source, f.tag⟩ f.body := by
  unfold takeFrame
  rw [h]
  rfl

/-- A MGMT body that decodes is handled as its request's own command (R160). -/
theorem finish_mgmtFrame {body : List Byte} {r : MgmtRequest} (h : decodeMgmt body = some r) :
    finish (mgmtFrame u o body) = exec (r.command o) u := by
  rw [exec_command]
  unfold mgmtFrame
  rw [h]

/-! ### Bodies that spell no command -/

/-- A MGMT body that does not decode is answered under its kind byte (R161, R173). -/
theorem finish_mgmtFrame_undecoded (hr : u.Ready 1) {kind : Byte} {rest : List Byte} (h : decodeMgmt (kind :: rest) = none) :
    finish (mgmtFrame u o (kind :: rest)) = .next (u.withAnswer o kind .badValue .none) := by
  rw [mgmtFrame, h]
  dsimp only
  rw [answered, State.answer_room _ _ _ _ _ hr.room]
  exact finish_busy hr.busy

theorem finish_mgmtFrame_empty (hr : u.Ready 1) :
    finish (mgmtFrame u o []) = .next (u.drawn.withAnswer o u.drawFree.1 .badValue .none) := by
  have hwork : mgmtFrame u o [] = (u.drawn.answer o u.drawFree.1 .badValue .none, []) := rfl
  have hroom : u.drawn.trunk.own.length < 32 := hr.room
  rw [hwork, State.answer_room _ _ _ _ _ hroom]
  exact finish_busy hr.busy

theorem finish_controlFrame_undecoded (hr : u.Ready 1) {body : List Byte} (h : decodeControl body = none) :
    finish (controlFrame u o body) = .next (u.drawn.withAnswer o u.drawFree.1 .badValue .none) := by
  rw [controlFrame, h]
  dsimp only
  rw [answerControl_room hr.room]
  exact finish_busy hr.busy

theorem State.Ready.answers (h : u.Ready 1) (o : Origin) : u.Answers (.trunk o) 1 := ⟨h, nofun⟩

section

variable {tag : Byte} {rest : List Byte} (hr : u.Ready 1)
include hr

/-- The tag is tested before the code (R89). -/
theorem finish_crewFrame_unresolved (hnone : u.resolveTag tag.toNat = none) : finish (crewFrame u o (tag :: rest)) =
    .next (u.withCrewAnswer (.trunk o) tag.toNat .badIndex none none) := by
  have hwork : crewFrame u o (tag :: rest) = (u.respond (.trunk o) tag.toNat .badIndex none none, routeJobs (.trunk o)) := by
    simp only [crewFrame, crewRequest, hnone]
  rw [hwork]
  exact finish_answered_only (hr.answers o)

theorem finish_crewFrame_unlisted {k : CrewNo} (hbody : (decodeCrewBody rest).1 = none) (hk : u.resolveTag tag.toNat = some k) :
    finish (crewFrame u o (tag :: rest)) = .next ((u.unmark k).withCrewAnswer (.trunk o) tag.toNat .badValue none none) := by
  have hwork : crewFrame u o (tag :: rest) =
      (repliesOn (.trunk o) tag.toNat k u .badValue none none, routeJobs (.trunk o)) := by
    simp only [crewFrame, crewRequest, hk, hbody]
    rfl
  rw [hwork, repliesOn_apply]
  exact finish_answered_only ((hr.answers o).unmark k)

end

theorem finish_crewFrame_empty (hr : u.Ready 1) : finish (crewFrame u o []) =
    .next (u.drawn.withCrewAnswer (.trunk o) u.drawFree.1.toNat .badValue none none) := by
  have hwork : crewFrame u o [] = (u.drawn.offerAnswer o (.crewAnswer .badValue u.drawFree.1 none none), []) := rfl
  have hroom : u.drawn.trunk.own.length < 32 := hr.room
  rw [hwork, State.offerAnswer_room _ _ _ hroom, State.withCrewAnswer, BitVec.ofNat_toNat, BitVec.setWidth_eq]
  exact finish_busy hr.busy

end

/-- Settles O22: a taken frame is dealt with by the very functions that its commands are, on a gateway that has passed a broadcast
frame on before; the bodies that decode are told by their kinds and lengths. -/
theorem framesAndCommandsAgree : Obligations.FramesAndCommandsAgree := by
  refine ⟨fun s bytes f hup hread hmine => ?_, rfl, fun kind rest => ?_⟩
  · intro o u
    have hu : u = s.taking bytes f := by
      rw [State.taking, offerForward_eq]
    have htaken : exec (.nearFrameReceived bytes) s = finish (takeFrame u f) := by
      rw [hu]
      exact exec_nearFrame_taken hup hread hmine
    refine ⟨fun hkind => ?_, fun hkind a b g => ?_, fun hkind tag m a b => ?_, fun hready => ?_⟩
    · have hcommand : ∀ r, decodeMgmt f.body = some r → exec (.nearFrameReceived bytes) s = exec (r.command o) u := by
        intro r hr
        rw [htaken, takeFrame_mgmt u hkind]
        exact finish_mgmtFrame hr
      exact ⟨fun _ _ => hcommand _, fun _ _ => hcommand _, fun _ _ => hcommand _, fun _ _ => hcommand _,
        fun _ _ => hcommand _, fun _ _ _ => hcommand _, fun _ _ => hcommand _, fun _ _ => hcommand _,
        fun _ _ => hcommand _, fun _ => hcommand _, fun _ => hcommand _, fun _ => hcommand _, fun _ => hcommand _,
        fun _ => hcommand _, fun _ => hcommand _, fun _ => hcommand _, fun _ => hcommand _, hcommand _,
        fun _ => hcommand _⟩
    · rw [htaken, takeFrame_control u hkind]
      refine ⟨?_, ?_, ?_, ?_⟩ <;> intro hbody <;> rw [hbody] <;> rfl
    · intro n
      rw [htaken, takeFrame_crew u hkind]
      refine ⟨?_, ?_, ?_, ?_, ?_, ?_, ?_, ?_, ?_, ?_⟩ <;> intro hbody <;> rw [hbody] <;> rfl
    · intro drawn answers
      have hr : u.Ready 1 := by
        rw [hu]
        exact hready.taking
      refine ⟨fun hkind => ⟨fun kind rest hbody hnone => ?_, fun hbody => ?_⟩, fun hkind hbody => ?_, fun hkind =>
        ⟨fun tag rest hbody hother => ⟨fun hnone => ?_, fun k hk => ?_⟩, fun hbody => ?_⟩⟩
      · rw [hbody] at hnone
        change exec _ s = _
        rw [htaken, takeFrame_mgmt u hkind, hbody]
        exact finish_mgmtFrame_undecoded hr hnone
      · refine ⟨u.drawFree.1, ?_⟩
        change exec _ s = _
        rw [htaken, takeFrame_mgmt u hkind, hbody]
        exact finish_mgmtFrame_empty hr
      · refine ⟨u.drawFree.1, ?_⟩
        change exec _ s = _
        rw [htaken, takeFrame_control u hkind]
        exact finish_controlFrame_undecoded hr (decodeControl_eq_none hbody)
      · have hnone' : u.resolveTag tag.toNat = none := by rwa [hu, State.resolveTag_taking]
        change exec _ s = _
        rw [htaken, takeFrame_crew u hkind, hbody]
        exact finish_crewFrame_unresolved hr hnone'
      · have hk' : u.resolveTag tag.toNat = some k := by rwa [hu, State.resolveTag_taking]
        have hcrew : s.crew k = u.crew k := by rw [hu, State.crew_taking]
        change exec _ s = _
        rw [htaken, takeFrame_crew u hkind, hbody, hcrew]
        exact finish_crewFrame_unlisted hr (decodeCrewBody_eq_none hother) hk'
      · refine ⟨u.drawFree.1, ?_⟩
        change exec _ s = _
        rw [htaken, takeFrame_crew u hkind, hbody]
        exact finish_crewFrame_empty hr
  · rw [decodeMgmt_ne_none]
    simp only [decodeWrite_ne_none, toNat_eq_iff, Nat.reduceLT]

end Sys2Proof.Machine
end

section
/-! SUPPORT. The footing of a state: the time base, the settings, the lines and the port, which most jobs of a handling leave as
they are but for the frames that they offer to the own queue (R151 to R153). -/

namespace Sys2Proof.Machine

/-! ### Frames offered to the own queue (R151, R152) -/

/-- Every counter of the port is within its limit (R157). -/
structure TrunkCounters.Bounded (k : TrunkCounters) : Prop where
  nearCheck : k.nearCheck ≤ 65535
  nearKind : k.nearKind ≤ 65535
  farCheck : k.farCheck ≤ 65535
  forwardDrops : k.forwardDrops ≤ 65535
  relayDrops : k.relayDrops ≤ 65535
  summaryDrops : k.summaryDrops ≤ 65535
  answersLost : k.answersLost ≤ 65535
  noticesLost : k.noticesLost ≤ 65535

/-- How many frames of the own queue are not summaries: those that no later frame displaces (R152). -/
def Trunk.notices (t : Trunk) : Nat := t.own.countP fun f => !f.isSummary

/-- Port `b` is port `a` after offerings to its own queue: the queue keeps its bound and every frame that is not a summary, and the
counters their limits. -/
structure Trunk.Takes (a b : Trunk) : Prop where
  rest : b = { a with own := b.own, sequence := b.sequence, counters := b.counters }
  own : a.own.length ≤ 32 → b.own.length ≤ 32
  notices : a.notices ≤ b.notices
  counters : a.counters.Bounded → b.counters.Bounded

namespace Trunk.Takes

variable {a b c : Trunk}

theorem refl (a : Trunk) : a.Takes a := ⟨rfl, id, le_rfl, id⟩

theorem trans (hab : a.Takes b) (hbc : b.Takes c) : a.Takes c := by
  refine ⟨?_, hbc.own ∘ hab.own, hab.notices.trans hbc.notices, hbc.counters ∘ hab.counters⟩
  rw [hbc.rest, hab.rest]

/-- The sequence moves on with a frame offered (R151). -/
theorem bump (h : a.Takes b) : a.Takes { b with sequence := b.sequence + 1 } := by
  refine h.trans ⟨rfl, id, le_rfl, id⟩

end Trunk.Takes

/-- The summary that makes room is not one of the frames that stay. -/
theorem countP_dropOldestSummary {own rest : List OwnFrame} (h : dropOldestSummary own = some rest) :
    rest.countP (fun f => !f.isSummary) = own.countP fun f => !f.isSummary := by
  induction own generalizing rest with
  | nil => exact nomatch h
  | cons f own ih =>
    unfold dropOldestSummary at h
    split at h
    · next hf =>
      obtain rfl := Option.some.inj h
      simp [hf]
    · obtain ⟨others, hothers, rfl⟩ := Option.map_eq_some_iff.mp h
      rw [List.countP_cons, List.countP_cons, ih hothers]

theorem Trunk.takes_join {t u : Trunk} {f : OwnFrame} (h : t.join f = some u) : t.Takes u := by
  rcases Trunk.join_cases h with ⟨hroom, rfl⟩ | ⟨hfull, rest, hrest, rfl⟩
  · refine ⟨rfl, fun _ => ?_, ?_, id⟩
    · simpa using hroom
    · simp [Trunk.notices]
  · refine ⟨rfl, fun hown => ?_, ?_, fun hk => { hk with summaryDrops := satInc_le _ _ }⟩
    · have hlength := dropOldestSummary_length _ _ hrest
      simp only [List.length_append, List.length_singleton]
      omega
    · simp [Trunk.notices, countP_dropOldestSummary hrest]

/-- A frame that is not a summary stays (R152). -/
theorem Trunk.notices_join {t u : Trunk} {f : OwnFrame} (h : t.join f = some u) (hf : f.isSummary = false) :
    u.notices = t.notices + 1 := by
  rcases Trunk.join_cases h with ⟨_, rfl⟩ | ⟨_, rest, hrest, rfl⟩
  · simp [Trunk.notices, hf]
  · simp [Trunk.notices, hf, countP_dropOldestSummary hrest]

theorem State.offerAnswer_takes (s : State) (o : Origin) (b : OwnBody) : s.trunk.Takes (s.offerAnswer o b).trunk := by
  unfold State.offerAnswer
  split
  · next h => exact Trunk.takes_join h
  · exact ⟨rfl, id, le_rfl, fun hk => { hk with answersLost := satInc_le _ _ }⟩

theorem State.offerLoose_takes (s : State) (b : OwnBody) : s.trunk.Takes (s.offerLoose b).trunk := by
  unfold State.offerLoose
  split
  · next h => exact (Trunk.takes_join h).bump
  · exact ⟨rfl, id, le_rfl, fun hk => { hk with noticesLost := satInc_le _ _ }⟩

theorem State.offerSummary_takes (s : State) (m : Summary) : s.trunk.Takes (s.offerSummary m).trunk := by
  unfold State.offerSummary
  split
  · next hroom => exact (Trunk.takes_join (Trunk.join_room _ _ hroom)).bump
  · exact ⟨rfl, id, le_rfl, fun hk => { hk with summaryDrops := satInc_le _ _ }⟩

theorem State.offerCase_takes (s : State) (c : CaseNo) (n : Notice) : s.trunk.Takes (s.offerCase c n).1.trunk := by
  unfold State.offerCase
  split
  · exact (Trunk.Takes.refl _).bump
  · split
    · next h => exact (Trunk.takes_join h).bump
    · exact (Trunk.Takes.refl _).bump

/-! ### The footing of a state -/

/-- What the bounds and the work of a line speak of: its state, its routine queue and its error counter (R2, R17, R157). -/
structure LineFooting where
  state : LineState
  routine : List RoutineEntry
  errors : Nat

def Line.footing (r : Line) : LineFooting := ⟨r.state, r.routine, r.errors⟩

/-- The time base, the settings, the footing of each line, and the port. -/
structure Footing where
  time : TimeBase
  settings : Settings
  lines : LineId → LineFooting
  trunk : Trunk

def State.footing (s : State) : Footing := ⟨s.time, s.settings, fun l => (s.line l).footing, s.trunk⟩

/-- Footing `b` is `a` after offerings to the own queue. -/
structure Footing.Offers (a b : Footing) : Prop where
  rest : b = { a with trunk := b.trunk }
  trunk : a.trunk.Takes b.trunk

namespace Footing.Offers

variable {a b c : Footing}

theorem refl (a : Footing) : a.Offers a := ⟨rfl, .refl _⟩
theorem of_eq (h : b = a) : a.Offers b := h ▸ refl a

theorem trans (hab : a.Offers b) (hbc : b.Offers c) : a.Offers c := by
  refine ⟨?_, hab.trunk.trans hbc.trunk⟩
  rw [hbc.rest, hab.rest]

end Footing.Offers

section

variable (s : State)

theorem State.setLine_footing {l : LineId} {r : Line} (h : r.footing = (s.line l).footing) :
    (s.setLine l r).footing = s.footing := by
  have hlines : ∀ k, ((s.setLine l r).line k).footing = (s.line k).footing := fun k => by
    rw [State.line_setLine_if]
    split
    · next hk => rw [h, hk]
    · rfl
  simp only [State.footing, hlines]
  rfl

theorem State.offerAnswer_offers (o : Origin) (b : OwnBody) : s.footing.Offers (s.offerAnswer o b).footing := by
  refine ⟨?_, s.offerAnswer_takes o b⟩
  obtain ⟨t, ht⟩ := s.offerAnswer_trunk o b
  rw [ht]; rfl

theorem State.answer_offers (o : Origin) (kind : Byte) (code : AnswerCode) (data : AnswerData) :
    s.footing.Offers (s.answer o kind code data).footing := s.offerAnswer_offers o _

theorem State.offerLoose_offers (b : OwnBody) : s.footing.Offers (s.offerLoose b).footing := by
  refine ⟨?_, s.offerLoose_takes b⟩
  obtain ⟨t, ht⟩ := s.offerLoose_trunk b
  rw [ht]; rfl

theorem State.offerSummary_offers (m : Summary) : s.footing.Offers (s.offerSummary m).footing := by
  refine ⟨?_, s.offerSummary_takes m⟩
  obtain ⟨t, ht⟩ := s.offerSummary_trunk m
  rw [ht]; rfl

theorem State.offerCase_offers (c : CaseNo) (n : Notice) : s.footing.Offers (s.offerCase c n).1.footing := by
  refine ⟨?_, s.offerCase_takes c n⟩
  unfold State.offerCase
  split
  · rfl
  · split <;> rfl

theorem State.notify_offers (c : CaseNo) (kind : NoticeKind) (arg : NoticeArg) :
    s.footing.Offers (s.notify c kind arg).footing := s.offerCase_offers c _

theorem State.call_offers (c : CaseNo) : s.footing.Offers (s.call c).footing := s.offerLoose_offers _

theorem State.fullIf_offers (before : Bool) (i : LiftIdx) : s.footing.Offers (s.fullIf before i).footing := by
  unfold State.fullIf
  split
  · exact s.offerLoose_offers _
  · exact .refl _

theorem State.respond_offers (route : Route) (tag : Nat) (code : AnswerCode) (named : Option (BitVec 16))
    (info : Option OfferInfo) : s.footing.Offers (s.respond route tag code named info).footing := by
  cases route with
  | trunk o => exact s.offerAnswer_offers o _
  | panel p => exact .of_eq (s.setLine_footing rfl)

theorem State.reply_offers (k : CrewNo) (route : Route) (code : AnswerCode) (named : Option (BitVec 16))
    (info : Option OfferInfo) (tag : Nat) : s.footing.Offers (s.reply k route code named info tag).footing :=
  s.respond_offers route tag code named info

end

namespace Footing.Offers

variable {a : Footing} {s : State}

/-- A state that differs elsewhere alone. -/
theorem kept {t : State} (h : t.footing = s.footing := by rfl) : s.footing.Offers t.footing := .of_eq h


section

variable {t : State} (h : s.footing.Offers t.footing)
include h

theorem line (l : LineId) : (t.line l).footing = (s.line l).footing := congrFun (congrArg Footing.lines h.rest) l

theorem nearUp : t.trunk.nearUp = s.trunk.nearUp := (congrArg Trunk.nearUp h.trunk.rest :)
theorem farUp : t.trunk.farUp = s.trunk.farUp := (congrArg Trunk.farUp h.trunk.rest :)
theorem nearTx : t.trunk.nearTx = s.trunk.nearTx := (congrArg Trunk.nearTx h.trunk.rest :)
theorem farTx : t.trunk.farTx = s.trunk.farTx := (congrArg Trunk.farTx h.trunk.rest :)
theorem relay : t.trunk.relay = s.trunk.relay := (congrArg Trunk.relay h.trunk.rest :)
theorem forward : t.trunk.forward = s.trunk.forward := (congrArg Trunk.forward h.trunk.rest :)

end

theorem notify (h : a.Offers s.footing) (c : CaseNo) (kind : NoticeKind) (arg : NoticeArg) :
    a.Offers (s.notify c kind arg).footing := h.trans (s.notify_offers c kind arg)
theorem setCase (h : a.Offers s.footing) (c : CaseNo) (r : Case) : a.Offers (s.setCase c r).footing := h
theorem call (h : a.Offers s.footing) (c : CaseNo) : a.Offers (s.call c).footing := h.trans (s.call_offers c)
theorem fullIf (h : a.Offers s.footing) (before : Bool) (i : LiftIdx) : a.Offers (s.fullIf before i).footing :=
  h.trans (s.fullIf_offers before i)

end Footing.Offers

/-! ### What the jobs of a handling cost -/

/-- A bound on the jobs that a job comes to, itself counted: those it gives rise to, and those these give rise to. A record that
opens or closes, a line that leaves QUIET_IDLE and a departure are paid for by the state (`State.credit`). -/
def Job.cost : Job → Nat
  | .start _ _ => 23
  | .stop _ => 45
  | .lineWork _ => 3
  | .advance _ _ => 46
  | .delivered _ _ _ => 21
  | .lost _ _ _ => 21
  | .takenReport _ _ => 117
  | .silentSlot _ => 6
  | .truthTold _ => 2
  | .raise _ _ => 2
  | .releaseReport _ _ _ => 21
  | .event _ _ _ => 22
  | .occupancy _ _ => 1
  | .presses _ _ _ => 1
  | .summaryReport _ _ _ => 1
  | .summaryChange _ => 1
  | .go _ begun _ _ => 20 - min 16 begun
  | .handoverTest _ => 1
  | .clearing _ => 2
  | .close _ _ => 1
  | .arbitrate => 1
  | .panelLogged _ _ => 698
  | .panelRequest _ _ _ _ => 26
  | .panelHold _ _ _ => 17
  | .panelInputs _ _ => 81
  | .panelSilent _ => 17
  | .clearPanel _ => 81
  | .crewLeft _ _ => 337
  | .crewLogin _ _ => 360
  | .loginArrival _ _ => 23
  | .releaseCrewLeft _ _ _ => 21
  | .holdChange _ _ _ _ _ => 1
  | .sharedEval _ => 5
  | .releaseReset _ _ => 21
  | .resetLift _ => 2
  | .enterLift _ _ => 4
  | .restartLine _ => 24

/-- The cost of a list of jobs. -/
def jobsCost (jobs : List Job) : Nat := (jobs.map Job.cost).sum

@[simp] theorem jobsCost_nil : jobsCost [] = 0 := rfl
@[simp] theorem jobsCost_cons (j : Job) (jobs : List Job) : jobsCost (j :: jobs) = j.cost + jobsCost jobs := List.sum_cons
@[simp] theorem jobsCost_append (jobs others : List Job) : jobsCost (jobs ++ others) = jobsCost jobs + jobsCost others := by
  rw [jobsCost, List.map_append, List.sum_append, jobsCost, jobsCost]

/-- Jobs of at most one cost each. -/
theorem jobsCost_le {jobs : List Job} {n : Nat} (h : ∀ j ∈ jobs, j.cost ≤ n) : jobsCost jobs ≤ jobs.length * n := by
  have hsum := List.sum_le_card_nsmul (jobs.map Job.cost) n (List.forall_mem_map.mpr h)
  rwa [List.length_map, smul_eq_mul] at hsum

theorem jobsCost_map_le {α : Type} {f : α → Job} {xs : List α} {n : Nat} (h : ∀ x, (f x).cost ≤ n) :
    jobsCost (xs.map f) ≤ xs.length * n := by
  have hjobs := jobsCost_le (jobs := xs.map f) (List.forall_mem_map.mpr fun x _ => h x)
  rwa [List.length_map] at hjobs

theorem jobsCost_ite_le {b : Prop} [Decidable b] {jobs others : List Job} {n : Nat} (h : jobsCost jobs ≤ n)
    (h' : jobsCost others ≤ n) : jobsCost (if b then jobs else others) ≤ n := by
  split
  · exact h
  · exact h'

/-! ### Work that keeps the footing -/

/-- Work on `s` that leaves its footing but for frames offered, and gives rise to jobs of cost at most `n`. -/
structure State.Spends (s : State) (n : Nat) (w : Work) : Prop where
  offers : s.footing.Offers w.1.footing
  cost : jobsCost w.2 ≤ n

namespace State.Spends

variable {s t : State} {n m : Nat} {w : Work} {j : Job} {jobs : List Job}

theorem nil (h : s.footing.Offers t.footing) : s.Spends n (t, []) := ⟨h, Nat.zero_le n⟩
theorem one (h : s.footing.Offers t.footing) (hj : j.cost ≤ n) : s.Spends n (t, [j]) := ⟨h, by simpa using hj⟩

theorem after (hw : t.Spends n w) (h : s.footing.Offers t.footing) : s.Spends n w := ⟨h.trans hw.offers, hw.cost⟩
theorem mono (hw : s.Spends n w) (h : n ≤ m) : s.Spends m w := ⟨hw.offers, hw.cost.trans h⟩
theorem with_jobs (hw : s.Spends n w) (h : jobsCost jobs ≤ m) : s.Spends (m + n) (w.1, jobs ++ w.2) :=
  ⟨hw.offers, by simpa using Nat.add_le_add h hw.cost⟩
theorem fullIf (hw : s.Spends n w) (before : Bool) (i : LiftIdx) : s.Spends n (w.1.fullIf before i, w.2) :=
  ⟨hw.offers.fullIf before i, hw.cost⟩

/-- A job for a case that is still the one it was made for (log 17). -/
theorem ite {b : Prop} [Decidable b] (hw : s.Spends n w) : s.Spends n (if b then w else (s, [])) := by
  split
  · exact hw
  · exact .nil (.refl _)

end State.Spends

end Sys2Proof.Machine
end

section
/-! SUPPORT. The footing and the costs through the case manager, the procedure engine and the release controller (chapters 4, 6,
7). -/

namespace Sys2Proof.Machine

variable (s : State)

/-! ### The case manager (chapter 4) -/

theorem openCase_spends (c : CaseNo) (i : LiftIdx) (causes : CauseSet) : s.Spends 20 (openCase s c i causes) :=
  .one (.call (.notify .kept c _ _) c) le_rfl

theorem joinCauses_spends (c : CaseNo) (causes : CauseSet) : s.Spends 1 (joinCauses s c causes) := by
  unfold joinCauses
  dsimp only
  split
  · exact .nil (.refl _)
  · exact .one (.notify .kept c _ _) le_rfl

theorem raise_spends (i : LiftIdx) (causes : CauseSet) : s.Spends 20 (raise s i causes) := by
  unfold raise
  split
  · exact (joinCauses_spends s _ _).mono (by omega)
  · split
    · exact openCase_spends s _ _ _
    · exact .nil (.fullIf .kept _ i)

theorem arbitrate_spends : s.Spends 20 (arbitrate s) := by
  unfold arbitrate
  split
  · exact .nil (.refl _)
  · dsimp only
    split
    · exact (openCase_spends _ _ _ _).after .kept
    · exact .nil .kept

theorem truthTold_spends (i : LiftIdx) : s.Spends 1 (truthTold s i) := by
  obtain ⟨hstate, hjobs⟩ := truthTold_cases s i
  refine ⟨.of_eq ?_, ?_⟩
  · rcases hstate with h | h <;> rw [h]
    rfl
  · rcases hjobs with h | ⟨c, _, h⟩ <;> rw [h]
    · exact Nat.zero_le _
    · exact le_rfl

theorem occupancyChange_footing (c : CaseNo) : (occupancyChange s c).footing = s.footing := by
  unfold occupancyChange
  dsimp only
  split <;> rfl

theorem escalate_spends (c : CaseNo) : s.Spends 1 (escalate s c) :=
  .one (.setCase (.notify .kept c _ _) c _) le_rfl

theorem clearCase_spends (c : CaseNo) (source : ClearedSource) : s.Spends 1 (clearCase s c source) := by
  have hcleared : s.Spends 1 ((s.setCase c { s.caseAt c with
      dispatch := .cleared, escalation := .stopped, window := (s.caseAt c).window.halted }).notify c .cleared
      (.source source), []) := .nil (.notify .kept c _ _)
  unfold clearCase
  dsimp only
  split
  · exact .one (.refl _) le_rfl
  · exact .one (.refl _) le_rfl
  · exact hcleared
  · exact hcleared
  · exact .nil (.refl _)

theorem closeCase_spends (c : CaseNo) (reason : CloseReason) : s.Spends 20 (closeCase s c reason) := by
  have hoffered : s.footing.Offers ((s.shut c reason).offerCase c ((s.shut c reason).closedNotice c)).1.footing :=
    State.offerCase_offers (s.shut c reason) c _
  unfold closeCase
  dsimp only
  split
  · split
    · exact ((arbitrate_spends _).after (hoffered.setCase c .free)).fullIf _ _
    · exact ((arbitrate_spends _).after hoffered).fullIf _ _
  · exact .nil (.refl _)

/-! ### Procedures (chapter 6) -/

theorem completeWait_spends (c : CaseNo) : s.Spends 20 (completeWait s c) := .one .kept le_rfl
theorem failWait_spends (c : CaseNo) : s.Spends 20 (failWait s c) := .one .kept le_rfl

theorem handover_offers (c : CaseNo) (reason : HandoverReason) : s.footing.Offers (handover s c reason).footing := by
  unfold handover
  dsimp only
  split
  · exact .notify .kept c _ _
  · exact .refl _

theorem handoverTest_offers (c : CaseNo) : s.footing.Offers (handoverTest s c).footing := by
  unfold handoverTest
  dsimp only
  split
  · exact handover_offers s c _
  · exact .refl _

theorem procedureEvent_spends (c : CaseNo) (e : NamedEvent) : s.Spends 20 (procedureEvent s c e) :=
  (completeWait_spends s c).ite

theorem caseEvent_spends (c : CaseNo) (e : NamedEvent) : s.Spends 21 (caseEvent s c e) := by
  unfold caseEvent
  dsimp only
  split
  · have hcleared := clearCase_spends (s.setCase c { s.caseAt c with
      seen := (s.caseAt c).seen.insert e, escalation := eventTimer (s.caseAt c) e }) c .evacuated
    split
    · exact (hcleared.mono (by omega)).after .kept
    · exact (((procedureEvent_spends _ c e).after hcleared.offers).with_jobs hcleared.cost).after .kept
  · exact ((procedureEvent_spends _ c e).mono (by omega)).after .kept

/-! ### Releases (chapter 7) -/

theorem endNotice_offers (c : CaseNo) (e : ReleaseEnd) : s.footing.Offers (endNotice s c e).footing := by
  cases e <;> exact s.notify_offers c _ _

theorem dropRelease_offers (c : CaseNo) (e : ReleaseEnd) : s.footing.Offers (dropRelease s c e).footing :=
  .trans .kept (endNotice_offers _ c e)

theorem endRelease_spends (c : CaseNo) (e : ReleaseEnd) : s.Spends 20 (endRelease s c e) := by
  have hdrop := dropRelease_offers s c e
  unfold endRelease
  dsimp only
  split
  · cases e with
    | done p => exact (completeWait_spends _ c).after hdrop
    | aborted reason => exact (failWait_spends _ c).after hdrop
  · exact .nil hdrop

theorem holdAt_footing (c : CaseNo) (q : Release) (was hold : Bool) (press : Nat) :
    (holdAt s c q was hold press).footing = s.footing := by
  unfold holdAt
  dsimp only
  split
  · split <;> rfl
  · split
    · rfl
    · split <;> rfl
  · split
    · rfl
    · split <;> rfl
  · split <;> rfl

theorem holdChange_footing (c : CaseNo) (p : PanelIdx) (was hold : Bool) (press : Nat) :
    (holdChange s c p was hold press).footing = s.footing := by
  unfold holdChange
  split
  · split
    · exact holdAt_footing s _ _ _ _ _
    · rfl
  · rfl

theorem settle_spends (c : CaseNo) (q : Release) (n : CarRecord) : s.Spends 20 (settle s c q n) := by
  unfold settle
  dsimp only
  split
  · exact endRelease_spends s c _
  · exact .nil .kept

theorem reportBySub_spends (c : CaseNo) (q : Release) (n : CarRecord) (moves : Bool) :
    s.Spends 20 (reportBySub s c q n moves) := by
  unfold reportBySub
  dsimp only
  split
  · exact .nil (.refl _)
  · exact (State.Spends.one .kept (show 3 ≤ 20 by decide)).ite
  · split <;> exact .nil .kept
  · exact (settle_spends s c q n).ite

theorem releaseReport_spends (c : CaseNo) (moves : Bool) : s.Spends 20 (releaseReport s c moves) := by
  unfold releaseReport
  split
  · split
    · exact endRelease_spends s c _
    · split
      · exact endRelease_spends s c _
      · exact reportBySub_spends s c _ _ _
  · exact .nil (.refl _)
  · exact .nil (.refl _)

theorem pulseDelivered_offers (c : CaseNo) (sequence : Nat) :
    s.footing.Offers (pulseDelivered s c sequence).footing := by
  unfold pulseDelivered
  dsimp only
  split
  · split
    · exact .notify .kept c _ _
    · exact .refl _
  · exact .refl _

theorem releaseCrewLeft_spends (c : CaseNo) (p : PanelIdx) (k : CrewNo) : s.Spends 20 (releaseCrewLeft s c p k) := by
  unfold releaseCrewLeft
  split
  · exact (endRelease_spends s c _).ite
  · exact .nil (.refl _)

theorem releaseReset_spends (c : CaseNo) (l : LineId) : s.Spends 20 (releaseReset s c l) := (endRelease_spends s c _).ite

/-! ### The procedure engine (chapter 6) -/

theorem commandStep_spends (c : CaseNo) (limit : Nat) (cmd : CarCommand) : s.Spends 3 (commandStep s c limit cmd) :=
  .one .kept le_rfl

theorem releaseStep_spends (c : CaseNo) (begun : Nat) (sr : StepRecord) :
    s.Spends (20 - min 16 begun) (releaseStep s c begun sr) := by
  unfold releaseStep
  split
  · exact .nil .kept
  · exact .one (endNotice_offers s c _) le_rfl

theorem act_spends (c : CaseNo) (begun : Nat) (sr : StepRecord) (a : Action) :
    s.Spends (20 - min 16 begun) (act s c begun sr a) := by
  have hcommand : ∀ limit cmd, s.Spends (20 - min 16 begun) (commandStep s c limit cmd) := fun limit cmd =>
    (commandStep_spends s c limit cmd).mono (by omega)
  unfold act
  dsimp only
  split
  case h_1 => exact hcommand _ _
  case h_2 =>
    split
    · exact hcommand _ _
    · exact .one (.refl _) le_rfl
  case h_3 => exact .one (s.notify_offers c _ _) le_rfl
  case h_4 => exact .one .kept le_rfl
  case h_5 =>
    split
    · exact .one (.refl _) le_rfl
    · exact .nil .kept
  case h_6 => split <;> exact .one (.refl _) le_rfl
  case h_7 => exact .one .kept le_rfl
  case h_8 => split <;> exact .one .kept le_rfl
  case h_9 => exact .one (.refl _) le_rfl
  case h_10 => exact releaseStep_spends s _ _ _
  case h_11 =>
    refine .one .kept ?_
    change 2 ≤ _
    omega
  case h_12 => exact .nil (handover_offers s c _)

/-- An activation goes on from one of its 16 steps to a later one, so that a step costs less than the one before (R112, R113). -/
theorem goTo_spends (c : CaseNo) (begun target : Nat) (common : Bool) :
    s.Spends (19 - min 16 begun) (goTo s c begun target common) := by
  unfold goTo
  dsimp only
  split
  · split
    · exact .nil (handover_offers s c _)
    · split
      · exact .nil (.trans .kept (handover_offers _ c _))
      · next hbegun =>
        have hless : begun < 16 := Nat.not_le.mp hbegun
        split
        · exact .nil (.trans .kept (handover_offers _ c _))
        · exact ((act_spends _ c (begun + 1) _ _).mono (by omega)).after .kept
  · exact .nil (.refl _)

theorem commandDelivered_spends (c : CaseNo) (p : PendingCommand) : s.Spends 20 (commandDelivered s c p) := by
  unfold commandDelivered
  split
  · exact (completeWait_spends s c).ite
  · split
    · exact .nil (pulseDelivered_offers s c _)
    all_goals exact .nil (.refl _)

theorem commandLost_spends (c : CaseNo) (owner : CommandOwner) : s.Spends 20 (commandLost s c owner) := by
  unfold commandLost
  split
  · exact (failWait_spends s c).ite
  · exact .nil (.refl _)

theorem stepExpired_spends (c : CaseNo) : s.Spends 20 (stepExpired s c) := by
  unfold stepExpired
  dsimp only
  split
  · exact .nil (.refl _)
  · exact failWait_spends s c
  · exact (failWait_spends _ c).after .kept
  · split
    · exact (failWait_spends _ c).after (dropRelease_offers s c _)
    · exact failWait_spends s c

end Sys2Proof.Machine
end

section
/-! SUPPORT. The footing and the costs through the arbiter, the panels and the car monitor (chapters 1, 3, 5). -/

namespace Sys2Proof.Machine

variable (s : State)

/-! ### Crew requests (chapter 5) -/

section

variable (k : CrewNo) {reply : Reply} (hreply : ∀ (t : State) code named info, t.footing.Offers (reply t code named info).footing)

include hreply

theorem judgeArrival_spends (c : CaseNo) : s.Spends 22 (judgeArrival s k c reply) := by
  unfold judgeArrival
  dsimp only
  split
  · exact .one (.notify (.trans .kept (hreply _ _ _ _)) c _ _) le_rfl
  · exact .nil (.notify (.trans .kept (hreply _ _ _ _)) c _ _)

theorem noOfferReply_spends : s.Spends 0 (noOfferReply s k reply) := by
  unfold noOfferReply
  split <;> exact .nil (hreply _ _ _ _)

theorem dutyOffRequest_spends : s.Spends 0 (dutyOffRequest s k reply) := by
  unfold dutyOffRequest
  dsimp only
  split
  · exact .nil (.trans .kept (hreply _ _ _ _))
  · exact .nil (hreply _ _ _ _)

theorem jobRequest_spends : s.Spends 0 (jobRequest s k reply) := by
  unfold jobRequest
  split
  · exact .nil (hreply _ _ _ _)
  · split
    · exact .nil (.notify (.trans .kept (hreply _ _ _ _)) _ _ _)
    · exact .nil (hreply _ _ _ _)

omit hreply in
theorem becomeLate_offers (c : CaseNo) : s.footing.Offers (becomeLate s c).footing :=
  .notify .kept c _ _

omit hreply in
/-- The footing when an offer is accepted, its case not yet closed or assigned (R92, R96). -/
theorem rotated_footing (c : CaseNo) : (if (s.clearOffer k).settings.tieMode = .rotate
      then (s.clearOffer k).toBottom ((s.clearOffer k).caseAt c).lift else s.clearOffer k).footing = s.footing := by
  split <;> rfl

theorem acceptOffer_spends (c : CaseNo) : s.Spends 20 (acceptOffer s k c reply) := by
  have hrotated := rotated_footing s k c
  unfold acceptOffer
  dsimp only
  generalize (if (s.clearOffer k).settings.tieMode = .rotate
      then (s.clearOffer k).toBottom ((s.clearOffer k).caseAt c).lift else s.clearOffer k) = u at hrotated ⊢
  refine State.Spends.after ?_ (.of_eq hrotated)
  split
  · exact (closeCase_spends _ c .acknowledged).after (hreply _ _ _ _)
  · have hassigned := (Footing.Offers.trans .kept (hreply (u.assign k c) .ok
      (some ((u.assign k c).serialOf c)) none)).notify (a := u.footing) c .accepted .none
    refine .nil ?_
    split
    · exact hassigned.trans (becomeLate_offers _ c)
    · exact hassigned

theorem acceptRequest_spends (serial : Option (BitVec 16)) : s.Spends 20 (acceptRequest s k serial reply) := by
  unfold acceptRequest
  split
  · split
    · exact acceptOffer_spends s k hreply _
    · exact .nil (hreply _ _ _ _)
  · exact (noOfferReply_spends s k hreply).mono (by omega)

omit hreply in
theorem givenUp_offers (c : CaseNo) (kind : NoticeKind) : s.footing.Offers (givenUp s k c kind).footing :=
  .call (s.notify_offers c _ _) c

omit hreply in
theorem offerExpired_offers (c : CaseNo) : s.footing.Offers (offerExpired s k c).footing :=
  .trans .kept (givenUp_offers _ k c _)

theorem declineRequest_spends (serial : Option (BitVec 16)) : s.Spends 0 (declineRequest s k serial reply) := by
  unfold declineRequest
  split
  · split
    · exact .nil (.trans (.trans .kept (hreply _ _ _ _)) (givenUp_offers _ k _ _))
    · exact .nil (hreply _ _ _ _)
  · exact noOfferReply_spends s k hreply

theorem arrivedRequest_spends (serial : Option (BitVec 16)) : s.Spends 22 (arrivedRequest s k serial reply) := by
  have hrefused : ∀ code, s.Spends 22 (reply s code none none, []) := fun code => .nil (hreply _ _ _ _)
  unfold arrivedRequest
  dsimp only
  split
  · split
    · split
      · exact judgeArrival_spends s k hreply _
      · exact hrefused _
    · exact hrefused _
  · split
    · exact hrefused _
    · split
      · exact judgeArrival_spends s k hreply _
      · exact hrefused _

theorem voiceRequest_spends (serial : Option (BitVec 16)) : s.Spends 22 (voiceRequest s k serial reply) := by
  unfold voiceRequest
  split
  · exact .one (hreply _ _ _ _) le_rfl
  · exact .nil (hreply _ _ _ _)

theorem standDownRequest_spends (serial : Option (BitVec 16)) : s.Spends 1 (standDownRequest s k serial reply) := by
  unfold standDownRequest
  split
  · exact .one (hreply _ _ _ _) le_rfl
  · exact .nil (hreply _ _ _ _)

theorem requestKind_spends (request : CrewRequest) (serial : Option (BitVec 16)) :
    s.Spends 22 (requestKind s k request serial reply) := by
  cases request with
  | dutyOn => exact .nil (.trans .kept (hreply _ _ _ _))
  | dutyOff => exact (dutyOffRequest_spends s k hreply).mono (by omega)
  | sweepOn => exact .nil (.trans .kept (hreply _ _ _ _))
  | sweepOff => exact .nil (.trans .kept (hreply _ _ _ _))
  | job => exact (jobRequest_spends s k hreply).mono (by omega)
  | accept => exact (acceptRequest_spends s k hreply serial).mono (by omega)
  | decline => exact (declineRequest_spends s k hreply serial).mono (by omega)
  | arrived => exact arrivedRequest_spends s k hreply serial
  | voice => exact voiceRequest_spends s k hreply serial
  | standDown => exact (standDownRequest_spends s k hreply serial).mono (by omega)

end

theorem routeJobs_cost (route : Route) : jobsCost (routeJobs route) ≤ 3 := by
  cases route with
  | trunk o => exact Nat.zero_le _
  | panel p => exact le_rfl

theorem crewRequest_spends (route : Route) (tag : Nat) (request : Option CrewRequest) (serial : Option (BitVec 16)) :
    s.Spends 25 (crewRequest s route tag request serial) := by
  have hroute := (routeJobs_cost route).trans (show 3 ≤ 25 by decide)
  unfold crewRequest
  split
  · exact ⟨s.respond_offers _ _ _ _ _, hroute⟩
  · dsimp only
    split
    · exact ⟨s.reply_offers _ _ _ _ _ _, hroute⟩
    · split
      · exact ⟨s.reply_offers _ _ _ _ _ _, hroute⟩
      · exact (requestKind_spends s _ (fun t _ _ _ => t.reply_offers _ _ _ _ _ _) _ serial).with_jobs (routeJobs_cost route)

theorem panelRequest_spends (p : PanelIdx) (toggle : Bool) (request : Option CrewRequest) (serial : Option (BitVec 16)) :
    s.Spends 25 (panelRequest s p toggle request serial) := by
  unfold panelRequest
  dsimp only
  split
  · split
    · exact .nil .kept
    · exact (crewRequest_spends _ _ _ _ _).after .kept
  · exact .nil .kept

/-! ### Logins (R88, R103) -/

theorem loginArrival_spends (p : PanelIdx) (k : CrewNo) : s.Spends 22 (loginArrival s p k) := by
  unfold loginArrival
  dsimp only
  split
  · exact judgeArrival_spends s k (fun _ _ _ _ => .refl _) _
  · exact .nil (.refl _)

theorem crewLeftJobs_cost (p : PanelIdx) (k : CrewNo) : jobsCost (crewLeftJobs p k) ≤ 336 :=
  jobsCost_map_le (xs := List.finRange 16) (n := 21) fun _ => le_rfl

theorem crewLogin_spends (p : PanelIdx) (tag : Nat) : s.Spends 359 (crewLogin s p tag) := by
  unfold crewLogin
  dsimp only
  split
  · next k _ =>
    refine State.Spends.with_jobs (m := 336) (n := 23) (.one (j := .loginArrival p k) .kept le_rfl) ?_
    split
    · exact jobsCost_ite_le (Nat.zero_le _) (crewLeftJobs_cost _ k)
    · exact Nat.zero_le _
  · exact .nil (.refl _)

theorem crewLeft_spends (p : PanelIdx) (tag : Nat) : s.Spends 336 (crewLeft s p tag) := by
  unfold crewLeft
  dsimp only
  split
  · next k _ =>
    refine ⟨.of_eq ?_, crewLeftJobs_cost p k⟩
    split <;> rfl
  · exact .nil (.refl _)

/-! ### Panels (chapter 1) -/

theorem panelLogged_spends (p : PanelIdx) (logged : Option Nat) : s.Spends 697 (panelLogged s p logged) := by
  unfold panelLogged
  dsimp only
  split
  · exact .nil (.refl _)
  · refine ⟨.of_eq rfl, ?_⟩
    rw [jobsCost_append]
    refine Nat.add_le_add (b := 337) (d := 360) ?_ ?_
    · split
      · exact le_rfl
      · exact Nat.zero_le _
    · split
      · exact le_rfl
      · exact Nat.zero_le _

theorem holdJobs_cost (p : PanelIdx) (was hold : Bool) (press : Nat) : jobsCost (holdJobs p was hold press) ≤ 16 :=
  jobsCost_map_le (xs := List.finRange 16) (n := 1) fun _ => le_rfl

theorem panelHold_spends (p : PanelIdx) (hold : Bool) (press : Nat) : s.Spends 16 (panelHold s p hold press) :=
  ⟨.of_eq rfl, jobsCost_ite_le (Nat.zero_le _) (holdJobs_cost _ _ _ _)⟩

theorem panelSilent_spends (p : PanelIdx) : s.Spends 16 (panelSilent s p) :=
  ⟨.of_eq rfl, jobsCost_ite_le (holdJobs_cost _ _ _ _) (Nat.zero_le _)⟩

theorem sharedJobs_cost (l : LineId) (p : Fin 16 → Bool) : jobsCost (sharedJobs l p) ≤ 80 := by
  have hmap : jobsCost (sharedJobs l p) ≤ ((List.finRange 16).filter p).length * 5 := jobsCost_map_le fun _ => le_rfl
  have hlength := List.length_filter_le p (List.finRange 16)
  rw [List.length_finRange] at hlength
  omega

theorem panelInputs_spends (p : PanelIdx) (inputs : BitVec 4) : s.Spends 80 (panelInputs s p inputs) :=
  ⟨.of_eq rfl, sharedJobs_cost _ _⟩

theorem clearPanel_spends (p : PanelIdx) : s.Spends 80 (clearPanel s p) := ⟨.of_eq rfl, sharedJobs_cost _ _⟩

/-! ### The car monitor (chapter 3) -/

section

variable (i : LiftIdx)

theorem toldIf_cost (old new : CauseSet) : jobsCost (toldIf i old new) ≤ 2 := jobsCost_ite_le (Nat.zero_le _) le_rfl
theorem raiseIf_cost (raised : CauseSet) : jobsCost (raiseIf i raised) ≤ 2 := jobsCost_ite_le (Nat.zero_le _) le_rfl
theorem changeJobs_cost (before after : LiftState) : jobsCost (changeJobs i before after) ≤ 1 :=
  jobsCost_ite_le (Nat.zero_le _) le_rfl
theorem toldAtReport_cost (r : Lift) (new : CauseSet) : jobsCost (toldAtReport i r new) ≤ 2 :=
  jobsCost_ite_le (Nat.zero_le _) le_rfl

theorem sharedEval_spends : s.Spends 4 (sharedEval s i) := by
  unfold sharedEval
  dsimp only
  split
  · exact .nil (.refl _)
  · refine ⟨.of_eq rfl, ?_⟩
    rw [jobsCost_append]
    exact Nat.add_le_add (toldIf_cost i _ _) (raiseIf_cost i _)

/-- A report brings at most four car events (R51). -/
theorem carEvents_length (before after : LiftState) (previous : Option CarRecord) (now : CarRecord) :
    (carEvents before after previous now).length ≤ 4 := by
  have hone : ∀ (b : Prop) [Decidable b] (e : NamedEvent), (if b then [e] else []).length ≤ 1 := fun b _ e => by
    split
    · exact le_rfl
    · exact Nat.zero_le _
  unfold carEvents
  simp only [List.length_append]
  exact Nat.add_le_add (Nat.add_le_add (Nat.add_le_add (hone _ _) (hone _ _)) (hone _ _)) (hone _ _)

theorem handOver_cost (c : CaseNo) (serial : BitVec 16) (moves : Bool) (before after : LiftState)
    (previous : Option CarRecord) (now : CarRecord) (presses : Nat) :
    jobsCost (handOver c serial moves before after previous now presses) ≤ 111 := by
  have hevents : jobsCost ((carEvents before after previous now).map (.event c serial ·)) ≤ 88 :=
    (jobsCost_map_le (n := 22) fun _ => le_rfl).trans (Nat.mul_le_mul_right 22 (carEvents_length before after previous now))
  unfold handOver
  rw [jobsCost_append, jobsCost_append, jobsCost_cons]
  refine Nat.add_le_add (b := 110) (d := 1) (Nat.add_le_add (b := 109) (d := 1) (Nat.add_le_add_left hevents 21) ?_) ?_
  · exact jobsCost_ite_le le_rfl (Nat.zero_le _)
  · exact jobsCost_ite_le (Nat.zero_le _) le_rfl

theorem takenReport_spends (r : CarReport) : s.Spends 116 (takenReport s i r) := by
  unfold takenReport
  dsimp only
  refine ⟨.of_eq rfl, ?_⟩
  rw [jobsCost_append, jobsCost_append, jobsCost_append]
  refine Nat.add_le_add (b := 115) (d := 1) (Nat.add_le_add (b := 113) (Nat.add_le_add (d := 111)
    (toldAtReport_cost i _ _) ?_) (raiseIf_cost i _)) le_rfl
  split
  · exact handOver_cost _ _ _ _ _ _ _ _
  · exact Nat.zero_le _

theorem silentSlot_spends : s.Spends 5 (silentSlot s i) := by
  unfold silentSlot
  dsimp only
  refine ⟨.of_eq rfl, ?_⟩
  rw [jobsCost_append, jobsCost_append]
  exact Nat.add_le_add (Nat.add_le_add (toldIf_cost i _ _) (raiseIf_cost i _)) (jobsCost_ite_le (Nat.zero_le _) le_rfl)

theorem enterState_spends (st : LiftState) : s.Spends 3 (enterState s i st) := by
  refine ⟨.of_eq rfl, ?_⟩
  unfold enterState
  rw [jobsCost_append]
  exact Nat.add_le_add (toldIf_cost i _ _) (changeJobs_cost i _ _)

theorem enterLift_spends (st : LiftState) : s.Spends 3 (enterLift s i st) := (enterState_spends s i st).ite

theorem resetLift_spends : s.Spends 1 (resetLift s i) := by
  unfold resetLift
  dsimp only
  split
  · exact ⟨.of_eq rfl, changeJobs_cost i _ _⟩
  · exact .nil (.refl _)

theorem summaryAfterReport_offers (before : LiftState) (previous : Option CarRecord) :
    s.footing.Offers (summaryAfterReport s i before previous).footing := by
  unfold summaryAfterReport
  dsimp only
  split
  · exact s.offerSummary_offers _
  · split
    · exact s.offerSummary_offers _
    · exact .refl _
  · exact .refl _

theorem summaryAfterChange_offers : s.footing.Offers (summaryAfterChange s i).footing := by
  unfold summaryAfterChange
  split
  · exact s.offerSummary_offers _
  · exact s.offerSummary_offers _
  · exact .refl _

end

end Sys2Proof.Machine
end

section
/-! SUPPORT. The bounds that every job of a handling keeps (R2, R17, R142, R151, R157). -/

namespace Sys2Proof.Machine

/-! ### The bounds -/

/-- The bounds on queues, divisors and counters carry over from `s` to `t`, and the bound on the own queue by itself. -/
structure State.Guards (s t : State) : Prop where
  own : s.trunk.own.length ≤ 32 → t.trunk.own.length ≤ 32
  queues : s.QueuesBounded → t.QueuesBounded
  divisors : s.DivisorsSound → t.DivisorsSound
  counters : s.CountersBounded → t.CountersBounded

theorem State.CountersBounded.trunk {s : State} (h : s.CountersBounded) : s.trunk.counters.Bounded :=
  ⟨h.nearCheck, h.nearKind, h.farCheck, h.forwardDrops, h.relayDrops, h.summaryDrops, h.answersLost, h.noticesLost⟩

theorem TrunkCounters.Bounded.state {s : State} (h : s.trunk.counters.Bounded) (herrors : ∀ l, (s.line l).errors ≤ 65535) :
    s.CountersBounded where
  nearCheck := h.nearCheck
  nearKind := h.nearKind
  farCheck := h.farCheck
  forwardDrops := h.forwardDrops
  relayDrops := h.relayDrops
  summaryDrops := h.summaryDrops
  answersLost := h.answersLost
  noticesLost := h.noticesLost
  errors := herrors

theorem State.DivisorsSound.congr {s t : State} (h : s.DivisorsSound) (htime : t.time = s.time)
    (hsettings : t.settings = s.settings) : t.DivisorsSound where
  d1 := by rw [hsettings]; exact h.d1
  d2 := by rw [hsettings]; exact h.d2
  running1 := by rw [htime]; exact h.running1
  running2 := by rw [htime]; exact h.running2
  first := by rw [htime]; exact h.first
  second := by rw [htime]; exact h.second

namespace State.Guards

variable {s t u : State}

theorem refl (s : State) : s.Guards s := ⟨id, id, id, id⟩

theorem trans (hst : s.Guards t) (htu : t.Guards u) : s.Guards u :=
  ⟨htu.own ∘ hst.own, htu.queues ∘ hst.queues, htu.divisors ∘ hst.divisors, htu.counters ∘ hst.counters⟩

/-- The divisors, each line and the port keep their own bounds. -/
theorem of_parts (hdivisors : s.DivisorsSound → t.DivisorsSound)
    (hroutine : ∀ l, (s.line l).routine.length ≤ 8 → (t.line l).routine.length ≤ 8)
    (herrors : ∀ l, (s.line l).errors ≤ 65535 → (t.line l).errors ≤ 65535)
    (hown : s.trunk.own.length ≤ 32 → t.trunk.own.length ≤ 32)
    (hrelay : s.trunk.relay.length ≤ 16 → t.trunk.relay.length ≤ 16)
    (hforward : s.trunk.forward.length ≤ 16 → t.trunk.forward.length ≤ 16)
    (hcounters : s.trunk.counters.Bounded → t.trunk.counters.Bounded) : s.Guards t where
  own := hown
  queues h := ⟨hown h.own, hrelay h.relay, hforward h.forward, fun l => hroutine l (h.routine l)⟩
  divisors := hdivisors
  counters h := (hcounters h.trunk).state fun l => herrors l (h.errors l)

/-- Work that leaves the footing but for frames offered. -/
theorem of_offers (h : s.footing.Offers t.footing) : s.Guards t := by
  have hroutine : ∀ l, (t.line l).routine = (s.line l).routine := fun l => congrArg LineFooting.routine (h.line l)
  have herrors : ∀ l, (t.line l).errors = (s.line l).errors := fun l => congrArg LineFooting.errors (h.line l)
  exact of_parts (·.congr (congrArg Footing.time h.rest) (congrArg Footing.settings h.rest)) (fun l => (hroutine l ▸ id))
    (fun l => (herrors l ▸ id)) h.trunk.own (h.relay ▸ id) (h.forward ▸ id) h.trunk.counters

/-- A line record that keeps the bounds of its routine queue and of its error counter. -/
theorem setLine {l : LineId} {r : Line} (hroutine : (s.line l).routine.length ≤ 8 → r.routine.length ≤ 8)
    (herrors : (s.line l).errors ≤ 65535 → r.errors ≤ 65535) : s.Guards (s.setLine l r) := by
  refine of_parts (·.congr rfl rfl) (fun k => ?_) (fun k => ?_) id id id id
  · rw [State.line_setLine_if]
    split
    · next hk => exact hk ▸ hroutine
    · exact id
  · rw [State.line_setLine_if]
    split
    · next hk => exact hk ▸ herrors
    · exact id

/-- A port that keeps its own bounds. -/
theorem setTrunk {t : Trunk} (hown : s.trunk.own.length ≤ 32 → t.own.length ≤ 32)
    (hrelay : s.trunk.relay.length ≤ 16 → t.relay.length ≤ 16)
    (hforward : s.trunk.forward.length ≤ 16 → t.forward.length ≤ 16)
    (hcounters : s.trunk.counters.Bounded → t.counters.Bounded) : s.Guards { s with trunk := t } :=
  of_parts (·.congr rfl rfl) (fun _ => id) (fun _ => id) hown hrelay hforward hcounters

end State.Guards

theorem State.Spends.guards {s : State} {n : Nat} {w : Work} (h : s.Spends n w) : s.Guards w.1 := .of_offers h.offers

/-! ### The lines (chapter 1) -/

section

variable (s : State) (l : LineId)

/-- The routine queue that a START leaves is the end of the one it found (R15). -/
theorem State.select_routine_length (slots : List Slot) :
    (s.select l slots).routine.length ≤ (s.line l).routine.length := by
  have hsendable : (sendable slots (s.line l).routine).length ≤ (s.line l).routine.length :=
    (List.dropWhile_suffix _).length_le
  unfold State.select
  dsimp only
  split
  · exact le_rfl
  · split
    · exact le_rfl
    · split
      · next hrest =>
        rw [hrest, List.length_cons] at hsendable
        exact Nat.le_of_succ_le hsendable
      · exact Nat.zero_le _

theorem startLine_guards (wake : Option WakeSource) : s.Guards (startLine s l wake).1 := by
  have hstarted : s.Guards (s.setLine l (s.startedLine l wake)) :=
    .setLine (s.select_routine_length l _).trans id
  unfold startLine
  dsimp only
  split
  · exact hstarted.trans (.of_offers .kept)
  · exact hstarted

theorem stopLine_guards : s.Guards (stopLine s l).1 := by
  unfold stopLine
  dsimp only
  split <;> exact .setLine id id

theorem lineWork_state : (lineWork s l).1 = s := by
  unfold lineWork
  split <;> rfl

theorem advance_footing (slot : Slot) : (advance s l slot).1.footing = s.footing := by
  unfold advance
  dsimp only
  split
  · split
    · exact s.setLine_footing rfl
    · rfl
  · rfl

theorem restartLine_footing : (restartLine s l).1.footing = s.footing := s.setLine_footing rfl

end

/-! ### The transmitters (R149, R154, R155) -/

section

variable (s : State)

/-- What a departure serves: nothing, a case with its SNAPSHOT, or a CLOSING record with its CLOSED notice (R154). -/
theorem serveOwed_cases : serveOwed s = (s, []) ∨ ∃ (c : CaseNo) (n : Notice),
    (∃ r, r.record = (s.caseAt c).record ∧ serveOwed s = ((s.appendOwn (.notice n)).setCase c r, [])) ∨
    ((s.caseAt c).record = .closing ∧ serveOwed s = ((s.appendOwn (.notice n)).setCase c .free, [.arbitrate])) := by
  unfold serveOwed
  split
  · exact .inl rfl
  · next c _ =>
    split
    · refine .inr ⟨c, _, .inl ⟨_, ?_, rfl⟩⟩
      rfl
    · next hclosing => exact .inr ⟨c, _, .inr ⟨hclosing, rfl⟩⟩
    · exact .inl rfl

/-- The NEAR transmitter is idle on a link that is UP (R155). -/
def Trunk.nearFree (t : Trunk) : Bool := t.nearUp && t.nearTx.isNone

/-- The NEAR transmitter has nothing to begin, or it is idle on a link that is UP and begins the head of a queue (R155). -/
theorem kickNear_cases : ((s.trunk.nearFree = true → s.trunk.own = [] ∧ s.trunk.relay = []) ∧ kickNear s = (s, [])) ∨
    s.trunk.nearFree = true ∧
    ((∃ b rest turn, s.trunk.relay = b :: rest ∧ kickNear s = (sendRelay s b rest turn, [])) ∨
      ∃ f rest turn, s.trunk.own = f :: rest ∧ kickNear s = sendOwn s f rest turn) := by
  unfold kickNear
  dsimp only
  split
  · next hidle =>
    split
    · next hown hrelay => exact .inl ⟨fun _ => ⟨hown, hrelay⟩, rfl⟩
    · next hrelay => exact .inr ⟨hidle, .inl ⟨_, _, _, hrelay, rfl⟩⟩
    · next hown _ => exact .inr ⟨hidle, .inr ⟨_, _, _, hown, rfl⟩⟩
    · next hown hrelay =>
      split
      · exact .inr ⟨hidle, .inr ⟨_, _, _, hown, rfl⟩⟩
      · split
        · exact .inr ⟨hidle, .inl ⟨_, _, _, hrelay, rfl⟩⟩
        · exact .inr ⟨hidle, .inr ⟨_, _, _, hown, rfl⟩⟩
  · next hbusy => exact .inl ⟨fun hidle => absurd hidle hbusy, rfl⟩

/-- The frame that a departure serves takes the place just freed. -/
theorem sendOwn_guards {f : OwnFrame} {rest : List OwnFrame} (hown : s.trunk.own = f :: rest) (turn : Turn) :
    s.Guards (sendOwn s f rest turn).1 := by
  let u : State := { s with trunk := { s.trunk with own := rest, nearTx := some (.own f), turn := turn } }
  have hfreed : s.trunk.own.length ≤ 32 → rest.length + 1 ≤ 32 := fun h => by rwa [hown, List.length_cons] at h
  have happended : ∀ n : Notice, s.Guards (u.appendOwn (.notice n)) := fun n =>
    .setTrunk (fun h => by rw [List.length_append]; exact hfreed h) id id id
  change s.Guards (serveOwed u).1
  rcases serveOwed_cases u with h | ⟨c, n, ⟨r, _, h⟩ | ⟨_, h⟩⟩ <;> rw [h]
  · exact .setTrunk (fun hlength => Nat.le_of_succ_le (hfreed hlength)) id id id
  · exact (happended n).trans (.of_offers .kept)
  · exact (happended n).trans (.of_offers .kept)

theorem kickNear_guards : s.Guards (kickNear s).1 := by
  rcases kickNear_cases s with ⟨_, h⟩ | ⟨_, ⟨b, rest, turn, hrelay, h⟩ | ⟨f, rest, turn, hown, h⟩⟩ <;> rw [h]
  · exact .refl s
  · refine .setTrunk id (fun hlength => ?_) id id
    rw [hrelay, List.length_cons] at hlength
    exact Nat.le_of_succ_le hlength
  · exact sendOwn_guards s hown turn

theorem kickFar_guards : s.Guards (kickFar s) := by
  unfold kickFar
  dsimp only
  split
  · split
    · exact .refl s
    · next hforward =>
      refine .setTrunk id id (fun hlength => ?_) id
      rw [hforward, List.length_cons] at hlength
      exact Nat.le_of_succ_le hlength
  · exact .refl s

theorem kick_guards : s.Guards (kick s).1 := (kickFar_guards s).trans (kickNear_guards _)

end

/-! ### Every job -/

theorem State.Guards.ite {s : State} {b : Bool} {w : Work} (h : s.Guards w.1) :
    s.Guards (if b then w else (s, [])).1 := by
  cases b
  · exact .refl s
  · exact h

theorem perform_guards (s : State) (j : Job) : s.Guards (perform s j).1 := by
  cases j with
  | start l wake => exact startLine_guards s l wake
  | stop l => exact stopLine_guards s l
  | lineWork l => exact .of_offers (.of_eq (congrArg State.footing (lineWork_state s l)))
  | advance l slot => exact .of_offers (.of_eq (advance_footing s l slot))
  | delivered c serial p => exact (commandDelivered_spends s c p).ite.guards
  | lost c serial owner => exact (commandLost_spends s c owner).ite.guards
  | takenReport i r => exact (takenReport_spends s i r).guards
  | silentSlot i => exact (silentSlot_spends s i).guards
  | truthTold i => exact (truthTold_spends s i).guards
  | raise i causes => exact (raise_spends s i causes).guards
  | releaseReport c serial moves => exact (releaseReport_spends s c moves).ite.guards
  | event c serial e => exact (caseEvent_spends s c e).ite.guards
  | occupancy c serial => exact .ite (.of_offers (.of_eq (occupancyChange_footing s c)))
  | presses c serial n => exact .ite (.of_offers .kept)
  | summaryReport i before previous => exact .of_offers (summaryAfterReport_offers s i before previous)
  | summaryChange i => exact .of_offers (summaryAfterChange_offers s i)
  | go c begun target common => exact (goTo_spends s c begun target common).guards
  | handoverTest c => exact .of_offers (handoverTest_offers s c)
  | clearing c => exact (clearCase_spends s c .procedure).ite.guards
  | close c reason => exact (closeCase_spends s c reason).guards
  | arbitrate => exact (arbitrate_spends s).guards
  | panelLogged p logged => exact (panelLogged_spends s p logged).guards
  | panelRequest p toggle request serial => exact (panelRequest_spends s p toggle request serial).guards
  | panelHold p hold press => exact (panelHold_spends s p hold press).guards
  | panelInputs p inputs => exact (panelInputs_spends s p inputs).guards
  | panelSilent p => exact (panelSilent_spends s p).guards
  | clearPanel p => exact (clearPanel_spends s p).guards
  | crewLeft p tag => exact (crewLeft_spends s p tag).guards
  | crewLogin p tag => exact (crewLogin_spends s p tag).guards
  | loginArrival p k => exact (loginArrival_spends s p k).guards
  | releaseCrewLeft c p k => exact (releaseCrewLeft_spends s c p k).guards
  | holdChange c p was hold press => exact .of_offers (.of_eq (holdChange_footing s c p was hold press))
  | sharedEval i => exact (sharedEval_spends s i).guards
  | releaseReset c l => exact (releaseReset_spends s c l).guards
  | resetLift i => exact (resetLift_spends s i).guards
  | enterLift i st => exact (enterLift_spends s i st).guards
  | restartLine l => exact .of_offers (.of_eq (restartLine_footing s l))

/-- A handling keeps the bounds that its work keeps. -/
theorem State.Guards.of_finish {s t : State} {w : Work} (hw : s.Guards w.1) (h : finish w = .next t) : s.Guards t :=
  finish_keeps s.Guards (fun u hu => hu.trans (kick_guards u)) (fun u j hu => hu.trans (perform_guards u j)) w t hw h

end Sys2Proof.Machine
end

section
/-! SUPPORT. The bounds through the requests, the frames, the ticks, and every command. -/

namespace Sys2Proof.Machine

/-- Work with which a command begins: it keeps the bounds, and its jobs cost well less than the budget of a handling. -/
structure State.Begins (s : State) (w : Work) : Prop where
  guards : s.Guards w.1
  cost : jobsCost w.2 ≤ 2000

namespace State.Begins

variable {s t : State} {n : Nat} {w : Work}

theorem of_spends (h : s.Spends n w) (hn : n ≤ 2000 := by decide) : s.Begins w := ⟨h.guards, h.cost.trans hn⟩
theorem nil (h : s.Guards t) : s.Begins (t, []) := ⟨h, Nat.zero_le _⟩
theorem after (hw : t.Begins w) (h : s.Guards t) : s.Begins w := ⟨h.trans hw.guards, hw.cost⟩

end State.Begins

/-! ### Requests that write no bounded field (R161 to R169) -/

section

variable (s : State) (o : Origin)

theorem answered_spends (kind : Byte) (code : AnswerCode) : s.Spends 0 (answered s o kind code) :=
  .nil (s.answer_offers o kind code .none)

theorem answered_begins (kind : Byte) (code : AnswerCode) : s.Begins (answered s o kind code) :=
  .of_spends (answered_spends s o kind code)

theorem answer_begins (kind : Byte) (code : AnswerCode) (data : AnswerData) : s.Begins (s.answer o kind code data, []) :=
  .nil (.of_offers (s.answer_offers o kind code data))

theorem stored_offers (clamped : Bool) (echo : AnswerData) : s.footing.Offers (stored s o clamped echo).footing := by
  unfold stored
  split <;> exact s.answer_offers o _ _ _

theorem readRequest_begins (table index : Nat) : s.Begins (readRequest s o table index) := by
  unfold readRequest
  split
  · exact answered_begins s o _ _
  · split
    · exact answer_begins s o _ _ _
    · exact answered_begins s o _ _

theorem applyLift_spends (i : LiftIdx) (g : LiftConfig) : s.Spends 6 (applyLift s i g) := by
  have hentered := fun st => enterState_spends (s.setLift i { s.lift i with config := g }) i st
  unfold applyLift
  dsimp only
  split
  · exact .nil .kept
  · refine ⟨.kept, ?_⟩
    rw [jobsCost_append]
    exact Nat.add_le_add (hentered _).cost (jobsCost_ite_le (Nat.zero_le _) le_rfl)
  · exact ((hentered _).mono (by omega)).after .kept
  · exact ⟨.kept, (toldIf_cost i _ _).trans (by omega)⟩

theorem writeLiftRequest_begins (index : Nat) (w : LiftWrite) : s.Begins (writeLiftRequest s o index w) := by
  unfold writeLiftRequest
  split
  · exact answered_begins s o _ _
  · split
    · exact answered_begins s o _ _
    · split
      · exact answered_begins s o _ _
      · split
        · exact answered_begins s o _ _
        · split
          · exact answered_begins s o _ _
          · exact .of_spends ((applyLift_spends _ _ _).after (stored_offers s o _ _))

theorem crewsLeaveJobs_cost (ps : List PanelIdx) : jobsCost (crewsLeaveJobs s ps) ≤ ps.length * 337 := by
  unfold crewsLeaveJobs
  induction ps with
  | nil => exact Nat.zero_le _
  | cons p ps ih =>
    rw [List.flatMap_cons, jobsCost_append, List.length_cons, Nat.add_mul, Nat.one_mul, Nat.add_comm]
    refine Nat.add_le_add ih ?_
    split
    · exact le_rfl
    · exact Nat.zero_le _

theorem applyPanel_spends (p : PanelIdx) (g : PanelConfig) : s.Spends 417 (applyPanel s p g) := by
  unfold applyPanel
  dsimp only
  split
  · exact .nil .kept
  · refine ⟨.kept, ?_⟩
    rw [jobsCost_cons]
    exact Nat.add_le_add (b := 81) (d := 336) le_rfl (jobsCost_ite_le (Nat.zero_le _) (show 3 ≤ 336 by decide))
  · have hleave : jobsCost (crewsLeaveJobs s [p]) ≤ 337 := by simpa using crewsLeaveJobs_cost s [p]
    refine ⟨.kept, ?_⟩
    rw [jobsCost_append]
    exact Nat.add_le_add hleave (sharedJobs_cost _ _)
  · exact ⟨.kept, (sharedJobs_cost _ _).trans (by omega)⟩

theorem writePanelRequest_begins (index : Nat) (w : PanelWrite) : s.Begins (writePanelRequest s o index w) := by
  unfold writePanelRequest
  split
  · exact answered_begins s o _ _
  · split
    · exact answered_begins s o _ _
    · split
      · exact answered_begins s o _ _
      · exact .of_spends ((applyPanel_spends _ _ _).after (s.answer_offers o _ _ _))

theorem writeCrewRequest_begins (index : Nat) (w : CrewWrite) : s.Begins (writeCrewRequest s o index w) := by
  unfold writeCrewRequest
  split
  · exact answered_begins s o _ _
  · split
    · exact answered_begins s o _ _
    · split
      · exact answered_begins s o _ _
      · split
        · exact answered_begins s o _ _
        · split
          · exact answered_begins s o _ _
          · exact .nil (.of_offers (.trans (stored_offers s o _ _) .kept))

theorem writeClassRequest_begins (index : Nat) (w : ClassWrite) : s.Begins (writeClassRequest s o index w) := by
  unfold writeClassRequest
  split
  · exact answered_begins s o _ _
  · split
    · exact answered_begins s o _ _
    · split
      · exact answered_begins s o _ _
      · exact .nil (.of_offers (.trans .kept (stored_offers _ o _ _)))

theorem writeTravelRequest_begins (index lo hi : Nat) : s.Begins (writeTravelRequest s o index lo hi) := by
  unfold writeTravelRequest
  split
  · exact answered_begins s o _ _
  · exact .nil (.of_offers (.trans .kept (stored_offers _ o _ _)))

theorem writeStepRequest_begins (index : Nat) (w : StepWrite) : s.Begins (writeStepRequest s o index w) := by
  unfold writeStepRequest
  split
  · exact answered_begins s o _ _
  · split
    · exact answered_begins s o _ _
    · exact .nil (.of_offers (.trans .kept (State.answer_offers _ o _ _ _)))

theorem setForwardRequest_begins (index mode : Nat) : s.Begins (setForwardRequest s o index mode) := by
  unfold setForwardRequest
  split
  · exact answered_begins s o _ _
  · exact answered_begins s o _ _
  · exact (answered_begins _ o _ _).after (.of_offers .kept)

theorem setBottomRequest_begins (index : Nat) : s.Begins (setBottomRequest s o index) := by
  unfold setBottomRequest
  split
  · exact answered_begins s o _ _
  · exact (answered_begins _ o _ _).after (.of_offers .kept)

theorem surveyRequest_begins (crew : Nat) : s.Begins (surveyRequest s o crew) := by
  unfold surveyRequest
  split
  · exact answered_begins s o _ _
  · exact answer_begins s o _ _ _

theorem readCaseRequest_begins (record : Nat) : s.Begins (readCaseRequest s o record) := by
  unfold readCaseRequest
  split
  · exact answered_begins s o _ _
  · exact answer_begins s o _ _ _

theorem caseOpenRequest_begins (identity : Nat) : s.Begins (caseOpenRequest s o identity) := by
  unfold caseOpenRequest
  split
  · exact answered_begins s o _ _
  · split
    · exact answered_begins s o _ _
    · exact .of_spends ((raise_spends _ _ _).after (s.answer_offers o _ _ _))

theorem caseCloseRequest_begins (serial : BitVec 16) : s.Begins (caseCloseRequest s o serial) := by
  unfold caseCloseRequest
  split
  · exact answered_begins s o _ _
  · exact .of_spends ((closeCase_spends _ _ _).after (s.answer_offers o _ _ _))

/-! ### The settings (R143, R164) -/

theorem le_clampTo {lo n : Nat} (hi m : Nat) (h : n ≤ lo) : n ≤ clampTo lo hi m := h.trans (Nat.le_max_left _ _)

/-- The divisors are stored at least 2 (R142, R164). -/
theorem SettingsWrite.settings_divisors {w : SettingsWrite} {v : Settings} (h : w.settings = some v) :
    2 ≤ v.d1 ∧ 2 ≤ v.d2 := by
  unfold SettingsWrite.settings at h
  split at h
  · obtain rfl := Option.some.inj h
    exact ⟨le_clampTo _ _ le_rfl, le_clampTo _ _ le_rfl⟩
  · exact nomatch h

theorem State.Guards.setSettings {v : Settings} (h1 : 2 ≤ v.d1) (h2 : 2 ≤ v.d2) : s.Guards { s with settings := v } :=
  .of_parts (fun h => { h with d1 := h1, d2 := h2 }) (fun _ => id) (fun _ => id) id id id id

theorem writeSettingsRequest_begins (index : Nat) (w : SettingsWrite) : s.Begins (writeSettingsRequest s o index w) := by
  unfold writeSettingsRequest
  split
  · exact answered_begins s o _ _
  · split
    · exact answered_begins s o _ _
    · next v hv =>
      obtain ⟨h1, h2⟩ := SettingsWrite.settings_divisors hv
      refine ⟨(State.Guards.setSettings s h1 h2).trans (.of_offers (stored_offers _ o _ _)), ?_⟩
      refine (jobsCost_map_le (n := 3) fun _ => le_rfl).trans ?_
      have hlength := List.length_filter_le (fun l => v.lines[l.val].defaultMode == .continuous) (List.finRange 4)
      rw [List.length_finRange] at hlength
      omega

/-! ### Lines (R19 to R22, R165) -/

theorem enableJobs_cost (l : LineId) : jobsCost (enableJobs s l) ≤ 412 := by
  have henter : jobsCost ((liftsOf l).map (.enterLift · .unseen)) ≤ 64 :=
    jobsCost_map_le (xs := liftsOf l) (n := 4) fun _ => le_rfl
  have hclear : jobsCost (((panelsOf l).filter fun p => (s.panel p).config.enabled).map .clearPanel) ≤ 324 := by
    refine (jobsCost_map_le (n := 81) fun _ => le_rfl).trans (Nat.mul_le_mul_right (m := 4) 81 ?_)
    exact (List.length_filter_le _ _)
  unfold enableJobs
  rw [jobsCost_append, jobsCost_cons]
  exact Nat.add_le_add (Nat.add_le_add_left henter 24) hclear

theorem lineEnableRequest_begins (line : Nat) : s.Begins (lineEnableRequest s o line) := by
  unfold lineEnableRequest
  split
  · exact answered_begins s o _ _
  · next l _ =>
    exact ⟨.of_offers (s.answer_offers o _ _ _),
      jobsCost_ite_le ((enableJobs_cost s l).trans (by omega)) (Nat.zero_le _)⟩

theorem disableJobs_cost (l : LineId) : jobsCost (disableJobs s l) ≤ 1736 := by
  have henter : jobsCost ((liftsOf l).map (.enterLift · .offline)) ≤ 64 :=
    jobsCost_map_le (xs := liftsOf l) (n := 4) fun _ => le_rfl
  have hleave : jobsCost (crewsLeaveJobs s (panelsOf l)) ≤ 4 * 337 := crewsLeaveJobs_cost s (panelsOf l)
  have hclear : jobsCost ((panelsOf l).map .clearPanel) ≤ 4 * 81 :=
    jobsCost_map_le (xs := panelsOf l) (n := 81) fun _ => le_rfl
  unfold disableJobs
  rw [jobsCost_append, jobsCost_append]
  exact (Nat.add_le_add (Nat.add_le_add henter hleave) hclear).trans (by omega)

theorem offLine_guards (l : LineId) : s.Guards (offLine s l) := .setLine (fun _ => Nat.zero_le _) id

theorem lineDisableRequest_begins (line : Nat) : s.Begins (lineDisableRequest s o line) := by
  unfold lineDisableRequest
  split
  · exact answered_begins s o _ _
  · next l _ =>
    split
    · exact answered_begins s o _ _
    · split
      · exact answered_begins s o _ _
      · exact ⟨(State.Guards.of_offers (s.answer_offers o _ _ _)).trans (offLine_guards _ l),
          Nat.le_trans (disableJobs_cost s l) (by decide)⟩

theorem abandonCycle_guards (l : LineId) : s.Guards (abandonCycle s l) := .setLine (fun _ => Nat.zero_le _) id

theorem resetLine_begins (l : LineId) : s.Begins (resetLine s l) := by
  refine ⟨(abandonCycle_guards s l).trans (.of_offers .kept), ?_⟩
  have hlost : jobsCost ((pendingOn s l).map fun e => Job.lost e.1 (s.serialOf e.1) e.2) ≤ 336 :=
    (jobsCost_map_le (n := 21) fun _ => le_rfl).trans (Nat.mul_le_mul_right 21 (pendingOn_length s l))
  have hrelease : jobsCost ((List.finRange 16).map (.releaseReset · l)) ≤ 336 :=
    jobsCost_map_le (xs := List.finRange 16) (n := 21) fun _ => le_rfl
  have hlifts : jobsCost ((liftsOf l).map .resetLift) ≤ 32 := jobsCost_map_le (xs := liftsOf l) (n := 2) fun _ => le_rfl
  unfold resetLine
  dsimp only
  rw [jobsCost_append, jobsCost_append, jobsCost_append]
  exact (Nat.add_le_add (Nat.add_le_add (Nat.add_le_add hlost hrelease) hlifts) (Nat.le_refl 24)).trans (by omega)

theorem lineResetRequest_begins (line : Nat) : s.Begins (lineResetRequest s o line) := by
  unfold lineResetRequest
  split
  · exact answered_begins s o _ _
  · split
    · exact answered_begins s o _ _
    · exact (resetLine_begins _ _).after (.of_offers (s.answer_offers o _ _ _))

/-! ### A warm restart (R171) -/

/-- A warm restart empties the queues and clears the counters; the settings and the time base stand (R22, R159, R171). -/
theorem restarted_guards : s.Guards s.restarted := by
  have hline : ∀ l, s.restarted.line l = (s.line l).restarted := fun l => Vector.getElem_map Line.restarted l.isLt
  refine .of_parts (·.congr rfl rfl) (fun l _ => ?_) (fun l _ => ?_) (fun _ => Nat.zero_le _) (fun _ => Nat.zero_le _)
    (fun _ => Nat.zero_le _) fun _ => ?_
  · rw [hline]; exact Nat.zero_le _
  · rw [hline]; exact Nat.zero_le _
  · constructor <;> exact Nat.zero_le _

theorem restart_begins : s.Begins (restart s o) := by
  refine ⟨(restarted_guards s).trans (.of_offers (.trans (State.offerLoose_offers _ _) (State.answer_offers _ o _ _ _))), ?_⟩
  refine (jobsCost_map_le (n := 24) fun _ => le_rfl).trans ?_
  have hlength := List.length_filter_le (fun l => (s.line l).state != .off) (List.finRange 4)
  rw [List.length_finRange] at hlength
  omega

theorem warmRestartRequest_begins (force : Nat) : s.Begins (warmRestartRequest s o force) := by
  unfold warmRestartRequest
  split
  · exact answered_begins s o _ _
  · split
    · exact answered_begins s o _ _
    · exact restart_begins s o

theorem manage_begins (r : MgmtRequest) : s.Begins (manage s o r) := by
  cases r with
  | read table index => exact readRequest_begins s o table index
  | writeLift index w => exact writeLiftRequest_begins s o index w
  | writePanel index w => exact writePanelRequest_begins s o index w
  | writeCrew index w => exact writeCrewRequest_begins s o index w
  | writeClass index w => exact writeClassRequest_begins s o index w
  | writeTravel index lo hi => exact writeTravelRequest_begins s o index lo hi
  | writeStep index w => exact writeStepRequest_begins s o index w
  | writeSettings index w => exact writeSettingsRequest_begins s o index w
  | setForward index mode => exact setForwardRequest_begins s o index mode
  | lineEnable line => exact lineEnableRequest_begins s o line
  | lineDisable line => exact lineDisableRequest_begins s o line
  | lineReset line => exact lineResetRequest_begins s o line
  | setBottom index => exact setBottomRequest_begins s o index
  | survey crew => exact surveyRequest_begins s o crew
  | caseOpen identity => exact caseOpenRequest_begins s o identity
  | caseClose serial => exact caseCloseRequest_begins s o serial
  | readCase record => exact readCaseRequest_begins s o record
  | readCounters => exact answer_begins s o _ _ _
  | warmRestart force => exact warmRestartRequest_begins s o force

/-! ### Frames (R147 to R150, R156) -/

theorem answerControl_offers (code : AnswerCode) : s.footing.Offers (answerControl s o code).footing :=
  .trans .kept (State.answer_offers _ o _ _ _)

/-- A command is QUEUED only where the routine queue has room (R17, R156). -/
theorem State.controlCode_room {identity : Nat} {cmd : CarCommand} {i : LiftIdx} (hi : s.resolveIdentity identity = some i)
    (h : s.controlCode identity cmd = .queued) : (s.line (lineOf i)).routine.length < 8 := by
  unfold State.controlCode at h
  rw [hi] at h
  dsimp only at h
  split_ifs at h with _ _ _ hroom
  exact hroom

theorem controlRequest_begins (identity : Nat) (cmd : CarCommand) : s.Begins (controlRequest s o identity cmd) := by
  have hanswered := answerControl_offers s o (s.controlCode identity cmd)
  unfold controlRequest
  dsimp only
  split
  · next i hcode hi =>
    have hroutine : ((answerControl s o (s.controlCode identity cmd)).line (lineOf i)).routine = (s.line (lineOf i)).routine :=
      congrArg LineFooting.routine (hanswered.line (lineOf i))
    refine ⟨(State.Guards.of_offers hanswered).trans (.setLine (fun _ => ?_) id), show 3 ≤ 2000 by decide⟩
    rw [hroutine, List.length_append]
    exact s.controlCode_room hi hcode
  · exact .nil (.of_offers hanswered)

theorem controlFrame_begins (body : List Byte) : s.Begins (controlFrame s o body) := by
  unfold controlFrame
  split
  · exact controlRequest_begins s o _ _
  · exact .nil (.of_offers (answerControl_offers s o _))

theorem crewRequest_begins (route : Route) (tag : Nat) (request : Option CrewRequest) (serial : Option (BitVec 16)) :
    s.Begins (crewRequest s route tag request serial) := .of_spends (crewRequest_spends s route tag request serial)

theorem crewFrame_begins (body : List Byte) : s.Begins (crewFrame s o body) := by
  unfold crewFrame
  split
  · exact crewRequest_begins s _ _ _ _
  · exact .nil (.of_offers (.trans .kept (State.offerAnswer_offers _ o _)))

theorem mgmtFrame_begins (body : List Byte) : s.Begins (mgmtFrame s o body) := by
  unfold mgmtFrame
  split
  · exact manage_begins s o _
  · split
    · exact answered_begins s o _ _
    · exact (answered_begins _ o _ _).after (.of_offers .kept)

theorem countNearKind_guards : s.Guards (countNearKind s) :=
  .setTrunk id id id fun h => { h with nearKind := satInc_le _ _ }

theorem takeFrame_begins (f : TrunkFrame) : s.Begins (takeFrame s f) := by
  unfold takeFrame
  dsimp only
  split
  · exact mgmtFrame_begins s _ _
  · exact controlFrame_begins s _ _
  · exact crewFrame_begins s _ _
  · exact .nil (countNearKind_guards s)

/-- A queue of at most 16 that a frame joins while there is room (R149, R150). -/
theorem length_join {q : List (List Byte)} (bytes : List Byte) (h : q.length < 16) : (q ++ [bytes]).length ≤ 16 := by
  rw [List.length_append]
  exact h

theorem offerForward_guards (bytes : List Byte) : s.Guards (offerForward s bytes) := by
  rw [offerForward_eq]
  split
  · next hroom => exact .setTrunk id id (fun _ => length_join bytes hroom.2) id
  · exact .setTrunk id id id fun h => { h with forwardDrops := satInc_le _ _ }

theorem offerRelay_guards (bytes : List Byte) : s.Guards (offerRelay s bytes) := by
  rw [offerRelay_eq]
  split
  · next hroom => exact .setTrunk id (fun _ => length_join bytes hroom) id id
  · exact .setTrunk id id id fun h => { h with relayDrops := satInc_le _ _ }

theorem nearFrame_begins (bytes : List Byte) : s.Begins (nearFrame s bytes) := by
  unfold nearFrame
  split
  · split
    · exact .nil (.setTrunk id id id fun h => { h with nearCheck := satInc_le _ _ })
    · split
      · exact takeFrame_begins s _
      · split
        · exact (takeFrame_begins _ _).after (offerForward_guards s bytes)
        · exact .nil (offerForward_guards s bytes)
  · exact .nil (.refl s)

theorem farFrame_guards (bytes : List Byte) : s.Guards (farFrame s bytes) := by
  unfold farFrame
  split
  · split
    · exact .setTrunk id id id fun h => { h with farCheck := satInc_le _ _ }
    · exact offerRelay_guards s bytes
  · exact .refl s

theorem setFar_guards (up : Bool) : s.Guards (setFar s up) := by
  unfold setFar
  split
  · exact .setTrunk id id id id
  · split
    · exact .setTrunk id id (fun _ => Nat.zero_le _) fun h => { h with forwardDrops := min_le_left _ _ }
    · exact .refl s

/-! ### Windows (R7 to R10, R14) -/

theorem countError_guards (l : LineId) : s.Guards (countError s l) := .setLine id fun _ => satInc_le _ _

theorem slotJobs_cost (l : LineId) (slot : Slot) (a : SlotAnswer) : jobsCost (slotJobs s l slot a) ≤ 822 := by
  unfold slotJobs
  split
  · unfold carJobs
    split
    · exact jobsCost_ite_le (show 117 ≤ 822 by decide) (Nat.zero_le _)
    · exact Nat.zero_le _
    · exact jobsCost_ite_le (show 6 ≤ 822 by decide) (Nat.zero_le _)
  · unfold panelSlotJobs
    split
    · exact Nat.zero_le _
    · exact jobsCost_ite_le (show 822 ≤ 822 from le_rfl) (Nat.zero_le _)
    · exact jobsCost_ite_le (show 17 ≤ 822 by decide) (Nat.zero_le _)

theorem closeWindow_begins (l : LineId) (slot : Slot) (a : SlotAnswer) : s.Begins (closeWindow s l slot a) := by
  unfold closeWindow
  refine ⟨?_, ?_⟩
  · dsimp only
    split
    · exact countError_guards s l
    · exact .refl s
  · rw [jobsCost_append]
    exact (Nat.add_le_add (slotJobs_cost s l slot a) (Nat.le_refl 46)).trans (by omega)

theorem collide_guards (l : LineId) : s.Guards (collide s l) := by
  unfold collide
  dsimp only
  split
  · exact .setLine id id
  · exact .refl s

/-! ### The time base (R142, R143) -/

/-- A tick's end takes the written divisors over, and the stages start again from 0 (R142, R143). -/
theorem tick_guards : s.Guards s.tick := by
  refine .of_parts (fun h => ?_) (fun l => ?_) (fun l => ?_) id id id id
  · exact ⟨h.d1, h.d2, h.d1, h.d2, Nat.lt_of_lt_of_le Nat.zero_lt_two h.d1, Nat.lt_of_lt_of_le Nat.zero_lt_two h.d2⟩
  · rw [State.tick_line]; exact id
  · rw [State.tick_line]; exact id

/-- A time base with the divisors it had. -/
theorem State.Guards.setTime {x : TimeBase} (h : s.DivisorsSound → State.DivisorsSound { s with time := x }) :
    s.Guards { s with time := x } := .of_parts h (fun _ => id) (fun _ => id) id id id id

theorem carry_guards : s.Guards s.carry := by
  rcases s.carry_cases with ⟨hless, h⟩ | ⟨_, h⟩ <;> rw [h]
  · exact .setTime s fun hd => ⟨hd.d1, hd.d2, hd.running1, hd.running2, Nat.lt_of_lt_of_le Nat.zero_lt_two hd.running1, hless⟩
  · exact tick_guards s

theorem clockPeriod_guards : s.Guards s.clockPeriod := by
  rcases s.clockPeriod_cases with ⟨hless, h⟩ | ⟨_, h⟩ <;> rw [h]
  · exact .setTime s fun hd => ⟨hd.d1, hd.d2, hd.running1, hd.running2, hless, hd.second⟩
  · exact carry_guards s

/-- The mark of a tick's end that is still to be reported concerns no bound (log 2). -/
theorem tickDue_guards (due : Bool) : s.Guards { s with time := { s.time with tickDue := due } } :=
  .setTime s fun hd => ⟨hd.d1, hd.d2, hd.running1, hd.running2, hd.first, hd.second⟩

theorem powerOn_guards (straps : BitVec 12) (nearUp farUp : Bool) (draws : Nat) (q : List Instr) :
    s.Guards (.powerOn straps nearUp farUp draws q) :=
  ⟨fun _ => (State.powerOn_queuesBounded straps nearUp farUp draws q).own,
    fun _ => State.powerOn_queuesBounded straps nearUp farUp draws q,
    fun _ => State.powerOn_divisorsSound straps nearUp farUp draws q,
    fun _ => State.powerOn_countersBounded straps nearUp farUp draws q⟩

end

/-! ### Every command -/

/-- A command comes at once to a state that keeps the bounds, or to a handling whose work does. -/
inductive State.Undertakes (s : State) : Host.Outcome State Fault Refusal → Prop
  | done {t : State} (h : s.Guards t) : s.Undertakes (.next t)
  | begun {w : Work} (h : s.Begins w) : s.Undertakes (finish w)

/-- An expiry that acts only where its timer is due (R145, log 1). -/
theorem State.Undertakes.ite {s : State} {b : Prop} [Decidable b] {w : Work} (h : s.Begins w) :
    s.Undertakes (if b then finish w else .next s) := by
  split
  · exact .begun h
  · exact .done (.refl s)

theorem exec_undertakes (c : Instr) (s : State) : s.Undertakes (exec c s) := by
  have hmanage : ∀ (o : Origin) (r : MgmtRequest), s.Undertakes (exec (r.command o) s) := fun o r => by
    rw [exec_command]
    exact .begun (manage_begins s o r)
  cases c with
  | powerOnReset => exact .done (powerOn_guards s _ _ _ _ _)
  | strapChange address => exact .done (.of_offers .kept)
  | tickEnd =>
    refine .done ?_
    split
    · exact tickDue_guards s false
    · exact tick_guards s
  | intervalTimerExpiry l =>
    exact .ite ⟨.setLine id id, jobsCost_ite_le (show 23 ≤ 2000 by decide) (Nat.zero_le _)⟩
  | ceilingTimerExpiry l =>
    exact .ite ⟨.setLine id id, jobsCost_ite_le (show 23 ≤ 2000 by decide) (Nat.zero_le _)⟩
  | escalationTimerExpiry c => exact .ite (.of_spends (escalate_spends s c))
  | offerTimerExpiry k =>
    change s.Undertakes (execOfferTimerExpiry k s)
    unfold execOfferTimerExpiry
    split
    · exact .ite (.nil (.of_offers (offerExpired_offers s k _)))
    · exact .done (.refl s)
  | minTimerExpiry c =>
    change s.Undertakes (execMinTimerExpiry c s)
    unfold execMinTimerExpiry
    dsimp only
    split
    · exact .done (.of_offers .kept)
    · exact .done (.refl s)
  | maxTimerExpiry c =>
    refine .ite (.nil (.of_offers ?_))
    split
    · exact .trans .kept (becomeLate_offers _ c)
    · exact .kept
  | stepTimerExpiry c => exact .ite (.of_spends (stepExpired_spends s c))
  | settleTimerExpiry c =>
    change s.Undertakes (execSettleTimerExpiry c s)
    unfold execSettleTimerExpiry
    split
    · exact .ite (.of_spends (endRelease_spends s c _))
    · exact .done (.refl s)
  | answerWindowClose l held =>
    change s.Undertakes (execAnswerWindowClose l held s)
    unfold execAnswerWindowClose
    dsimp only
    split
    · exact .begun (closeWindow_begins s l _ _)
    · exact .done (.refl s)
  | wake l burst =>
    change s.Undertakes (execWake l burst s)
    unfold execWake
    split
    · exact .begun ⟨.refl s, show 23 ≤ 2000 by decide⟩
    · exact .done (collide_guards s l)
  | wakeBurstInCycle l => exact .done (collide_guards s l)
  | nearFrameReceived bytes => exact .begun (nearFrame_begins s bytes)
  | farFrameReceived bytes => exact .begun (.nil (farFrame_guards s bytes))
  | linkStateChange side up =>
    cases side with
    | near => exact .begun (w := (setNear s up, [])) (.nil (.setTrunk id id id id))
    | far => exact .begun (w := (setFar s up, [])) (.nil (setFar_guards s up))
  | nearTransmitComplete =>
    exact .begun (w := ({ s with trunk := { s.trunk with nearTx := none } }, [])) (.nil (.setTrunk id id id id))
  | farTransmitComplete =>
    exact .begun (w := ({ s with trunk := { s.trunk with farTx := none } }, [])) (.nil (.setTrunk id id id id))
  | read o table index => exact hmanage o (.read table index)
  | writeLift o index w => exact hmanage o (.writeLift index w)
  | writePanel o index w => exact hmanage o (.writePanel index w)
  | writeCrew o index w => exact hmanage o (.writeCrew index w)
  | writeClass o index w => exact hmanage o (.writeClass index w)
  | writeTravel o index lo hi => exact hmanage o (.writeTravel index lo hi)
  | writeStep o index w => exact hmanage o (.writeStep index w)
  | writeSectorSettings o index w => exact hmanage o (.writeSettings index w)
  | setForward o index mode => exact hmanage o (.setForward index mode)
  | lineEnable o line => exact hmanage o (.lineEnable line)
  | lineDisable o line => exact hmanage o (.lineDisable line)
  | lineReset o line => exact hmanage o (.lineReset line)
  | setBottom o index => exact hmanage o (.setBottom index)
  | survey o crew => exact hmanage o (.survey crew)
  | caseOpen o identity => exact hmanage o (.caseOpen identity)
  | caseClose o serial => exact hmanage o (.caseClose serial)
  | readCase o record => exact hmanage o (.readCase record)
  | readCounters o => exact hmanage o .readCounters
  | warmRestart o force => exact hmanage o (.warmRestart force)
  | controlInhibit o identity => exact .begun (controlRequest_begins s o identity _)
  | controlRestore o identity => exact .begun (controlRequest_begins s o identity _)
  | controlAnnounce o identity message => exact .begun (controlRequest_begins s o identity _)
  | controlService o identity code => exact .begun (controlRequest_begins s o identity _)
  | dutyOn r tag => exact .begun (crewRequest_begins s r tag _ _)
  | dutyOff r tag => exact .begun (crewRequest_begins s r tag _ _)
  | sweepOn r tag => exact .begun (crewRequest_begins s r tag _ _)
  | sweepOff r tag => exact .begun (crewRequest_begins s r tag _ _)
  | job r tag => exact .begun (crewRequest_begins s r tag _ _)
  | accept r tag serial => exact .begun (crewRequest_begins s r tag _ _)
  | decline r tag serial => exact .begun (crewRequest_begins s r tag _ _)
  | arrived r tag serial => exact .begun (crewRequest_begins s r tag _ _)
  | voice r tag serial => exact .begun (crewRequest_begins s r tag _ _)
  | standDown r tag serial => exact .begun (crewRequest_begins s r tag _ _)
  | firstStageCarry => exact .done ((carry_guards s).trans (tickDue_guards _ _))

theorem exec_guards {c : Instr} {s t : State} (h : exec c s = .next t) : s.Guards t := by
  have hexec := exec_undertakes c s
  rw [h] at hexec
  generalize hout : (Host.Outcome.next t : Host.Outcome State Fault Refusal) = out at hexec
  cases hexec with
  | done hguards => exact Host.Outcome.next.inj hout ▸ hguards
  | begun hbegins => exact hbegins.guards.of_finish hout.symm

/-- A step is a command on the queue's rest, or a period of the clock. -/
theorem step_guards {s t : State} (h : step s = .next t) : s.Guards t := by
  unfold step at h
  split at h
  · exact Host.Outcome.next.inj h ▸ clockPeriod_guards s
  · exact State.Guards.trans (.of_offers .kept) (exec_guards h)

/-- Settles O5: every command's work, and every job that it gives rise to, keeps each bound. -/
theorem stepsKeepEveryBound : Obligations.StepsKeepEveryBound :=
  ⟨fun _ _ hs h => (step_guards h).queues hs, fun _ _ hs h => (step_guards h).divisors hs,
    fun _ _ hs h => (step_guards h).counters hs⟩

end Sys2Proof.Machine
end

section
/-! SUPPORT. The credit of a state: what pays, beyond the costs of the jobs that wait, for the records that open and close, the
lines that leave QUIET_IDLE, and a departure (R66, R77, R78, R13, R154). -/

namespace Sys2Proof.Machine

/-! ### Counting -/

/-- How many places have a property. -/
@[irreducible] def tally {n : Nat} (P : Fin n → Bool) : Nat := ∑ i, (P i).toNat

theorem tally_le {n : Nat} (P : Fin n → Bool) : tally P ≤ n := by
  have hsum := Finset.sum_le_card_nsmul Finset.univ (fun i => (P i).toNat) 1 fun i _ => Bool.toNat_le (P i)
  simpa [tally] using hsum

/-- Properties that differ at one place at most. -/
theorem tally_of_agree {n : Nat} {P Q : Fin n → Bool} {i : Fin n} (h : ∀ j, j ≠ i → Q j = P j) :
    tally Q + (P i).toNat = tally P + (Q i).toNat := by
  have hothers : ∑ j ∈ Finset.univ.erase i, (Q j).toNat = ∑ j ∈ Finset.univ.erase i, (P j).toNat :=
    Finset.sum_congr rfl fun j hj => by rw [h j (Finset.ne_of_mem_erase hj)]
  have hP := Finset.add_sum_erase Finset.univ (fun j => (P j).toNat) (Finset.mem_univ i)
  have hQ := Finset.add_sum_erase Finset.univ (fun j => (Q j).toNat) (Finset.mem_univ i)
  unfold tally
  omega

/-! ### The credit of a state -/

/-- How many case records are FREE. -/
def Ledger.frees (a : Ledger) : Nat := tally fun c => (a.caseAt c).record == .free

/-- How many lines stand in QUIET_IDLE. -/
def Footing.idles (a : Footing) : Nat := tally fun l => (a.lines l).state == .quietIdle

/-- Each place that a notice may yet take in the own queue pays for a record that becomes FREE, and each FREE record
for an activation that begins; a line in QUIET_IDLE pays for a START, and a NEAR transmitter that is idle for a departure. -/
def State.credit (s : State) : Nat :=
  20 * (32 - s.trunk.notices) + 20 * s.ledger.frees + 21 * s.footing.idles + 21 * s.trunk.nearFree.toNat

theorem State.credit_le (s : State) : s.credit ≤ 1065 := by
  have hfrees : s.ledger.frees ≤ 16 := tally_le _
  have hidles : s.footing.idles ≤ 4 := tally_le _
  have hnear := Bool.toNat_le s.trunk.nearFree
  unfold State.credit
  omega

theorem State.credit_congr {s t : State} (hfooting : t.footing = s.footing) (hfrees : t.ledger.frees = s.ledger.frees) :
    t.credit = s.credit := by
  have htrunk : t.trunk = s.trunk := congrArg Footing.trunk hfooting
  unfold State.credit
  rw [hfooting, hfrees, htrunk]

theorem Ledger.Advances.frees {a b : Ledger} (h : a.Advances b) : b.frees = a.frees := by
  unfold Ledger.frees
  simp only [(h.cases _).record]

/-- A record that changes. -/
theorem Ledger.frees_set (a : Ledger) (c : CaseNo) (r : Case) :
    (a.set c r).frees + ((a.caseAt c).record == .free).toNat = a.frees + (r.record == .free).toNat := by
  have hagree := tally_of_agree (P := fun e => (a.caseAt e).record == .free)
    (Q := fun e => ((a.set c r).caseAt e).record == .free) (i := c) fun e he => by
      rw [Ledger.caseAt_set, if_neg (Ne.symm he)]
  rwa [Ledger.caseAt_set, if_pos rfl] at hagree

section

variable {a : Ledger} {c : CaseNo} {r : Case}

theorem Ledger.frees_set_taken (hfree : (a.caseAt c).record = .free) (hr : r.record ≠ .free) :
    (a.set c r).frees + 1 = a.frees := by
  simpa [hfree, beq_false_of_ne hr] using a.frees_set c r

theorem Ledger.frees_set_freed (hc : (a.caseAt c).record ≠ .free) : (a.set c .free).frees = a.frees + 1 := by
  simpa [beq_false_of_ne hc, show Case.free.record = .free from rfl] using a.frees_set c .free

theorem Ledger.frees_set_still (hc : (a.caseAt c).record ≠ .free) (hr : r.record ≠ .free) : (a.set c r).frees = a.frees := by
  simpa [beq_false_of_ne hc, beq_false_of_ne hr] using a.frees_set c r

end

/-- Offerings change the credit by the places that notices take and the records that become FREE or are taken. -/
theorem Footing.Offers.credit_eq {s t : State} (h : s.footing.Offers t.footing) :
    t.credit + 20 * (32 - s.trunk.notices) + 20 * s.ledger.frees =
      s.credit + 20 * (32 - t.trunk.notices) + 20 * t.ledger.frees := by
  have hidles : t.footing.idles = s.footing.idles := by
    unfold Footing.idles
    rw [show t.footing.lines = s.footing.lines from (congrArg Footing.lines h.rest :)]
  have hnear : t.trunk.nearFree = s.trunk.nearFree := by
    unfold Trunk.nearFree
    rw [h.nearUp, h.nearTx]
  unfold State.credit
  rw [hidles, hnear]
  omega

theorem Footing.Offers.credit {s t : State} (h : s.footing.Offers t.footing) :
    t.credit + 20 * s.ledger.frees ≤ s.credit + 20 * t.ledger.frees := by
  have hnotices : s.trunk.notices ≤ t.trunk.notices := h.trunk.notices
  have hcredit := h.credit_eq
  omega

/-- A line that changes its state. -/
theorem State.credit_setLine (s : State) (l : LineId) (r : Line) :
    (s.setLine l r).credit + 21 * ((s.line l).state == .quietIdle).toNat = s.credit + 21 * (r.state == .quietIdle).toNat := by
  have hidles := tally_of_agree (P := fun k => (s.footing.lines k).state == .quietIdle)
    (Q := fun k => ((s.setLine l r).footing.lines k).state == .quietIdle) (i := l) fun k hk => by
      change (((s.setLine l r).line k).state == LineState.quietIdle) = ((s.line k).state == LineState.quietIdle)
      rw [State.line_setLine_ne _ _ _ _ (Ne.symm hk)]
  have hline : ((s.setLine l r).footing.lines l).state = r.state := congrArg Line.state (s.line_setLine l r)
  rw [hline] at hidles
  have hledger : (s.setLine l r).ledger = s.ledger := rfl
  change (s.setLine l r).footing.idles + ((s.line l).state == .quietIdle).toNat = s.footing.idles + _ at hidles
  unfold State.credit
  rw [hledger, State.setLine_trunk]
  omega

/-! ### Work that is paid for -/

/-- What the work on `s` comes to is paid for by `n` and by the credit that it takes. -/
def State.Affords (s : State) (n : Nat) (w : Work) : Prop := jobsCost w.2 + w.1.credit ≤ n + s.credit

namespace State.Affords

variable {s t : State} {n m : Nat} {w : Work}

theorem mono (h : s.Affords n w) (hm : n ≤ m) : s.Affords m w := Nat.le_trans h (Nat.add_le_add_right hm _)

/-- Work after what takes no credit. -/
theorem after (h : t.Affords n w) (ht : t.credit ≤ s.credit) : s.Affords n w := Nat.le_trans h (Nat.add_le_add_left ht _)

theorem with_jobs {jobs : List Job} (h : s.Affords n w) (hjobs : jobsCost jobs ≤ m) : s.Affords (m + n) (w.1, jobs ++ w.2) := by
  unfold State.Affords at h ⊢
  rw [jobsCost_append]
  dsimp only
  omega

end State.Affords

/-- Offerings while no record opens or closes. -/
theorem Footing.Offers.credit_le {s t : State} (h : s.footing.Offers t.footing) (ha : s.ledger.Advances t.ledger) :
    t.credit ≤ s.credit := by
  have hcredit := h.credit
  rw [ha.frees] at hcredit
  exact Nat.le_of_add_le_add_right hcredit

theorem State.Spends.affords {s : State} {n : Nat} {w : Work} (h : s.Spends n w) (ha : s.ledger.Advances w.1.ledger) :
    s.Affords n w := Nat.add_le_add h.cost (h.offers.credit_le ha)

/-! ### Openings and closes (R61 to R66, R76 to R78) -/

section

variable (s : State) {c : CaseNo}

/-- The record that a case takes pays for its first activation (R62, R63). -/
theorem openCase_affords (hfree : (s.caseAt c).record = .free) (i : LiftIdx) (causes : CauseSet) :
    s.Affords 0 (openCase s c i causes) := by
  have hspends := openCase_spends s c i causes
  have hseated : (s.seated c i causes).ledger.frees + 1 = s.ledger.frees :=
    Ledger.frees_set_taken (a := s.ledger) (r := s.openingRecord i causes) hfree RecordState.noConfusion
  have hopened : (s.seated c i causes).ledger.Advances (openCase s c i causes).1.ledger :=
    ((s.seated c i causes).notify_advances c _ _).trans (.of_eq (State.call_ledger _ c))
  have hcredit := hspends.offers.credit
  have hcost := hspends.cost
  rw [hopened.frees] at hcredit
  unfold State.Affords
  omega

theorem raise_affords (i : LiftIdx) (causes : CauseSet) : s.Affords 1 (raise s i causes) := by
  unfold raise
  split
  · exact (joinCauses_spends s _ _).affords (joinCauses_advances s _ _)
  · split
    · next hfree => exact (openCase_affords s (s.record_of_lowestFree hfree) i _).mono (Nat.zero_le 1)
    · exact (State.Spends.nil (n := 1) (.fullIf .kept _ i)).affords (.of_eq (by simp))

theorem arbitrate_affords : s.Affords 0 (arbitrate s) := by
  unfold arbitrate
  split
  · exact (State.Spends.nil (.refl _)).affords (.refl _)
  · next hfree =>
    dsimp only
    split
    · exact openCase_affords { s with lifts := s.lifts.map Lift.prunedLatch } (s.record_of_lowestFree hfree) _ _
    · exact (State.Spends.nil (n := 0) .kept).affords (.of_eq rfl)

theorem Trunk.notices_le (t : Trunk) : t.notices ≤ t.own.length := List.countP_le_length

/-- The CLOSED notice of a record that closes takes a place in the own queue, which pays for the record that becomes FREE; or it is
owed (R76, R77). -/
theorem offerCase_pays (hclosing : (s.caseAt c).record = .closing) (hown : s.trunk.own.length ≤ 32) (n : Notice) :
    ((s.offerCase c n).2 = .entered → ((s.offerCase c n).1.setCase c .free).credit ≤ s.credit) ∧
    ((s.offerCase c n).2 = .kept → (s.offerCase c n).1.credit ≤ s.credit) := by
  have htaken : (s.caseAt c).record ≠ .free := by
    rw [hclosing]
    exact RecordState.noConfusion
  have hoffers := s.offerCase_offers c n
  unfold State.offerCase at hoffers ⊢
  split at hoffers
  · next howed =>
    rw [if_pos howed]
    exact ⟨nofun, fun _ => hoffers.credit_le (.of_eq rfl)⟩
  · next howed =>
    rw [if_neg howed]
    split at hoffers
    · next t hjoin =>
      refine ⟨fun _ => ?_, nofun⟩
      let u : State := ({ s with trunk := t }.bumpSequence).setCase c .free
      have hfrees : u.ledger.frees = s.ledger.frees + 1 := Ledger.frees_set_freed (a := s.ledger) htaken
      have hnotices : u.trunk.notices = s.trunk.notices + 1 := Trunk.notices_join (u := t) hjoin rfl
      have hlimit : u.trunk.notices ≤ 32 := u.trunk.notices_le.trans (hoffers.trunk.own hown)
      have hcredit := Footing.Offers.credit_eq (s := s) (t := u) hoffers
      change u.credit ≤ s.credit
      omega
    · refine ⟨nofun, fun _ => ?_⟩
      have hfrees : (s.ledger.set c { s.caseAt c with owed := true }).frees = s.ledger.frees :=
        Ledger.frees_set_still (a := s.ledger) htaken htaken
      have hcredit := hoffers.credit
      have hledger : ((s.setCase c { s.caseAt c with owed := true }).bumpSequence).ledger.frees = s.ledger.frees := hfrees
      rw [hledger] at hcredit
      exact Nat.le_of_add_le_add_right hcredit

theorem State.shut_credit (hopen : s.isOpen c = true) (reason : CloseReason) : (s.shut c reason).credit = s.credit := by
  obtain ⟨r, ⟨tag, identity, now, rfl⟩, _, hledger⟩ := s.shut_ledger c reason
  refine State.credit_congr rfl ?_
  have hrecord : (s.caseAt c).record = .opened := beq_iff_eq.mp hopen
  rw [hledger]
  refine Ledger.frees_set_still (a := s.ledger) ?_ RecordState.noConfusion
  rw [show (s.ledger.caseAt c).record = .opened from hrecord]
  exact RecordState.noConfusion

theorem fullIf_credit (before : Bool) (i : LiftIdx) : (s.fullIf before i).credit ≤ s.credit :=
  (s.fullIf_offers before i).credit_le (.of_eq (s.fullIf_ledger before i))

/-- A close pays for itself: the record that it frees, or the place that it takes, pays for the case that opens then (R66, R76). -/
theorem closeCase_affords (hown : s.trunk.own.length ≤ 32) (c : CaseNo) (reason : CloseReason) :
    s.Affords 0 (closeCase s c reason) := by
  have hfull : ∀ {w : Work} (i : LiftIdx), s.Affords 0 w → s.Affords 0 (w.1.fullIf s.someLatch i, w.2) := fun {w} i hw =>
    (Nat.add_le_add_left (fullIf_credit w.1 s.someLatch i) _).trans hw
  unfold closeCase
  dsimp only
  split
  · next hopen =>
    have hshut := (s.shut_credit hopen reason).le
    have hclosing : ((s.shut c reason).caseAt c).record = .closing := by
      obtain ⟨r, ⟨tag, identity, now, rfl⟩, hcase, _⟩ := s.shut_ledger c reason
      rw [hcase]
      rfl
    have hpays := offerCase_pays (s.shut c reason) hclosing hown ((s.shut c reason).closedNotice c)
    split
    · next hentered => exact hfull _ ((arbitrate_affords _).after ((hpays.1 hentered).trans hshut))
    · next hkept => exact hfull _ ((arbitrate_affords _).after ((hpays.2 hkept).trans hshut))
  · exact (State.Spends.nil (n := 0) (.refl _)).affords (.refl _)

end

/-! ### Crew requests (chapter 5) -/

section

variable (s : State) (hown : s.trunk.own.length ≤ 32)

include hown

section

variable (k : CrewNo) {reply : Reply} (hreply : ∀ (t : State) code named info, t.footing.Offers (reply t code named info).footing)
  (hledger : ∀ t code named info, (reply t code named info).ledger = t.ledger)

include hreply hledger

/-- An accepted case is held, or closed at once (R96). -/
theorem acceptOffer_affords (c : CaseNo) : s.Affords 0 (acceptOffer s k c reply) := by
  have hrotated := rotated_footing s k c
  have hledgered : (if (s.clearOffer k).settings.tieMode = .rotate
      then (s.clearOffer k).toBottom ((s.clearOffer k).caseAt c).lift else s.clearOffer k).ledger = s.ledger := by
    split <;> rfl
  unfold acceptOffer
  dsimp only
  generalize (if (s.clearOffer k).settings.tieMode = .rotate
      then (s.clearOffer k).toBottom ((s.clearOffer k).caseAt c).lift else s.clearOffer k) = u at hrotated hledgered ⊢
  have hu : s.footing.Offers u.footing := .of_eq hrotated
  split
  · have hreplied := hu.trans (hreply u .ok (some (u.serialOf c)) none)
    have hcredit := hreplied.credit_le (.of_eq ((hledger _ _ _ _).trans hledgered))
    exact (closeCase_affords _ (hreplied.trunk.own hown) c .acknowledged).after hcredit
  · let v := reply (u.assign k c) .ok (some ((u.assign k c).serialOf c)) none
    have hoffers : s.footing.Offers (v.notify c .accepted .none).footing :=
      .notify (hu.trans (.trans .kept (hreply (u.assign k c) _ _ _))) c _ _
    have hassigned : s.ledger.Advances v.ledger :=
      ((Ledger.Advances.of_eq hledgered).trans (u.assign_advances k c)).trans (.of_eq (hledger _ _ _ _))
    have hadvances := hassigned.notify c .accepted .none
    split
    · exact (State.Spends.nil (n := 0) (hoffers.trans (becomeLate_offers _ c))).affords
        (hadvances.trans (becomeLate_advances _ c))
    · exact (State.Spends.nil (n := 0) hoffers).affords hadvances

theorem acceptRequest_affords (serial : Option (BitVec 16)) : s.Affords 0 (acceptRequest s k serial reply) := by
  unfold acceptRequest
  split
  · split
    · exact acceptOffer_affords s hown k hreply hledger _
    · exact (State.Spends.nil (n := 0) (hreply _ _ _ _)).affords (.of_eq (hledger _ _ _ _))
  · exact (noOfferReply_spends s k hreply).affords (.of_eq (noOfferReply_ledger s hledger k))

theorem requestKind_affords (request : CrewRequest) (serial : Option (BitVec 16)) :
    s.Affords 22 (requestKind s k request serial reply) := by
  have hspends := requestKind_spends s k hreply request serial
  cases request with
  | dutyOn => exact hspends.affords (.of_eq (hledger _ _ _ _))
  | dutyOff => exact hspends.affords (.of_eq (dutyOffRequest_ledger s hledger k))
  | sweepOn => exact hspends.affords (.of_eq (hledger _ _ _ _))
  | sweepOff => exact hspends.affords (.of_eq (hledger _ _ _ _))
  | job => exact hspends.affords (jobRequest_advances s hledger k)
  | accept => exact (acceptRequest_affords s hown k hreply hledger serial).mono (Nat.zero_le 22)
  | decline => exact hspends.affords (declineRequest_advances s hledger k serial)
  | arrived => exact hspends.affords (arrivedRequest_advances s hledger k serial)
  | voice => exact hspends.affords (.of_eq (voiceRequest_ledger s hledger k serial))
  | standDown => exact hspends.affords (.of_eq (standDownRequest_ledger s hledger k serial))

end

theorem crewRequest_affords (route : Route) (tag : Nat) (request : Option CrewRequest) (serial : Option (BitVec 16)) :
    s.Affords 25 (crewRequest s route tag request serial) := by
  have hroute := (routeJobs_cost route).trans (show 3 ≤ 25 by decide)
  unfold crewRequest
  split
  · exact State.Spends.affords ⟨s.respond_offers _ _ _ _ _, hroute⟩ (.of_eq (s.respond_ledger _ _ _ _ _))
  · dsimp only
    split
    · exact State.Spends.affords ⟨s.reply_offers _ _ _ _ _ _, hroute⟩ (.of_eq (s.reply_ledger _ _ _ _ _ _))
    · split
      · exact State.Spends.affords ⟨s.reply_offers _ _ _ _ _ _, hroute⟩ (.of_eq (s.reply_ledger _ _ _ _ _ _))
      · exact (requestKind_affords s hown _ (fun t _ _ _ => t.reply_offers _ _ _ _ _ _)
          (fun t _ _ _ => t.reply_ledger _ _ _ _ _ _) _ serial).with_jobs (routeJobs_cost route)

theorem panelRequest_affords (p : PanelIdx) (toggle : Bool) (request : Option CrewRequest) (serial : Option (BitVec 16)) :
    s.Affords 25 (panelRequest s p toggle request serial) := by
  let u := s.setPanelDyn p { (s.panel p).dyn with toggle := some toggle }
  have hmarked : s.Affords 25 (u, []) := (State.Spends.nil (n := 25) .kept).affords (.of_eq rfl)
  unfold panelRequest
  dsimp only
  split
  · split
    · exact hmarked
    · exact (crewRequest_affords u hown _ _ _ _).after (State.credit_congr rfl rfl).le
  · exact hmarked

end

/-! ### Lines (R6, R11, R13) -/

section

variable (s : State) (l : LineId)

/-- A STOP may leave the line in QUIET_IDLE, and may be followed by a START (R11). -/
theorem stopLine_affords : s.Affords 44 (stopLine s l) := by
  have hstopped : ∀ (r : Line) (b : Bool), s.Affords 44 (s.setLine l r, if b then [] else [.start l none]) := fun r b => by
    have hcredit := s.credit_setLine l r
    have hcost : jobsCost (if b then [] else [.start l none]) ≤ 23 := jobsCost_ite_le (Nat.zero_le _) le_rfl
    have hidle := Bool.toNat_le (r.state == .quietIdle)
    unfold State.Affords
    dsimp only
    omega
  unfold stopLine
  dsimp only
  split
  · exact hstopped _ _
  · exact hstopped _ _

theorem advance_affords (slot : Slot) : s.Affords 45 (advance s l slot) := by
  have hspends : s.Spends 45 (advance s l slot) := by
    refine ⟨.of_eq (advance_footing s l slot), ?_⟩
    unfold advance
    dsimp only
    split
    · split
      · exact Nat.zero_le _
      · exact le_rfl
    · exact Nat.zero_le _
  exact hspends.affords (.of_eq (advance_ledger s l slot))

theorem restartLine_affords : s.Affords 23 (restartLine s l) :=
  State.Spends.affords ⟨.of_eq (restartLine_footing s l), le_rfl⟩ (.of_eq rfl)

end

end Sys2Proof.Machine
end

section
/-! SUPPORT. Every handling comes to its end: what its jobs come to is paid for by their costs and by the credit of the state, which
together stay below the budget (R113, R151, log 4). -/

namespace Sys2Proof.Machine

/-! ### Transmitters with nothing to begin (R149, R155) -/

/-- Neither transmitter has a frame to begin. -/
structure Trunk.Still (t : Trunk) : Prop where
  near : t.nearFree = true → t.own = [] ∧ t.relay = []
  far : (t.farUp && t.farTx.isNone) = true → t.forward = []

section

variable {s : State}

theorem kickFar_of_still (h : s.trunk.Still) : kickFar s = s := by
  unfold kickFar
  dsimp only
  split
  · next hidle =>
    rw [h.far hidle]
  · rfl

theorem kick_of_still (h : s.trunk.Still) : kick s = (s, []) := by
  rw [kick, kickFar_of_still h]
  rcases kickNear_cases s with ⟨_, heq⟩ | ⟨hidle, ⟨b, rest, turn, hrelay, _⟩ | ⟨f, rest, turn, hown, _⟩⟩
  · exact heq
  · exact absurd ((h.near hidle).2.symm.trans hrelay) nofun
  · exact absurd ((h.near hidle).1.symm.trans hown) nofun

variable (s)

theorem kickFar_still : ((kickFar s).trunk.farUp && (kickFar s).trunk.farTx.isNone) = true → (kickFar s).trunk.forward = [] := by
  unfold kickFar
  dsimp only
  split
  · split
    · next hforward => exact fun _ => hforward
    · exact fun hidle => absurd (Bool.and_eq_true_iff.mp hidle).2 Bool.false_ne_true
  · next hbusy => exact fun hidle => absurd hidle hbusy

/-- What is served leaves the FAR side and what is being sent alone. -/
theorem serveOwed_links : (serveOwed s).1.trunk = { s.trunk with
    own := (serveOwed s).1.trunk.own, sequence := (serveOwed s).1.trunk.sequence } := by
  rcases serveOwed_cases s with h | ⟨c, n, ⟨r, _, h⟩ | ⟨_, h⟩⟩ <;> rw [h] <;> rfl

theorem kick_still : (kick s).1.trunk.Still := by
  let u := kickFar s
  have hfar : (u.trunk.farUp && u.trunk.farTx.isNone) = true → u.trunk.forward = [] := kickFar_still s
  have hsending : ∀ b : Bool, ∀ x : NearFrame, (b && (some x).isNone) = true → False := fun b x h =>
    Bool.false_ne_true ((Bool.and_eq_true_iff.mp h).2)
  change (kickNear u).1.trunk.Still
  rcases kickNear_cases u with ⟨hnear, h⟩ | ⟨_, ⟨b, rest, turn, _, h⟩ | ⟨f, rest, turn, _, h⟩⟩ <;> rw [h]
  · exact ⟨hnear, hfar⟩
  · exact ⟨fun hidle => (hsending _ _ hidle).elim, hfar⟩
  · rw [sendOwn, serveOwed_links]
    exact ⟨fun hidle => (hsending _ _ hidle).elim, hfar⟩

end

/-! ### A departure (R154, R155) -/

section

variable (s : State)

theorem kickFar_credit : (kickFar s).credit = s.credit := by
  unfold kickFar
  dsimp only
  split
  · split
    · rfl
    · rfl
  · rfl

/-- The credit where the NEAR transmitter has begun to send. -/
theorem State.credit_sending {t : State} (hidle : s.trunk.nearFree = true) (hbusy : t.trunk.nearFree = false)
    (hlines : t.footing.lines = s.footing.lines) :
    t.credit + 20 * (32 - s.trunk.notices) + 20 * s.ledger.frees + 21 =
      s.credit + 20 * (32 - t.trunk.notices) + 20 * t.ledger.frees := by
  have hidles : t.footing.idles = s.footing.idles := by
    unfold Footing.idles
    rw [hlines]
  unfold State.credit
  rw [hidle, hbusy, hidles, Bool.toNat_true, Bool.toNat_false]
  omega

/-- A departure gives up the idle transmitter, which pays for the place that a notice leaves, or for the arbitration that a record
freed gives rise to. -/
theorem sendOwn_affords (hidle : s.trunk.nearFree = true) (hlength : s.trunk.own.length ≤ 32) {f : OwnFrame}
    {rest : List OwnFrame} (hown : s.trunk.own = f :: rest) (turn : Turn) : s.Affords 0 (sendOwn s f rest turn) := by
  let u : State := { s with trunk := { s.trunk with own := rest, nearTx := some (.own f), turn := turn } }
  have hbusy : ∀ t : Trunk, t.nearTx = some (.own f) → t.nearFree = false := fun t ht => by
    rw [Trunk.nearFree, ht, Option.isNone_some, Bool.and_false]
  have hleft : s.trunk.notices ≤ u.trunk.notices + 1 := by
    rw [Trunk.notices, hown, List.countP_cons]
    change u.trunk.notices + _ ≤ _
    split <;> omega
  have hfreed : u.trunk.notices + 1 ≤ 32 := by
    rw [hown, List.length_cons] at hlength
    have hnotices : u.trunk.notices ≤ rest.length := u.trunk.notices_le
    omega
  have happended : ∀ n : Notice, (u.appendOwn (.notice n)).trunk.notices = u.trunk.notices + 1 := fun n => by
    change List.countP _ (rest ++ [_]) = _
    rw [List.countP_append]
    rfl
  change s.Affords 0 (serveOwed u)
  rcases serveOwed_cases u with h | ⟨c, n, ⟨r, hr, h⟩ | ⟨hclosing, h⟩⟩ <;> rw [h]
  · have hcredit := s.credit_sending (t := u) hidle (hbusy _ rfl) rfl
    have hfrees : u.ledger.frees = s.ledger.frees := rfl
    unfold State.Affords
    rw [jobsCost_nil]
    dsimp only
    omega
  · let v := (u.appendOwn (.notice n)).setCase c r
    have hcredit := s.credit_sending (t := v) hidle (hbusy _ rfl) rfl
    have hfrees : v.ledger.frees = s.ledger.frees := by
      have hset := s.ledger.frees_set c r
      rw [show r.record = (s.ledger.caseAt c).record from hr] at hset
      exact Nat.add_right_cancel hset
    have hnotices : v.trunk.notices = u.trunk.notices + 1 := happended n
    change jobsCost [] + v.credit ≤ 0 + s.credit
    rw [jobsCost_nil]
    omega
  · let v := (u.appendOwn (.notice n)).setCase c .free
    have hcredit := s.credit_sending (t := v) hidle (hbusy _ rfl) rfl
    have hfrees : v.ledger.frees = s.ledger.frees + 1 := by
      refine Ledger.frees_set_freed (a := s.ledger) ?_
      rw [show (s.ledger.caseAt c).record = .closing from hclosing]
      exact RecordState.noConfusion
    have hnotices : v.trunk.notices = u.trunk.notices + 1 := happended n
    change 1 + v.credit ≤ 0 + s.credit
    omega

theorem kickNear_affords (hown : s.trunk.own.length ≤ 32) : s.Affords 0 (kickNear s) := by
  rcases kickNear_cases s with ⟨_, h⟩ | ⟨hidle, ⟨b, rest, turn, hrelay, h⟩ | ⟨f, rest, turn, hf, h⟩⟩ <;> rw [h]
  · exact (State.Spends.nil (n := 0) (.refl _)).affords (.refl _)
  · let v := sendRelay s b rest turn
    have hcredit := s.credit_sending (t := v) hidle (Bool.and_false _) rfl
    have hfrees : v.ledger.frees = s.ledger.frees := rfl
    have hnotices : v.trunk.notices = s.trunk.notices := rfl
    change jobsCost [] + v.credit ≤ 0 + s.credit
    rw [jobsCost_nil]
    omega
  · exact sendOwn_affords s hidle hown hf turn

theorem kick_affords (hown : s.trunk.own.length ≤ 32) : s.Affords 0 (kick s) :=
  (kickNear_affords _ ((kickFar_guards s).own hown)).after (kickFar_credit s).le

end

/-! ### A job done -/

/-- Job `j`, where the transmitters have nothing to begin, comes in some units of fuel to work that keeps the bounds; `n` and the
credit that the work takes pay for both. -/
def State.Pays (s : State) (n : Nat) (j : Job) : Prop :=
  ∃ (k : Nat) (w : Work), 0 < k ∧ (∀ fuel rest, runJobs (fuel + k) (j :: rest) s = runJobs fuel (w.2 ++ rest) w.1) ∧
    s.Guards w.1 ∧ k + (jobsCost w.2 + w.1.credit) ≤ n + s.credit

section

variable {s : State} (hstill : s.trunk.Still)
include hstill

theorem runJobs_of_still (fuel : Nat) (j : Job) (rest : List Job) :
    runJobs (fuel + 1) (j :: rest) s = runJobs fuel ((perform s j).2 ++ rest) (perform s j).1 :=
  runJobs_cons fuel s j rest (kick_of_still hstill)

/-- A job whose work is paid for once it has been done itself. -/
theorem State.Affords.pays {n : Nat} {j : Job} (h : s.Affords n (perform s j)) : s.Pays (n + 1) j := by
  refine ⟨1, perform s j, Nat.one_pos, fun fuel rest => runJobs_of_still hstill fuel j rest, perform_guards s j, ?_⟩
  unfold State.Affords at h
  omega

omit hstill in
/-- The line after a STOP that finds both timers running: nothing starts it again (R11). -/
theorem stopLine_running {l : LineId} (hinterval : (s.line l).intervalTimer.isRunning = true)
    (hceiling : (s.line l).ceilingTimer.isRunning = true) : ∃ r, stopLine s l = (s.setLine l r, []) := by
  by_cases hkeeps : s.KeepsPolling l
  · exact ⟨_, (stopLine_continuous hkeeps).trans (by rw [if_pos hinterval])⟩
  · exact ⟨_, (stopLine_quiet hkeeps).trans (by rw [if_pos hceiling])⟩

omit hstill in
/-- A START leaves the line in CYCLE. -/
theorem credit_started (l : LineId) (wake : Option WakeSource) :
    (s.setLine l (s.startedLine l wake)).credit + 21 * ((s.line l).state == .quietIdle).toNat = s.credit :=
  s.credit_setLine l (s.startedLine l wake)

/-- A START; with an empty slot set the STOP comes at once, and finds both timers running (R6, R11). -/
theorem start_pays (l : LineId) (wake : Option WakeSource) :
    s.Pays (23 - 21 * ((s.line l).state == .quietIdle).toNat) (.start l wake) := by
  let u := s.setLine l (s.startedLine l wake)
  have hidle := Bool.toNat_le ((s.line l).state == .quietIdle)
  have hstarted : u.credit + 21 * ((s.line l).state == .quietIdle).toNat = s.credit := credit_started l wake
  have hsent : ∀ {w : Work}, startLine s l wake = w → jobsCost w.2 ≤ 21 → w.1.credit ≤ u.credit →
      s.Pays (23 - 21 * ((s.line l).state == .quietIdle).toNat) (.start l wake) := by
    rintro w rfl hcost hcredit
    have hpays := State.Affords.pays hstill (n := 22 - 21 * ((s.line l).state == .quietIdle).toNat)
      (j := .start l wake) (show _ ≤ _ by change jobsCost (startLine s l wake).2 + (startLine s l wake).1.credit ≤ _; omega)
    rwa [show 22 - 21 * ((s.line l).state == .quietIdle).toNat + 1 = 23 - 21 * ((s.line l).state == .quietIdle).toNat by
      omega] at hpays
  cases hdelivered : (s.select l (s.slotSet l)).delivered with
  | some e =>
    refine hsent (startLine_delivered wake hdelivered) le_rfl ?_
    exact (Footing.Offers.kept (s := u)).credit_le
      (.setCase { Case.Advances.refl (u.caseAt e.1) with pending := fun _ _ => rfl })
  | none =>
    have hwork := startLine_undelivered wake hdelivered
    by_cases hempty : (s.slotSet l).isEmpty = true
    · rw [if_pos hempty] at hwork
      have huline : u.line l = s.startedLine l wake := s.line_setLine l _
      obtain ⟨r, hstop⟩ := stopLine_running (s := u) (l := l) (by rw [huline]; rfl) (by rw [huline]; rfl)
      have hbegun : s.Guards u := by
        have h := startLine_guards s l wake
        rwa [hwork] at h
      have hguards : s.Guards (u.setLine l r) := by
        have h := hbegun.trans (stopLine_guards u l)
        rwa [hstop] at h
      have hcredit := u.credit_setLine l r
      have hstopped := Bool.toNat_le (r.state == .quietIdle)
      refine ⟨2, (u.setLine l r, []), Nat.two_pos, fun fuel rest => ?_, hguards, ?_⟩
      · rw [runJobs_of_still hstill (fuel + 1), show perform s (.start l wake) = (u, [.stop l]) from hwork]
        change runJobs (fuel + 1) (.stop l :: rest) u = _
        rw [runJobs_of_still (s := u) hstill, show perform u (.stop l) = (u.setLine l r, []) from hstop]
      · rw [jobsCost_nil]
        dsimp only
        omega
    · rw [if_neg hempty] at hwork
      exact hsent hwork (Nat.zero_le _) le_rfl

/-- Work that needs the line: in QUIET_IDLE a START, which the line's leaving QUIET_IDLE pays for (R13). -/
theorem lineWork_pays (l : LineId) : s.Pays 3 (.lineWork l) := by
  rcases lineWork_cases s l with ⟨hidle, h⟩ | ⟨_, h⟩
  · obtain ⟨k, w, hk, hruns, hguards, hcost⟩ := start_pays hstill l none
    refine ⟨k + 1, w, Nat.succ_pos k, fun fuel rest => ?_, hguards, ?_⟩
    · rw [← Nat.add_assoc, runJobs_of_still hstill, show perform s (.lineWork l) = (s, [.start l none]) from h]
      exact hruns fuel rest
    · rw [hidle] at hcost
      change k + _ ≤ 2 + _ at hcost
      omega
  · refine ⟨1, (s, []), Nat.one_pos, fun fuel rest => ?_, .refl s, ?_⟩
    · rw [runJobs_of_still hstill, show perform s (.lineWork l) = (s, []) from h]
    · rw [jobsCost_nil]
      dsimp only
      omega

/-- Every job is paid for by its cost. -/
theorem job_pays (hown : s.trunk.own.length ≤ 32) (j : Job) : s.Pays j.cost j := by
  have hjob : ∀ {n : Nat} {j : Job}, s.Affords n (perform s j) → s.Pays (n + 1) j := fun h => h.pays hstill
  have hchange : ∀ {t : State} {j : Job}, perform s j = (t, []) → s.footing.Offers t.footing → s.ledger.Advances t.ledger →
      s.Pays 1 j := fun hwork hoffers ha => hjob (n := 0) (hwork ▸ (State.Spends.nil hoffers).affords ha)
  cases j with
  | start l wake =>
    obtain ⟨k, w, hk, hruns, hguards, hcost⟩ := start_pays hstill l wake
    exact ⟨k, w, hk, hruns, hguards, hcost.trans (Nat.add_le_add_right (Nat.sub_le _ _) _)⟩
  | stop l => exact hjob (stopLine_affords s l)
  | lineWork l => exact lineWork_pays hstill l
  | advance l slot => exact hjob (advance_affords s l slot)
  | delivered c serial p =>
    exact hjob ((commandDelivered_spends s c p).ite.affords (.ite s fun _ => commandDelivered_advances p))
  | lost c serial owner =>
    exact hjob ((commandLost_spends s c owner).ite.affords (.ite s fun _ => commandLost_advances owner))
  | takenReport i r => exact hjob ((takenReport_spends s i r).affords (.of_eq rfl))
  | silentSlot i => exact hjob ((silentSlot_spends s i).affords (.of_eq rfl))
  | truthTold i => exact hjob ((truthTold_spends s i).affords (.of_eq (truthTold_ledger s i)))
  | raise i causes => exact hjob (raise_affords s i causes)
  | releaseReport c serial moves =>
    exact hjob ((releaseReport_spends s c moves).ite.affords
      (.ite s fun h => releaseReport_advances (s.isOpen_of_holds h) moves))
  | event c serial e => exact hjob ((caseEvent_spends s c e).ite.affords (.ite s fun _ => caseEvent_advances s c e))
  | occupancy c serial =>
    exact hjob ((State.Spends.nil (n := 0) (.of_eq (occupancyChange_footing s c))).ite.affords
      (.ite s fun _ => occupancyChange_advances s c))
  | presses c serial n =>
    exact hjob ((State.Spends.nil (n := 0) .kept).ite.affords (.ite s fun _ => addPresses_advances s c n))
  | summaryReport i before previous =>
    exact hchange rfl (summaryAfterReport_offers s i before previous) (.of_eq (summaryAfterReport_ledger s i before previous))
  | summaryChange i => exact hchange rfl (summaryAfterChange_offers s i) (.of_eq (summaryAfterChange_ledger s i))
  | go c begun target common =>
    obtain ⟨k, w, hk, hruns, hguards, hcost⟩ :=
      hjob (j := .go c begun target common) ((goTo_spends s c begun target common).affords (goTo_advances begun target common))
    refine ⟨k, w, hk, hruns, hguards, ?_⟩
    change _ ≤ 20 - min 16 begun + _
    omega
  | handoverTest c => exact hchange rfl (handoverTest_offers s c) (handoverTest_advances s c)
  | clearing c => exact hjob ((clearCase_spends s c .procedure).ite.affords (.ite s fun _ => clearCase_advances s c .procedure))
  | close c reason => exact hjob (closeCase_affords s hown c reason)
  | arbitrate => exact hjob (arbitrate_affords s)
  | panelLogged p logged => exact hjob ((panelLogged_spends s p logged).affords (.of_eq (panelLogged_ledger s p logged)))
  | panelRequest p toggle request serial => exact hjob (panelRequest_affords s hown p toggle request serial)
  | panelHold p hold press => exact hjob ((panelHold_spends s p hold press).affords (.of_eq rfl))
  | panelInputs p inputs => exact hjob ((panelInputs_spends s p inputs).affords (.of_eq rfl))
  | panelSilent p => exact hjob ((panelSilent_spends s p).affords (.of_eq rfl))
  | clearPanel p => exact hjob ((clearPanel_spends s p).affords (.of_eq rfl))
  | crewLeft p tag => exact hjob ((crewLeft_spends s p tag).affords (.of_eq (crewLeft_ledger s p tag)))
  | crewLogin p tag => exact hjob ((crewLogin_spends s p tag).affords (.of_eq (crewLogin_ledger s p tag)))
  | loginArrival p k => exact hjob ((loginArrival_spends s p k).affords (loginArrival_advances s p k))
  | releaseCrewLeft c p k => exact hjob ((releaseCrewLeft_spends s c p k).affords (releaseCrewLeft_advances p k))
  | holdChange c p was hold press =>
    exact hchange rfl (.of_eq (holdChange_footing s c p was hold press)) (holdChange_advances p was hold press)
  | sharedEval i => exact hjob ((sharedEval_spends s i).affords (.of_eq (sharedEval_ledger s i)))
  | releaseReset c l => exact hjob ((releaseReset_spends s c l).affords (releaseReset_advances l))
  | resetLift i => exact hjob ((resetLift_spends s i).affords (.of_eq (resetLift_ledger s i)))
  | enterLift i st => exact hjob ((enterLift_spends s i st).affords (.of_eq (enterLift_ledger s i st)))
  | restartLine l => exact hjob (restartLine_affords s l)

end

/-! ### Handlings -/

/-- A handling whose budget exceeds the costs of its jobs and the credit of the state comes to its end. -/
theorem runJobs_ends (n : Nat) : ∀ (jobs : List Job) (s : State), s.trunk.own.length ≤ 32 → jobsCost jobs + s.credit < n →
    ∃ t, runJobs n jobs s = .next t := by
  induction n using Nat.strongRecOn with
  | ind n ih =>
    intro jobs s hown hcost
    have hkick : jobsCost (kick s).2 + (kick s).1.credit ≤ 0 + s.credit := kick_affords s hown
    have hu : (kick s).1.trunk.own.length ≤ 32 := (kick_guards s).own hown
    obtain ⟨m, rfl⟩ := Nat.exists_eq_succ_of_ne_zero (Nat.ne_zero_of_lt hcost)
    unfold runJobs
    dsimp only
    split
    · exact ⟨_, rfl⟩
    · next j rest hjobs =>
      obtain ⟨k, w, hk, hruns, hguards, hpaid⟩ := job_pays (kick_still s) hu j
      have htotal := congrArg jobsCost hjobs
      rw [jobsCost_append, jobsCost_cons] at htotal
      obtain ⟨fuel, hfuel⟩ := Nat.exists_eq_add_of_le' (show k ≤ m + 1 by omega)
      rw [← runJobs_of_still (kick_still s), hfuel, hruns]
      refine ih fuel (by omega) _ _ (hguards.own hu) ?_
      rw [jobsCost_append]
      omega

theorem finish_ends {w : Work} (hown : w.1.trunk.own.length ≤ 32) (hcost : jobsCost w.2 ≤ 2000) :
    ∃ t, finish w = .next t := by
  have hcredit := w.1.credit_le
  exact runJobs_ends Config.cascadeBudget w.2 w.1 hown (show _ < 10000 by omega)

/-- Settles O4: a command begins with work whose jobs, with all that they come to, stay below the budget. -/
theorem everyHandlingComesToItsEnd : Obligations.EveryHandlingComesToItsEnd := by
  intro c s hown
  have hexec := exec_undertakes c s
  generalize exec c s = out at hexec
  cases hexec with
  | @done t _ => exact ⟨t, rfl⟩
  | begun h => exact finish_ends (h.guards.own hown) h.cost

end Sys2Proof.Machine
end
